-- ==== Sys2Proof/Word.lean ====
section
/-! DEFINITION. The word and byte types and their plainest arithmetic (R2, R3, R4 of 00_scope.md). -/

namespace Sys2Proof

/-- A register or memory word (R2: bit 0 is the least significant). -/
abbrev Word := BitVec 32

/-- One byte of memory, of a frame or of a key. -/
abbrev Byte := BitVec 8

/-- The signed value of the low `w` bits of `n`, two's complement (R4). -/
def signedOf (w n : Nat) : Int :=
  if n % 2 ^ w < 2 ^ (w - 1) then (n % 2 ^ w : Nat) else ((n % 2 ^ w : Nat) : Int) - (2 ^ w : Nat)

/-- The `w`-bit two's complement code of `i` (R4). -/
def unsignedOf (w : Nat) (i : Int) : Nat := (i % ((2 ^ w : Nat) : Int)).toNat

/-- The bytes of `v`, `n` of them, least significant first (R3). -/
def leBytes : Nat → Nat → List Byte
  | 0, _ => []
  | n + 1, v => BitVec.ofNat 8 v :: leBytes n (v / 256)

/-- The value of a list of bytes, least significant first (R3). -/
def leValue : List Byte → Nat
  | [] => 0
  | b :: bs => b.toNat + 256 * leValue bs

/-- The signed value of a little-endian field (R3, R4). -/
def leSigned (bs : List Byte) : Int := signedOf (8 * bs.length) (leValue bs)

/-- Bits [hi:lo] of `n`. -/
def bitsOf (hi lo n : Nat) : Nat := n / 2 ^ lo % 2 ^ (hi - lo + 1)

/-- A Boolean as the bit it is stored as. -/
def bit (b : Bool) : Nat := if b then 1 else 0

/-- `a + 1`, saturating at `m`. -/
def satInc (m a : Nat) : Nat := min m (a + 1)

/-- `i` held within `lo` to `hi`. -/
def clampInt (lo hi i : Int) : Int := if i < lo then lo else if hi < i then hi else i

/-- Division rounded up. -/
def ceilDiv (a b : Nat) : Nat := (a + b - 1) / b

/-- Signed division rounded to nearest, halves up (assumption 10, DESIGN CHOICE). -/
def roundDiv (a : Int) (b : Nat) : Int := (2 * a + b).fdiv (2 * b)

/-- Truncating bytes to a fixed length, zeros appended. -/
def padTo (n : Nat) (bs : List Byte) : List Byte := (bs ++ List.replicate n 0).take n

end Sys2Proof
end

