-- ==== Sys2Proof/Names.lean ====
section
/-! DEFINITION. The fixed sets of names the chapters use: modes, agents, areas, frames and the other small
alternatives that commands carry. -/

namespace Sys2Proof

/-- The eight modes, with the codes of Table MODE-1. -/
inductive Mode where
  | shelf | dark | wake | pump | field | snapshot | service | safe
  deriving DecidableEq, Repr

def Mode.code : Mode → Nat
  | .shelf => 0 | .dark => 1 | .wake => 2 | .pump => 3 | .field => 4 | .snapshot => 5 | .service => 6 | .safe => 7

def Mode.ofCode : Nat → Mode
  | 0 => .shelf | 1 => .dark | 2 => .wake | 3 => .pump | 4 => .field | 5 => .snapshot | 6 => .service | _ => .safe

/-- The modes in which SYS runs (Table MODE-1). -/
def Mode.powered : Mode → Bool
  | .shelf | .dark | .snapshot => false
  | _ => true

/-- Who makes a register or memory access: the five agents of Table RIG-3, the debug port, and the resident
loader, whose CONF writes go as MAIN's would (R135). -/
inductive Actor where
  | main | gnss | radio | loop | host | debug | loader
  deriving DecidableEq, Repr

/-- The agent codes of R169; the debug port and the loader act as MAIN (R170, R135). -/
def Actor.code : Actor → Nat
  | .gnss => 1 | .radio => 2 | .loop => 3 | .host => 4 | _ => 0

/-- The agents that MAIN loads at a start, in their order (R20). -/
inductive Agent where
  | loop | gnss | radio
  deriving DecidableEq, Repr

def Agent.code : Agent → Nat
  | .gnss => 1 | .radio => 2 | .loop => 3

/-- Results of a targeted test (`STAT.TEST_RES`, R489). -/
inductive TestRes where
  | pass | fail | aborted
  deriving DecidableEq, Repr

def TestRes.code : TestRes → Nat
  | .pass => 1 | .fail => 2 | .aborted => 3

/-- Causes of a MAIN reset (`SYS.RESET_CAUSE`, bits 2 to 4). -/
inductive ResetCause where
  | main | sw | debug
  deriving DecidableEq, Repr

/-- Blocks with a window that can overrun, in `TICK.OVR` bit order (Table TICK-6). -/
inductive OvrBlock where
  | adc | gal | sectq | sync | gpvt | hbeat
  deriving DecidableEq, Repr

def OvrBlock.bit : OvrBlock → Nat
  | .adc => 0 | .gal => 1 | .sectq => 2 | .sync => 3 | .gpvt => 4 | .hbeat => 5

/-- What the bus shows at a disable (R357): idle, the part's own head, or another node's frame. -/
inductive BusUse where
  | idle | own | other
  deriving DecidableEq, Repr

/-- What MAIN's LIP service is told to do: a "replace partner" for an address (R548), a CFG_SET value to hold for a partner
(R382), a QUIET for a partner or for all, 0 pools until the next (R384), or the export of a snapshot slot to a partner (R386).
Addresses count from 0x10. -/
inductive LipOrder where
  | replace (addr : Fin 64)
  | config (addr : Fin 64) (index : BitVec 8) (value : BitVec 32)
  | quiet (addr : Option (Fin 64)) (limit : BitVec 8) (pools : BitVec 16)
  | export_ (addr : Fin 64) (slot : Fin 8)
  deriving DecidableEq, Repr

/-- How a transmission attempt ends (R341); `lec` is the error's code in `ERRC.LEC`. -/
inductive CanOutcome where
  | sent | lost | error (lec : Fin 7)
  deriving DecidableEq, Repr

/-- What the GNSS core forms at an epoch from its measurements (R240): the satellites in view for
which the ephemeris that the core holds is valid at the time solved for, by PRN minus 1, with their elevation in degrees; how many contribute Doppler; PDOP in 0.1; GPS week, ms of week and the ns beyond
them at the epoch edge; position in 1e-7° and mm; accuracies in cm; velocity in mm/s; clock drift in ns/s; satellites
with corrections; distance to the base in 0.1 km; RTK ratio in 0.1; the measured baseline in mm, its ratio in 0.1 and the
line bias. Of a coarse-time solution, the slot of its snapshot (R255). -/
structure NavFix where
  seen : List (Fin 32 × Fin 91)
  doppler : Nat
  pdop : Nat
  week : Nat
  tow : Nat
  ns : Nat
  lat : Int
  lon : Int
  height : Int
  hacc : Nat
  vacc : Nat
  ve : Int
  vn : Int
  vu : Int
  drift : Int
  corrected : Nat
  dist : Nat
  ratio : Nat
  blE : Int
  blN : Int
  blU : Int
  blRatio : Nat
  lineBias : Int
  slot : Option (BitVec 32)
  deriving DecidableEq, Repr

/-- What a channel measures at an epoch edge (R238): C/N0 in dB-Hz, Doppler in Hz, code phase in 1/1024 chip, the
millisecond within the data bit, carrier phase in 1/1024 cycle, whether data-bit edges are found, a half cycle has been
resolved, and whether pull-in has reached the frequency loop. -/
structure ChanObs where
  chan : Fin 48
  cn0 : BitVec 8
  dopp : BitVec 16
  phase : BitVec 20
  ms : Fin 20
  carr : BitVec 32
  bitsync : Bool
  half : Bool
  fll : Bool
  deriving DecidableEq, Repr

/-- What the front end measures over a pool or at a receiver start (R226, R230): bias currents in mA, in-band power and
noise floors in 0.25 dB, AGC codes, each for ANT_A and ANT_B. -/
structure Front where
  ma : List Nat
  power : List Int
  floor : List Int
  agc : List Nat
  deriving DecidableEq, Repr

end Sys2Proof
end

