-- ==== Sys2Proof/Syntax.lean ====
section
/-! DEFINITION. The commands the part takes from outside: one constructor per row of the table of operations and
events, with the operands the model gives them. -/

namespace Sys2Proof


/-- The commands: one constructor per row of the table of operations and events. Each carries what the outside
world gives the command (a value written, a level on a ball, a frame received, a measurement); the table gives
no operands, so they are the model's choice (assumption 1). -/
inductive Instr where
  /-- VIN_3V3_RANGE_ENTRY (R520): VIN_3V3 enters its monitored range after power-on; the supply monitor sets
  VIN_OK and the start can proceed. -/
  | vin3v3RangeEntry (ldo vbat : Bool)
  /-- VDD_1V8_LATE (R540): External VDD_1V8 has not reached 1.71 V within 2 ms; reset is held and START_FAIL
  is set. -/
  | vdd1v8Late
  /-- VIN_3V3_RANGE_LOSS (R60): VIN_3V3 leaves its range; PV good deasserts at once and, without VBAT_AON,
  the AON domain loses power. -/
  | vin3v3RangeLoss (vbat : Bool)
  /-- PV_GOOD_ASSERT (R60): The VPV ball has stayed at or above ON for DEB_ON units; PV good asserts and a
  WAKE entry begins. -/
  | pvGoodAssert (ball units : BitVec 8)
  /-- PV_GOOD_DEASSERT (R60): The VPV ball has stayed below OFF for DEB_OFF units; PV good deasserts and the
  descent begins. -/
  | pvGoodDeassert (ball units : BitVec 8)
  /-- SNAP_MIN_LOSS (R64): In SNAPSHOT the ball voltage falls below SNAP_MIN or VIN_3V3 leaves its range; the
  part goes to DARK and keeps a partial snapshot. -/
  | snapMinLoss (ball : BitVec 8)
  /-- VBAT_LOW_TIMEOUT (R64): In DARK, VBAT_AON has stayed below VBAT_LOW for 10 s; the part goes to SHELF.
  -/
  | vbatLowTimeout (level : BitVec 8)
  /-- START (R76): The start-up sequence runs from PV good or a MAIN reset to the running MAIN image. -/
  | start (loaderOk : Bool) (ks06 : List Byte)
  /-- MAIN_RESET (R86): MAIN is reset; PWM outputs go safe in hardware, standing requests clear, WAKE is
  entered and the gallery keeps its coverage. -/
  | mainReset (cause : ResetCause)
  /-- TICK_START (R30): The PLL locks and the tick generator starts at drip 0 of pool 0 of epoch 0. -/
  | tickStart
  /-- PLL_LOCK_TIMEOUT (R541): The PLL has not locked 10 ms after reset release; the tick starts in fallback
  timing from the 32 MHz crystal. -/
  | pllLockTimeout
  /-- TCXO_OR_PLL_LOSS (R87): TCXO or PLL lock is lost; outputs go safe within 2 µs, the tick runs in
  fallback timing and SAFE is entered with PW05. -/
  | tcxoOrPllLoss (tcxo : Bool)
  /-- XT32M_LOSS (R87): The 32 MHz crystal is lost; the part enters SAFE with PW06. -/
  | xt32mLoss
  /-- XT32K_LOSS (R87): The 32.768 kHz crystal is lost; the AON domain runs from its internal oscillator and
  PW07 is recorded. -/
  | xt32kLoss
  /-- AGENT_LOAD (R20): MAIN loads LOOP microcode, the GNSS core or the RADIO core from its image and
  releases it from reset after a digest match. -/
  | agentLoad (agent : Agent) (upset : Bool)
  /-- RADIO_IDLE_TIMEOUT (R27): On WAKE entry from DARK the RADIO core has not reported idle within 50 ms;
  MAIN reloads it and the frame in progress is lost. -/
  | radioIdleTimeout (upset : Bool)
  /-- DRIP_EDGE (R30): A drip edge occurs every 16,368 SYS cycles; field time advances, the ADC samples and
  the ledger credits refill. -/
  | dripEdge (levels : List Bool)
  /-- POOL_EDGE (R30): Every 100th drip edge is a pool edge, at which decided mode transitions and ladder
  steps take effect. -/
  | poolEdge (front : Front)
  /-- EPOCH_EDGE (R30): Every 10th pool edge is an epoch edge, at which tracking channels are latched. -/
  | epochEdge (obs : List ChanObs)
  /-- ADC_GROUP_COMPLETE (R286): All ADC results are in place at 4 µs; corrected values are computed and the
  DMA entry is written. -/
  | adcGroupComplete (codes : List (BitVec 12))
  /-- ADC_CONVERSION_FAIL (R288): A core fails a conversion; its channels are marked stale, the ADC overrun
  is set and the ADC test starts. -/
  | adcConversionFail (coreB : Bool)
  /-- ADC_DISABLE (R559): A write of 0 to ADC.CTRL.EN in SERVICE stops conversion with results held stale. -/
  | adcDisable
  /-- LOOP_RUN (R299): From SYS cycle 655 the slots due in the drip run in ascending order, 56 cycles each.
  -/
  | loopRun
  /-- LOOP_OUTPUT_WRITE (R34): At SYS cycle 3,274 LOOP writes its outputs to the PWM shadow registers and
  sets load-all. -/
  | loopOutputWrite
  /-- PWM_TRANSFER (R267): A requested load-all transfers the shadow registers to the active registers at the
  module's transfer point. -/
  | pwmTransfer (m : Fin 4)
  /-- LDALL (R267): A write of 1 to CTRL.LDALL requests a transfer of all shadow registers. -/
  | ldall (m : Fin 4)
  /-- PWM_COUNTER_EVENT (R285): A zero, period or compare event of the counter raises its interrupt at the
  prescaled rate. -/
  | pwmCounterEvent (m : Fin 4) (kind : Fin 4)
  /-- FAULT_INPUT (R273): A pulse on FLT0 or FLT1 latches the fault and forces the enabled modules within 40
  ns. -/
  | faultInput (input : Fin 2) (level : Bool) (ns : Nat) (stays : Bool)
  /-- FAULT_SLOT_MAN (R274): At the drip edge after a fault latch every LOOP slot targeting a latched module
  is set to MAN. -/
  | faultSlotMan
  /-- FLTCLR (R273): A write to FLTCLR clears a latched fault if its input is inactive, or sets CLR_ACTIVE.
  -/
  | fltclr (m : Fin 4) (input : Fin 2)
  /-- DEAD_TIME_UPDATE (R278): Each period the switching-node crossing time sets a target and the leg's dead
  time moves toward it. -/
  | deadTimeUpdate (m : Fin 4) (leg : Fin 3) (rise fall : Option Nat)
  /-- DT_CONV_TIMEOUT (R279): A leg whose CONV is still clear after 64 periods, or whose SLOW is set, sets
  ERR.DT and starts the PWM test. -/
  | dtConvTimeout (m : Fin 4) (leg : Fin 3)
  /-- BOOTSTRAP_REFRESH (R280): After BOOT_MAX periods without an off interval a refresh pulse is inserted at
  the next zero event. -/
  | bootstrapRefresh (m : Fin 4) (leg : Fin 3)
  /-- COMM_MODE_WRITE (R284): A write to COMM.MODE starts six-step from COMM.START, or removes the mask at
  the next transfer. -/
  | commModeWrite (w : Word)
  /-- COMM_TIMER (R282): The commutation timer expires and the step advances, or a miss is counted in ZC
  mode. -/
  | commTimer (us : Nat)
  /-- ZC_EDGE (R282): A back-EMF crossing of the OFF leg in the expected direction is accepted after
  blanking. -/
  | zcEdge (leg : Fin 3) (rising : Bool) (us : Nat)
  /-- COMM_STEP_ADVANCE (R282): DLY/256 of the last interval after an accepted ZC edge the commutation step
  advances. -/
  | commStepAdvance (us : Nat)
  /-- GALLERY_INPUT_LATCH (R37): At drip 9 the gallery latches the latest record, CAP data and its
  configuration, and updates availability. -/
  | galleryInputLatch
  /-- GALLERY_EVALUATION (R199): In drips 10 to 89 the gallery decides each section's transition and due drip
  for the window of pool P+2. -/
  | galleryEvaluation (cycles : BitVec 21) (missed : List (Fin 256))
  /-- SECTION_COMMAND_LATCH (R200): At drip 90 one switch drip and full output map are latched per assigned
  boom node. -/
  | sectionCommandLatch
  /-- SECT_CMD_QUEUE (R45): At drip 92 the tick pusher queues all SECT_CMD frames or none. -/
  | sectCmdQueue
  /-- SYNC_QUEUE (R366): At drip 95 the tick pusher queues a SYNC carrying SEQ, REF and the SOF time of an
  earlier SYNC. -/
  | syncQueue
  /-- HEARTBEAT_QUEUE (R376): At drip 97 of pool 5 the coordinator HEARTBEAT is queued. -/
  | heartbeatQueue
  /-- MODE_EVALUATION (R63): At drip 99 the mode controller evaluates power, requests and faults and decides
  any transition. -/
  | modeEvaluation
  /-- LADDER_SHED (R70): A step whose shed count has run SHED_T evaluations is shed at the pool edge. -/
  | ladderShed
  /-- LADDER_RESTORE (R71): A step whose restore count has run RESTORE_T evaluations is restored at the pool
  edge. -/
  | ladderRestore
  /-- FIELD_EXIT_VALVE_CLOSE (R75): At drip 0 of P+3 of the leaving sequence the valves close and the forced
  checkpoint starts. -/
  | fieldExitValveClose
  /-- BLOCK_OVERRUN (R43): A block still working at the end of its window sets its overrun bits, records an
  ERR, starts its test and applies its degrade step. -/
  | blockOverrun (o : OvrBlock)
  /-- GALLERY_DEGRADE_EXIT (R44): HOLD pools have passed in degrade without overrun; the gallery returns to
  full rate and raises DEG_EXIT. -/
  | galleryDegradeExit
  /-- GPVT_RECORD_ABANDON (R52): A record still unposted at the next epoch edge is abandoned and GPVT_LAT
  reads 0x3FF. -/
  | gpvtRecordAbandon
  /-- TICK_FREEZE (R56): A write of 1 to TICK.CTRL.FREEZE at FULL in SERVICE stops the drip edges from the
  next edge, or is refused. -/
  | tickFreeze
  /-- TICK_UNFREEZE (R56): Clearing FREEZE restarts the tick from drip 0 and realigns field time. -/
  | tickUnfreeze
  /-- TICK_HOLD_WRITE (R54): A new HOLD applies to the degrade in progress, ending it at the next pool edge
  if already reached. -/
  | tickHoldWrite (actor : Actor) (v : Word)
  /-- SERVICE_REQUEST (R64): A SERVICE request is judged and SERVICE is entered, through the leaving sequence
  from FIELD. -/
  | serviceRequest
  /-- LEAVE_SERVICE (R64): A LEAVE_SERVICE request returns the part from SERVICE to WAKE. -/
  | leaveService
  /-- SAFE_REQUEST (R64): A SAFE request sets the SAFE latch and enters SAFE. -/
  | safeRequest
  /-- SAFE_CLR (R494): A SAFE_CLR request leaves SAFE for WAKE if no cause remains, or ends REFUSED_CAUSE. -/
  | safeClr
  /-- SHELF_REQUEST (R64): A SHELF request from WAKE or SERVICE enters SHELF after a forced checkpoint if a
  map is loaded. -/
  | shelfRequest
  /-- READY_SET (R77): MAIN sets SYS.STANDING.READY, allowing the part to leave WAKE for PUMP. -/
  | readySet
  /-- LC_KEY_WRITE (R90): A write of the key value to SEC.LC_KEY arms a lifecycle advance for 1,000 drips;
  any other value disarms. -/
  | lcKeyWrite (key : Word)
  /-- LC_ADVANCE (R90): A write to LC_ADV.TARGET is judged and, if accepted, starts programming the next
  lifecycle word. -/
  | lcAdvance (target : Fin 4)
  /-- LC_ADVANCE_DONE (R90): The lifecycle word has been programmed; ADV_RES reads DONE and NEXT sets. -/
  | lcAdvanceDone
  /-- LC_ARM_EXPIRE (R90): 1,000 drips pass after the key write and the armed advance lapses. -/
  | lcArmExpire
  /-- LOAD (R96): Key operation LOAD stores plaintext from DATA0 to DATA7 into a slot. -/
  | load (slot : Fin 32)
  /-- WRAP (R95): Key operation WRAP writes a 64-byte blob of a slot to SRAM. -/
  | wrap (slot : Fin 32)
  /-- UNWRAP (R95): Key operation UNWRAP reads a blob and installs the key or ends AUTH_FAIL. -/
  | unwrap (slot : Fin 32)
  /-- ZEROIZE (R106): Key operation ZEROIZE empties a slot and stops any operation holding it with KEYLOST.
  -/
  | zeroize (slot : Fin 32)
  /-- PROG_OTP (R93): Key operation PROG_OTP programs a KS01 or KS05 record or the next KS06 or KS07 hash
  record. -/
  | progOtp (slot : Fin 32)
  /-- KEY_OP_END (R96): A key operation ends and its result appears in OP_STAT. -/
  | keyOpEnd
  /-- KEY_PENDING_INSTALL (R107): When the operation holding a slot completes, the pending rewritten key is
  installed. -/
  | keyPendingInstall (slot : Fin 16)
  /-- XTS_DEC (R97): A crypto job decrypts AES-256-XTS data under KS01. -/
  | xtsDec
  /-- GCM_ENC (R97): A crypto job encrypts with AES-256-GCM and writes the tag. -/
  | gcmEnc
  /-- GCM_DEC (R97): A crypto job decrypts with AES-256-GCM and checks the tag. -/
  | gcmDec
  /-- CCM_ENC (R97): A crypto job encrypts with CCM* and writes the MIC. -/
  | ccmEnc
  /-- CCM_DEC (R97): A crypto job decrypts with CCM* and checks the MIC. -/
  | ccmDec
  /-- SHA256 (R97): A crypto job computes a SHA-256 digest. -/
  | sha256
  /-- ED_VERIFY (R97): A crypto job verifies an Ed25519 signature. -/
  | edVerify
  /-- JOB_END (R98): A crypto job ends with exactly one status, zeroing the destination on a failed
  decryption. -/
  | jobEnd (done : Nat)
  /-- JOB_ABORT (R108): JOB_CTRL.ABORT stops a job at its next block boundary with ABORTED, unless it has
  finished or is ED_VERIFY. -/
  | jobAbort (late : Bool)
  /-- TRNG_READ (R99): A read of SEC.TRNG.DATA returns fresh entropy, stalling until the word is ready. -/
  | trngRead
  /-- TRNG_HEALTH_FAIL (R99): The entropy source fails a health test; reads return 0, TRNG_FAIL is set and
  the SEC test runs. -/
  | trngHealthFail
  /-- IDCODE (R100): The TAP instruction IDCODE reads 0x1256_00B7. -/
  | idcode
  /-- BYPASS (R100): The TAP instruction BYPASS selects the 1-bit bypass register. -/
  | bypass (tdi : List Bool)
  /-- CHAL_NONCE_REQUEST (R101): Through CHAL the debugger requests a nonce, which the part draws from the
  TRNG. -/
  | chalNonceRequest
  /-- CHAL_SIGNATURE (R101): Through CHAL the debugger submits a level, duration and signature, which the
  part verifies under KS06. -/
  | chalSignature (full : Bool) (minutes : BitVec 16) (sig : List Byte)
  /-- CHAL_NONCE_EXPIRE (R101): A challenge nonce becomes invalid 60 s after it was drawn. -/
  | chalNonceExpire
  /-- CHAL_LOCKOUT_END (R102): The 600 s lock-out ends and the failure count returns to 0. -/
  | chalLockoutEnd
  /-- DEBUG_AUTH_EXPIRE (R103): A challenge authorization runs out and the effective level is recomputed. -/
  | debugAuthExpire
  /-- DBG_REQ_WRITE (R103): A write of 0 or 1 to DBG.REQ lowers the debug ceiling. -/
  | dbgReqWrite (v : Fin 4)
  /-- DREAD (R100): The TAP instruction DREAD reads registers, recorder SRAM and tag memory at READ level. -/
  | dread (a : Word) (w : Option Word)
  /-- DACC (R100): The TAP instruction DACC reads and writes any register and memory at FULL level. -/
  | dacc (a : Word) (w : Option Word)
  /-- DHALT (R105): The TAP instruction DHALT halts or resumes agents; halting MAIN forces outputs safe and
  sends all-closed commands. -/
  | dhalt (agent : Fin 3) (halt : Bool) (brk : Option Word)
  /-- REGISTER_WRITE (R125): A write to a register with no row of its own is stored by each field's access
  code, with blocking on RWL fields. -/
  | registerWrite (actor : Actor) (addr w : Word)
  /-- READ_CLEAR (R5): A read of an RC register returns its value and clears it, except from the debug port
  at READ. -/
  | readClear (actor : Actor) (addr : Word)
  /-- BLK_SUMMARY_READ (R132): A read of BLK.SUMMARY returns the clamp total and clears CLAMP.COUNT on every
  page. -/
  | blkSummaryRead (actor : Actor)
  /-- REP_CLR (R130): A write of 1 to BLK.REP_CLR empties the clamp report. -/
  | repClr
  /-- SUBWORD_REGISTER_ACCESS (R7): A byte or half-word access to a register page completes without effect.
  -/
  | subwordRegisterAccess (actor : Actor) (addr : Word)
  /-- UNMAPPED_ACCESS (R116): An access outside the memory map completes without effect, faults MAIN and
  records an event. -/
  | unmappedAccess (actor : Actor) (addr : Word)
  /-- PAGE_ACCESS_DENIED (R19): A GNSS or RADIO core access to a page outside its set returns 0 and records
  an event. -/
  | pageAccessDenied (radio : Bool) (page : Fin 48) (write : Bool)
  /-- LOCK_WRITE (R13): A write of 1 to LOCK locks the page's RWL fields until the next boot. -/
  | lockWrite (page : Fin 48)
  /-- SOFT_RESET (R120): A write of 1 to CTRL.SRST returns the block to reset values as R120 and Table PAGE-5
  state. -/
  | softReset (page : Fin 48)
  /-- BLOCK_FREEZE (R121): A write to CTRL.FREEZE halts or resumes the block, honoured only at FULL. -/
  | blockFreeze (page : Fin 48) (on : Bool)
  /-- IRQ_PEND_CLEAR (R122): A 1 written to an IRQ_PEND bit clears it and the matching IRQ_RAW bit. -/
  | irqPendClear (page : Fin 48) (mask : Word)
  /-- TEST_START (R490): A write of 1 to TEST.START starts a diagnostic run of the page's targeted test. -/
  | testStart (page : Fin 48)
  /-- TEST_ABORT (R489): A write of 1 to TEST.ABORT ends the page's running test ABORTED. -/
  | testAbort (page : Fin 48)
  /-- CAL_REWRITE_START (R145): CAL.CMD.START in SERVICE checks the buffer and starts erasing and programming
  sector 0. -/
  | calRewriteStart
  /-- CAL_REWRITE_END (R145): The calibration rewrite finishes its verify and ends DONE or VERIFY_FAIL,
  clearing the REWRITE flag. -/
  | calRewriteEnd (ok : Bool)
  /-- CAL_RELOAD (R145): At the next pool edge the calibration registers are reloaded from flash with
  fallbacks and restrictions. -/
  | calReload
  /-- ERASE (R147): FLASH.CMD.START with OP ERASE is judged and queues a sector erase. -/
  | erase
  /-- PROGRAM (R147): FLASH.CMD.START with OP PROGRAM is judged and queues a page program. -/
  | program
  /-- FLASH_ABORT (R149): FLASH.CMD.ABORT stops the running operation within 20 µs with ABORTED. -/
  | flashAbort
  /-- FLASH_OP_END (R146): A flash operation ends, its status is posted and the controller serves the next
  requester. -/
  | flashOpEnd (ok : Bool)
  /-- FLASH_CACHE_MISS_SUSPEND (R148): A MAIN cache-miss read suspends a flash operation, is served, and the
  operation resumes. -/
  | flashCacheMissSuspend (a : Word)
  /-- SRAM_ACCESS (R159): A master's SRAM access is granted a beat, checked by the fences and by ECC. -/
  | sramAccess (master : Fin 10) (a : Word) (kind size : Fin 3) (v : Word) (phase : Option (Fin 8)) (rivals : List (Fin 14)) (late : Bool) (upset : BitVec 39)
  /-- SCRUB_READ (R157): The scrub reads its next word in a bank on a leftover or late beat and corrects
  single-bit errors. -/
  | scrubRead (bank : Fin 8) (late : Bool) (rivals : List (Fin 13)) (upset : BitVec 39) (overtaken : Bool)
  /-- ECC_INJECT (R156): A write to ECC.INJ in SERVICE arms a one- or two-bit data flip for the next write to
  the named word. -/
  | eccInject (mask : Word)
  /-- FENCE_COMMIT (R160): A write of 1 to FENCE.COMMIT.GO marks the pending rules to take effect at the next
  drip edge. -/
  | fenceCommit
  /-- FENCE_APPLY (R160): At the drip edge after a commit the pending rules take effect and APPLIED.GEN
  updates. -/
  | fenceApply (levels : List Bool)
  /-- BWL_RES_WRITE (R165): A reservation write is clamped and admission lowers lower-priority reservations
  until the bank sum fits. -/
  | bwlResWrite (master : Fin 10) (bank : Fin 8) (v : BitVec 14)
  /-- MBX_POST (R170): A write to TX_HDR by the sender posts a notice, overwriting with COLL or discarding if
  the receiver is off. -/
  | mbxPost (actor : Actor) (n : Fin 16) (hdr : Word)
  /-- RX_HDR_TAKE (R170): The receiver's read of RX_HDR returns the notice, clears FULL and the doorbell. -/
  | rxHdrTake (actor : Actor) (n : Fin 16)
  /-- MBX_TIMEOUT (R173): TMO drip edges pass without a take; MSTAT.TMO is set and TMO raised. -/
  | mbxTimeout (n : Fin 16)
  /-- MBX_RECEIVER_OFF (R172): A receiver goes off while a notice is held; the notice is discarded with TMO
  and DROP. -/
  | mbxReceiverOff (n : Fin 16)
  /-- MBX_READDRESS (R172): A write to CFG.RECEIVER readdresses a held notice to the new receiver. -/
  | mbxReaddress (n : Fin 16) (receiver : Fin 8)
  /-- HOST_READ (R175): The host command READ returns n words from SRAM. -/
  | hostRead (early : Bool) (a : Word) (n : BitVec 16)
  /-- HOST_WRITE (R177): The host command WRITE writes n words to SRAM after HOST_CS rises. -/
  | hostWrite (early : Bool) (a : Word) (ws : List Word)
  /-- HOST_STATUS (R175): The host command STATUS returns the doorbell map, last result and field time. -/
  | hostStatus (early : Bool)
  /-- MBX_SEND (R175): The host command MBX_SEND posts a notice as HOST. -/
  | mbxSend (early : Bool) (n : BitVec 8) (ptr : Word) (len : BitVec 16) (tag : BitVec 8)
  /-- MBX_TAKE (R175): The host command MBX_TAKE takes a notice for HOST. -/
  | mbxTake (early : Bool) (n : BitVec 8)
  /-- HOST_BAD_FRAME (R175): A host frame with a bad CRC, unknown command or wrong length is ignored and
  reported in the status byte. -/
  | hostBadFrame (early : Bool) (mosi : List Byte)
  /-- HOST_FRAME_ABANDON (R185): HOST_CS rises before a frame's CRC; the frame has no effect and ends
  ABANDONED. -/
  | hostFrameAbandon (early : Bool)
  /-- HOST_IDLE_TIMEOUT (R179): IDLE × 100 drips pass without a good frame; HOST counts as off. -/
  | hostIdleTimeout
  /-- BOUNDARY_LOAD (R193): A write to GAL0.BND.NPOLY reads and copies the boundary table, clamping to 0 if
  it is invalid. -/
  | boundaryLoad (v : BitVec 4)
  /-- DELAY_OBSERVATION_END (R205): A valve-delay observation window ends and an accepted observation updates
  the learned delay. -/
  | delayObservationEnd (c : Fin 4)
  /-- HOLD_EXPIRY (R208): A gallery hold reaches HOLD.T and the CLOSE or FREEZE policy applies. -/
  | holdExpiry
  /-- CHECKPOINT_START (R210): A coverage checkpoint starts every 1,000 pools in FIELD, at 96 dirty tiles, or
  forced. -/
  | checkpointStart
  /-- CKPT (R210): A write of 1 to MAPCMD.CKPT starts a checkpoint. -/
  | ckpt
  /-- CHECKPOINT_RECORD_WRITE (R210): One journal record of a dirty tile is programmed and verified, LAST on
  the final one. -/
  | checkpointRecordWrite (ok : Bool)
  /-- JOURNAL_FOLD (R211): Before erasing the oldest journal sector the gallery folds newest records into
  their homes. -/
  | journalFold
  /-- CLEAR (R213): A write of 1 to MAPCMD.CLEAR outside FIELD empties the map, draws a new ID and erases
  MAPS. -/
  | clear
  /-- CAP_EDGE (R214): An edge on a CAP input held for FILT µs is counted and timestamped. -/
  | capEdge (n : Fin 4) (rising : Bool) (held : Byte) (cyc : BitVec 14)
  /-- GNSS_START (R231): At entry into a receiver mode the GNSS core classifies the start as HOT, WARM or
  COLD and acquires. -/
  | gnssStart (front : Front) (fresh : List (Fin 32 × Bool))
  /-- ANT_BIAS_SHORT (R227): Bias current above 60 mA trips the limit and opens the bias switch. -/
  | antBiasShort (ant : Fin 2)
  /-- ANT_BIAS_RETRY (R227): Every 10 s the tripped bias is retried. -/
  | antBiasRetry (ant : Fin 2) (ma : Byte)
  /-- ANT_RECLASSIFY (R228): An open antenna whose current stayed in limits for 10 pools is reclassified
  present. -/
  | antReclassify (ant : Fin 2)
  /-- NOTCH_ENGAGE (R229): An AUTO notch engages on the strongest qualifying narrowband peak. -/
  | notchEngage (k : Fin 8) (peaks : List (Int × Byte))
  /-- NOTCH_RELEASE (R229): A peak below threshold for 1 s releases its notch. -/
  | notchRelease (k : Fin 8)
  /-- JAM_STAY (R230): Each 100 consecutive pools at or above HIGH set JAM_STAY and start the GFE test. -/
  | jamStay (ant : Fin 2)
  /-- ASSISTANCE_NOTICE (R232): The GNSS core takes an ephemeris, almanac or position notice from MAIN on
  mailbox 0. -/
  | assistanceNotice
  /-- NAV_DATA_POST (R232): The GNSS core posts decoded navigation data on mailbox 1 in pools 4 to 9 when the
  mailbox is empty. -/
  | navDataPost (page : Bool) (ptr : Word) (data : List Byte)
  /-- GACQ_START (R233): GACQ.CMD.START begins a correlator-bank search at the next 1 ms boundary. -/
  | gacqStart (actor : Actor) (aid : Option (List (Fin 32 × Fin 91)))
  /-- GACQ_ABORT (R233): GACQ.CMD.ABORT ends the search ABORTED with no lane reported. -/
  | gacqAbort (actor : Actor)
  /-- GACQ_SEARCH_END (R233): The search integrations finish and each lane reports its best bin, ratio and
  DETECT. -/
  | gacqSearchEnd (found : List (BitVec 11 × Byte))
  /-- GFFT_START (R235): GFFT.CMD.START begins an FFT search job over a snapshot slot. -/
  | gfftStart (actor : Actor)
  /-- GFFT_ABORT (R236): GFFT.CMD.ABORT ends the job ABORTED with no result table. -/
  | gfftAbort (actor : Actor)
  /-- GFFT_JOB_END (R235): The FFT job writes its result table and ends DONE. -/
  | gfftJobEnd (found : List (Nat × Nat × Int × Nat))
  /-- CHANNEL_ENABLE (R237): Enabling a tracking channel with a detection starts PULLIN. -/
  | channelEnable (actor : Actor) (chan : Fin 48) (prn : Fin 32) (sp : Fin 16) (dopp : BitVec 16)
  /-- CHANNEL_PLL_LOCK (R237): A channel reaches PLL and its measurements become valid. -/
  | channelPllLock (chan : Fin 48)
  /-- CHANNEL_COAST (R239): C/N0 falls below CN0_LOSS and the channel enters COAST. -/
  | channelCoast (chan : Fin 48) (cn0 : Byte)
  /-- CHANNEL_COAST_RESUME (R239): C/N0 returns above CN0_LOSS + 3 dB-Hz in time and the channel returns to
  PLL with SLIP. -/
  | channelCoastResume (chan : Fin 48) (cn0 : Byte)
  /-- CHANNEL_LOST (R239): COAST.MAX passes without recovery and the channel becomes LOST. -/
  | channelLost (chan : Fin 48)
  /-- PVT_SOLUTION (R240): The GNSS core forms the epoch's position, velocity, heading, baseline and RTK
  solution. -/
  | pvtSolution (fix : NavFix)
  /-- POST (R243): A write of GPVT.POST checks, flags, copies and posts the PVT and baseline record. -/
  | post (actor : Actor)
  /-- RTCM_RECEIVE (R246): The GNSS core takes a corrections notice and checks, counts and uses its RTCM
  frames. -/
  | rtcmReceive
  /-- GSNAP_START (R251): GSNAP.CMD.START requests a capture at the next pool edge, or is refused while one
  runs. -/
  | gsnapStart (ant : Fin 4) (len : Fin 4)
  /-- SNAPSHOT_INTERVAL (R251): In SNAPSHOT, INTERVAL seconds pass and a capture is triggered. -/
  | snapshotInterval (aon : Nat)
  /-- CAPTURE_BEGIN (R251): At a pool edge a snapshot capture starts storing samples into the next free slot.
  -/
  | captureBegin
  /-- GSNAP_ABORT (R254): GSNAP.CMD.ABORT ends the capture PARTIAL and keeps the slot. -/
  | gsnapAbort (sa : List Byte) (sb : List Byte)
  /-- CAPTURE_END (R254): A capture ends DONE or PARTIAL and its header is written. -/
  | captureEnd (aon : Nat) (sa : List Byte) (sb : List Byte)
  /-- LOOP_MODE_REQUEST (R312): A write to a slot's MODE requests DISABLED, MAN or AUTO, judged and applied
  at the next run. -/
  | loopModeRequest (slot : Fin 32) (mode : Fin 4)
  /-- WINDOW_WRITE (R316): A write through the window is refused for a slot in AUTO or stored with blocking.
  -/
  | windowWrite (slot : Fin 32) (off : BitVec 12) (w : Word)
  /-- INJECTION_START (R318): INJ_CTRL.START in SERVICE begins injecting a test signal into a slot. -/
  | injectionStart
  /-- INJECTION_STOP (R318): INJ_CTRL.STOP ends the injection STOPPED. -/
  | injectionStop
  /-- CAP_CTRL_START (R319): CAP_CTRL.START begins a loop response capture at the next run or the first
  injected run. -/
  | capCtrlStart
  /-- CAP_CTRL_ABORT (R319): CAP_CTRL.ABORT ends the loop capture ABORTED, keeping written samples. -/
  | capCtrlAbort
  /-- SUPERVISION_FAIL (R321): The residual exceeds the band at N consecutive samples; supervision fails and
  applies its action. -/
  | supervisionFail (slot : Fin 32)
  /-- SUPERVISION_RECOVER (R321): N consecutive samples within the band clear SUPV_FAIL and post a recovery
  report. -/
  | supervisionRecover (slot : Fin 32)
  /-- CAN_ENABLE (R336): CAN.CTRL.EN going to 1 takes up the bit timing and starts the controller. -/
  | canEnable
  /-- CAN_DISABLE (R357): A write of 0 to CAN.CTRL.EN stops the controller at bus idle and flushes every
  queued entry. -/
  | canDisable (bus : BusUse)
  /-- TX_PUSH (R338): A write to TX_PUSH queues one frame, or ends FULL or TAG_BAD. -/
  | txPush
  /-- TXDMA_GO (R338): A write to TXDMA_GO queues entries from SRAM in order until full or a bad tag. -/
  | txdmaGo
  /-- CAN_TX_ATTEMPT_END (R341): A transmission attempt of the head succeeds, loses arbitration or fails,
  possibly ending RETRY_OUT. -/
  | canTxAttemptEnd (outcome : CanOutcome) (ago : BitVec 16) (exempt : Bool)
  /-- TX_ABORT (R355): A write to TX_ABORT ends the named queued entries ABORTED. -/
  | txAbort (tag : Byte) (all sending : Bool)
  /-- TX_DONE_READ (R342): A read of TX_DONE returns and removes the oldest completion report. -/
  | txDoneRead (actor : Actor)
  /-- CAN_FRAME_RECEIVE (R344): A frame received as valid is numbered, timestamped and stored, or dropped
  when storage is full. -/
  | canFrameReceive (id : BitVec 31) (dlc : BitVec 4) (data : List Byte) (ago : BitVec 16)
  /-- W0_READ (R347): A read of CANRX.W0 locks the head receive entry. -/
  | w0Read (actor : Actor)
  /-- W3_READ (R347): A read of CANRX.W3 releases the locked entry and advances the FIFO. -/
  | w3Read (actor : Actor)
  /-- RING_WRITE (R348): CAN_DMA moves a FIFO entry into the receive ring, or disables the ring on a fence
  denial. -/
  | ringWrite
  /-- CAN_BUS_ERROR (R350): An error detected on the bus updates the counters and state and starts the CAN
  test. -/
  | canBusError (lec : Fin 7) (transmitting : Bool) (more : Fin 16)
  /-- RECOVER (R351): A write of 1 to RECOVER.GO begins bus-off recovery. -/
  | recover
  /-- RECOVERY_END (R351): After 128 occurrences of 11 recessive bits the counters clear and the head is
  offered again. -/
  | recoveryEnd
  /-- ANNOUNCE (R370): The coordinator answers an ANNOUNCE with ASSIGN or with RELEASE and a reason. -/
  | announce (uid : BitVec 64) (kind : Fin 16) (image : Bool)
  /-- PARTNER_HEARTBEAT (R372): A partner HEARTBEAT confirms an assignment, clears READY if not RUN, or
  triggers the full-state resend. -/
  | partnerHeartbeat (addr : Fin 64) (st : Fin 4) (order : Option LipOrder)
  /-- ASSIGN_LAPSE (R372): No HEARTBEAT arrives within 3 epochs of ASSIGN and the address becomes free. -/
  | assignLapse (addr : Fin 64)
  /-- PARTNER_LOSS (R377): Three epochs without a HEARTBEAT declare a partner lost, clear its node word and
  send RELEASE. -/
  | partnerLoss (addr : Fin 64)
  /-- DISCOVER (R374): DISCOVER is sent with RESET_ALL after an enable, or once per epoch while ALONE. -/
  | discover
  /-- NODE_IMAGE_LOAD (R379): The coordinator sends a RAM-only partner its node image by block transfer. -/
  | nodeImageLoad
  /-- BT_OPEN (R386): A received BT_OPEN starts a block transfer or is answered REFUSED or BUSY. -/
  | btOpen (peer : Fin 64) (content : Byte) (len : Word) (tag : BitVec 16)
  /-- BT_DATA (R386): A received BT_DATA frame stores content bytes; the block's last frame triggers READY or
  RESEND. -/
  | btData (peer : Fin 64) (head : Byte) (data : List Byte)
  /-- BT_ACK (R386): A received BT_ACK moves the sender to the next block, a resend, or the transfer's end.
  -/
  | btAck (peer : Fin 64) (code : Fin 6) (block : BitVec 16) (index : Byte)
  /-- BT_END (R386): A received BT_END checks the content CRC and is answered DONE or CRC_FAIL. -/
  | btEnd (peer : Fin 64) (crc len : Word)
  /-- BT_ABORT (R387): A received BT_ABORT ends the transfer. -/
  | btAbort (peer : Fin 64)
  /-- BT_ACK_TIMEOUT (R387): 20 pools without BT_ACK resend the block, and the third timeout sends BT_ABORT.
  -/
  | btAckTimeout (peer : Fin 64)
  /-- BT_RECEIVE_TIMEOUT (R387): 200 pools without a frame from the sender abandon the transfer. -/
  | btReceiveTimeout (peer : Fin 64)
  /-- BT_HOLD (R388): A paused snapshot export sends BT_HOLD once per epoch while step 1 is shed. -/
  | btHold (peer : Fin 64) (tag : Fin 8)
  /-- REPORT (R383): A received REPORT_PULSE or REPORT_PRESS updates the flow or wheel source used by the
  gallery. -/
  | report (addr : Fin 64) (pulse : Bool) (chan : Fin 4) (value : BitVec 16) (ft : BitVec 48)
  /-- TX_GO (R403): RAD.TX_GO secures and sends a data frame with CSMA-CA, or ends SHED, NO_KEY or FC_OUT. -/
  | txGo (buf : Word)
  /-- RADIO_ACK_TIMEOUT (R403): ACK_WAIT passes without an Imm-Ack and the unicast frame is retried. -/
  | radioAckTimeout (buf : Word)
  /-- RADIO_TX_END (R403): A transmission ends with exactly one TX_STAT result. -/
  | radioTxEnd (busy : Fin 8) (buf : Word)
  /-- RADIO_FRAME_RECEIVE (R405): A received frame passing FCS, format and RADSEC checks is queued and
  acknowledged, or dropped. -/
  | radioFrameReceive (aon : Nat) (modeSwitch fcs2 : Bool) (psdu : List Byte) (rssi : Byte) (cyc : BitVec 14)
  /-- RX_POP (R405): A write to RX_POP takes the head frame and latches LAST_SFD and RSSI. -/
  | rxPop
  /-- BCN_POST (R411): A write to BCN_POST hands TIME a base time sample paired with LAST_SFD. -/
  | bcnPost
  /-- CORR (R406): The RADIO core joins CORR fragments and posts completed corrections on mailbox 4. -/
  | corr (buf : Word)
  /-- BATT (R407): The RADIO core keeps wanted BATT fragments and posts a complete batt on mailbox 3. -/
  | batt (buf : Word)
  /-- BATT_FRAGMENT_TIMEOUT (R407): An incomplete batt that gains no fragment for 30 s is discarded. -/
  | battFragmentTimeout (idx : BitVec 11)
  /-- SCHED (R410): A SCHED with a new VERSION replaces the schedule in force. -/
  | sched (buf : Word)
  /-- SCHED_ENTRY_START (R410): Source time reaches a schedule entry's start and its LISTEN or QUIET_TX runs
  once. -/
  | schedEntryStart (aon : Nat) (k : Fin 8)
  /-- MSG (R409): A received MSG is posted to MAIN unless it repeats the previous MSEQ from its source. -/
  | msg (buf : Word)
  /-- TIME (R411): A TIME frame with GNSS_TIME and small uncertainty becomes a base time sample. -/
  | time
  /-- WANTED_MAP_NOTICE (R407): MAIN gives the RADIO core the image tag and wanted map on mailbox 2 with tag
  0x50. -/
  | wantedMapNotice
  /-- NEED (R412): The RADIO core sends a NEED to the base no more often than NEED_PER while batts are
  wanted. -/
  | need
  /-- BEACON_WINDOW (R413): In DARK a beacon window opens around each expected beacon, or a long search
  window after 3 misses. -/
  | beaconWindow (aon : Nat)
  /-- LISTEN_WINDOW_END (R413): A DARK LISTEN window ends and a NEED with DARK is sent if a batt was stored.
  -/
  | listenWindowEnd (aon : Nat)
  /-- HOLD_AREA_REPLAY (R415): After a start the RADIO core posts every batt held in its hold area and clears
  the magic. -/
  | holdAreaReplay (buf : Word)
  /-- TIME_SAMPLE (R417): TIME judges a source sample and schedules a step, a slew or an era step. -/
  | timeSample (gnss : Bool) (sec : Word) (ns : BitVec 30) (ft : BitVec 64)
  /-- FIELD_TIME_STEP (R417): A forward step of field time is applied at the next pool edge. -/
  | fieldTimeStep
  /-- SLEW_START (R418): A slew begins at the SOF of the next SYNC, or at a pool edge with CAN disabled. -/
  | slewStart
  /-- SLEW_END (R418): A slew ends at a SYNC SOF or after its timed length and any overshoot is stepped
  forward. -/
  | slewEnd
  /-- TIME_SOURCE_TIMEOUT (R416): A field-time source stops being valid and TIME falls to the next rank. -/
  | timeSourceTimeout
  /-- SEED (R419): A write to TIME.SEED HI seeds field time once after an AON loss, or is refused. -/
  | seed (hi : Word)
  /-- UPD_OPEN (R433): UPD.CMD.OPEN opens, resumes or refuses an update for the tag written. -/
  | updOpen
  /-- UPD_CLOSE (R437): UPD.CMD.CLOSE closes the open update with cause CLOSE and erases STAGE. -/
  | updClose
  /-- UPD_ACCEPT (R431): UPD.CMD.ACCEPT checks a batt and stores it in STAGE or reports why not. -/
  | updAccept (keyLost : Bool) (fails : Fin 4)
  /-- MANIFEST_CHECK (R435): Once batts 0 to 3 are stored the manifest is checked and the wanted map set or
  the update closed. -/
  | manifestCheck
  /-- STAGE_ERASE_END (R437): The background erase of STAGE after a close ends and the state becomes EMPTY.
  -/
  | stageEraseEnd
  /-- UPD_ACTIVATE (R438): UPD.CMD.ACTIVATE re-checks every staged batt and ends ARMED, INCOMPLETE, CRC_BAD
  or STATE. -/
  | updActivate
  /-- ACTIVATION_START (R439): An armed update reaches its not-before in an allowed mode and runs the
  activation sequence to the COPY mark. -/
  | activationStart (mark : Bool)
  /-- UPD_DISARM (R445): UPD.CMD.DISARM ends DISARMED before the COPY mark, or ABORT_LATE after it. -/
  | updDisarm
  /-- NFC_FIELD_ON (R452): A reader field appears and powers the tag. -/
  | nfcFieldOn
  /-- NFC_FIELD_OFF (R461): The reader field is lost and any AUTH session ends. -/
  | nfcFieldOff
  /-- REQA (R452): The tag answers REQA with ATQA 0x0044. -/
  | reqa
  /-- WUPA (R452): The tag answers WUPA with ATQA 0x0044. -/
  | wupa
  /-- ANTICOLLISION (R453): The tag answers anticollision with its double-size UID cascade. -/
  | anticollision (second : Bool) (bits value : Nat)
  /-- SELECT (R452): The tag is selected and answers SAK 0x00. -/
  | select (second : Bool) (uid : List Byte)
  /-- HLTA (R461): HLTA halts the tag and ends any AUTH session. -/
  | hlta
  /-- NFC_READ (R452): The tag command READ returns 16 bytes, or NAK for protected pages without a session.
  -/
  | nfcRead (page : Fin 256)
  /-- NFC_WRITE (R461): The tag command WRITE commits one OEM page after AUTH with FIELD_WR set, or NAKs. -/
  | nfcWrite (page : Fin 256) (data : Word)
  /-- SECTOR_SELECT (R452): The tag command SECTOR_SELECT selects sector 0, or sector 1 within a session. -/
  | sectorSelect (sector : Fin 256)
  /-- AUTH (R461): The AUTH frame opens a session on a password match, or counts a failure toward lock-out.
  -/
  | auth (pw : Word)
  /-- TAG_BAD_FRAME (R452): An unlisted command gets NAK 0x0 and a bad CRC_A gets NAK 0x1. -/
  | tagBadFrame (badCrc : Bool)
  /-- TAG_COMMIT (R463): TAG.CMD.COMMIT starts a commit job for the card or OEM area, framed by the sequence
  page. -/
  | tagCommit
  /-- TAG_COMMIT_ABORT (R464): TAG.CMD.ABORT ends the job ABORTED with committed pages kept. -/
  | tagCommitAbort
  /-- TAG_JOB_TIMEOUT (R464): A job not ended 2 s after COMMIT ends TIMEOUT. -/
  | tagJobTimeout
  /-- TAG_PAGE_COMMIT (R464): A page commit of 40 µs completes while no field frame runs, and is read back.
  -/
  | tagPageCommit (ok : Bool)
  /-- TAG_WINDOW_WRITE (R465): A MAIN word write through the host window queues a single-page commit or is
  refused. -/
  | tagWindowWrite (page : Fin 512) (data : Word)
  /-- TAG_READ (R465): The host command TAG_READ returns n tag pages, denying protected pages. -/
  | tagRead (early : Bool) (page : BitVec 16) (n : BitVec 8)
  /-- TAG_WRITE (R465): The host command TAG_WRITE queues up to 4 page commits, or ends BUSY. -/
  | tagWrite (early : Bool) (page : BitVec 16) (ws : List Word)
  /-- TAG_STAT (R465): The host command TAG_STAT returns FSTAT, the card sequence and JRES. -/
  | tagStat (early : Bool)
  /-- STATUS_AREA_COMMIT (R458): The TAG block commits changed status-area pages within its delay and rate
  limits. -/
  | statusAreaCommit
  /-- SUMMARY_COPY (R459): A WARN or STOP record is copied into the fault summary and the header count
  advanced. -/
  | summaryCopy
  /-- AUTH_RST (R462): A write of 1 to TAG.AUTH_RST sets the failed-AUTH counter to 0. -/
  | authRst
  /-- EVENT_RAISE (R471): A block or agent raises an event into the recorder queue, or it is discarded and
  counted. -/
  | eventRaise (code : BitVec 16) (source : Fin 0x34) (sev : Fin 4) (verdict : BitVec 16) (a0 a1 : Word)
  /-- RECORD_WRITE (R469): The recorder writes one queued event as a new record or a repeat of the newest. -/
  | recordWrite
  /-- WR_GO (R471): A write to LOG.WR_GO raises an OEM event from the WR registers. -/
  | wrGo
  /-- EVENT_PORT_WRITE (R471): The third write to a core's event port raises an event. -/
  | eventPortWrite (radio : Bool) (w : Word)
  /-- LOG_APPEND (R474): A record image is appended to LOG flash, erasing and re-appending the oldest sector
  when needed. -/
  | logAppend (ok : Bool)
  /-- FLUSH (R474): LOG.CMD.FLUSH appends every pending record image. -/
  | flush
  /-- CLR_KEY_WRITE (R476): A write of the key to LOG.CLR_KEY arms a founding-area clear for 100 drips. -/
  | clrKeyWrite (key : Word)
  /-- FOUND_CLR (R476): LOG.CMD.FOUND_CLR in RETURN and SERVICE clears the founding area and writes a
  FOUND_CLEAR marker. -/
  | foundClr
  /-- LED_CYCLE_START (R478): At the start of each LED cycle the verdict to show is chosen again. -/
  | ledCycleStart
  /-- LED_ACK (R478): A write of 1 to GPIO.LED_ACK removes the shown verdict from the set. -/
  | ledAck
  /-- TARGETED_TEST_START (R487): A pending test request starts at a drip edge when its page is idle, clocked
  and not frozen. -/
  | targetedTestStart (page : Fin 48) (flt : Bool)
  /-- TARGETED_TEST_END (R489): A targeted test ends and its result classifies the page's errors TRANSIENT or
  LASTING. -/
  | targetedTestEnd (page : Fin 48) (flt pass : Bool) (detail : Nat)
  /-- RETEST (R493): STEST.RETEST.GO in SERVICE or SAFE reruns a page's test and lifts its LASTING states on
  PASS. -/
  | retest (page : Fin 64)
  /-- ABORT_ALL (R489): STEST.ABORT_ALL aborts every running test. -/
  | abortAll
  /-- SAFETY_FILTER_CHANGE (R498): Three consecutive agreeing samples change a safety channel's filtered
  state. -/
  | safetyFilterChange (p ch : Fin 2)
  /-- TP_PULSE_CHECK (R500): The pulse counter fires a TP pulse and the channels in run are checked for PULSE
  and CROSS. -/
  | tpPulseCheck (tp : Fin 2) (levels : List Bool)
  /-- DISC_TIMEOUT (R501): Discrepancy time reaches DISC_T and DISC latches with SF01. -/
  | discTimeout (p : Fin 2)
  /-- SAFETY_CLR (R503): A write of 1 to a pair's CMD.CLR clears its latch if the test passed and both
  channels ran 1 s. -/
  | safetyClr (p : Fin 2)
  /-- SAFETY_RESTART (R504): A write of 1 to a pair's CMD.RESTART ends its safe action if nothing is latched
  and both channels ran 50 ms. -/
  | safetyRestart (p : Fin 2)
  /-- VDD_1V8_IN_RANGE (R540): A late external VDD_1V8 reaches 1.71 V; the part releases reset and Table
  MODE-6 is measured from that moment. -/
  | vdd1v8InRange
  /-- VBAT_AON_LOSS (R94): VBAT_AON fails while VIN_3V3 is absent (in SHELF or DARK), so the AON domain loses
  key RAM, the SAFE latch, the frame counter, the replay and escalation tables and the held batts. -/
  | vbatAonLoss
  /-- BUCK_FAULT (R490): The supply monitor detects a core regulator fault, sets PWR.ERR.BUCK_FAULT and
  starts the PWR test, whose LASTING result enters SAFE with PW08. -/
  | buckFault
  /-- TAP_RESET (R100): A TAP reset through TRST_N or TMS returns the TAP state machine to Test-Logic-Reset
  and selects IDCODE. -/
  | tapReset
  /-- ACTIVATION_CHECK_END (R438): The up-to-200 ms re-read of every staged batt ends, and ACT_RES leaves
  BUSY for ARMED, INCOMPLETE or CRC_BAD, with failing batts wanted again. -/
  | activationCheckEnd
  deriving DecidableEq, Repr

end Sys2Proof
end

