-- ==== Sys2Proof/Decode.lean ====
section
/-! DEFINITION. The command that a word spells. The table of operations gives no row any bits (a block takes commands, not
encodings), so no word spells one. -/

namespace Sys2Proof

/-- The command whose bits are `w`, of the `nbits` the table gives its row: no row has bits. -/
def decodeTableWord (_nbits _w : Nat) : Option Instr := none

end Sys2Proof
end

