-- ==== Sys2Proof/Config.lean ====
section
/-! DEFINITION. What one part fixes and the spec leaves open: free values that nothing can evaluate. -/

namespace Sys2Proof.Config

/-- A value the spec leaves open, one for each count of `Block.free`: random words (R99), nonces (R95, R101),
the content of a flash sector or page left undefined (R149), and unstated results (assumption 3, DESIGN CHOICE). -/
opaque freeWord : Nat → BitVec 32

/-- Byte `i` of the open value `n`. -/
def freeByte (n i : Nat) : BitVec 8 := (freeWord (n + i / 4)).extractLsb' (8 * (i % 4)) 8

/-- Byte `i` of the key under which blobs are wrapped, derived from KS00, the UID and the lifecycle code (R95); the
spec gives neither KS00 nor the derivation (assumption 8, PRESUMED). -/
opaque wrapKeyByte (uid lifecycle i : Nat) : BitVec 8

end Sys2Proof.Config
end

