-- ==== Sys2Proof/Machine/Store.lean ====
section
/-! DEFINITION. Sparse plain-data maps in one canonical form: keys strictly rising, and no entry equal to
what an unlisted key reads as. The register file and the memory are built on it. -/

namespace Sys2Proof.Machine

/-- A sparse map from numbers, as a list of pairs. -/
abbrev Store (α : Type) := List (Nat × α)

/-- What key `k` reads as; `d` is what an unlisted key reads as. -/
def Store.find {α : Type} (d : Nat → α) : Store α → Nat → α
  | [], k => d k
  | (k', v) :: t, k => if k' = k then v else Store.find d t k

/-- The list with `(k, v)` put in key order. -/
def Store.insert {α : Type} (k : Nat) (v : α) : Store α → Store α
  | [] => [(k, v)]
  | (k', v') :: t => if k < k' then (k, v) :: (k', v') :: t else (k', v') :: Store.insert k v t

/-- Key `k` set to `v`; writing what an unlisted key reads as removes the entry. -/
def Store.put {α : Type} [DecidableEq α] (d : Nat → α) (k : Nat) (v : α) (m : Store α) : Store α :=
  let m' := m.filter (fun e => e.1 != k)
  if v = d k then m' else Store.insert k v m'

/-- Keys strictly rising, from above `lo`. -/
def Store.rising {α : Type} : Option Nat → Store α → Bool
  | _, [] => true
  | none, (k, _) :: t => Store.rising (some k) t
  | some lo, (k, _) :: t => decide (lo < k) && Store.rising (some k) t

/-- The canonical form. -/
def Store.wf {α : Type} [DecidableEq α] (d : Nat → α) (m : Store α) : Bool :=
  Store.rising none m && m.all (fun e => decide (e.2 ≠ d e.1))

/-- A register field: where it lies, its width, reset value, access code (R5) and its own legal range (R125). -/
inductive Access where
  | rw | ro | w1c | wo | rc | rwl | wsc
  /-- RW for the GNSS core, RO for MAIN and the debug port outside SERVICE at FULL (R224). -/
  | core
  /-- RO, written by the GNSS core in software (R224). -/
  | coro
  deriving DecidableEq, Repr

/-- A register field. `page` and `off` give the register (R118), `lsb` and `width` its bits (R2). Pages 0x40
to 0x5F are no addresses: they hold the per-slot values behind the LOOP window (Table LOOP-6). -/
structure Fld where
  page : Nat
  off : Nat
  lsb : Nat
  width : Nat
  reset : Nat := 0
  acc : Access := .rw
  /-- The ends of the field's own range; the whole width where the table states none. -/
  lo : Int := 0
  hi : Int := 0
  /-- The field holds a two's complement number. -/
  signed : Bool := false
  deriving DecidableEq, Repr

/-- The field's place in the register file. -/
def Fld.key (f : Fld) : Nat := (f.page * 0x400 + f.off) * 32 + f.lsb

/-- The register file: each field as its difference (exclusive or) from its reset value, so that a field at
its reset value is not listed. -/
abbrev RegFile := Store Word

def RegFile.get (m : RegFile) (f : Fld) : Nat :=
  (Store.find (fun _ => (0 : Word)) m f.key ^^^ BitVec.ofNat 32 f.reset).toNat

def RegFile.set (m : RegFile) (f : Fld) (v : Nat) : RegFile :=
  Store.put (fun _ => (0 : Word)) f.key (BitVec.ofNat 32 (v % 2 ^ f.width) ^^^ BitVec.ofNat 32 f.reset) m

end Sys2Proof.Machine
end

