-- ==== Sys2Proof/Machine/Regs.lean ====
section
/-! DEFINITION. Every register field of the part: one definition per field, from the page reference tables of
the chapters (each namespace names its table), and for each page the rows that say which fields a register
address holds. -/

namespace Sys2Proof.Machine.Reg

/-! Reset values that differ by instance (Tables MBX-1 and PWM-5). -/

/-- Table MBX-1: reset sender of mailbox `n`. -/
def mbxSender (n : Nat) : Nat := [0, 1, 0, 2, 2, 1, 3, 3, 0, 4].getD n 0
/-- Table MBX-1: reset receiver of mailbox `n`. -/
def mbxReceiver (n : Nat) : Nat := [1, 0, 2, 0, 1, 2, 0, 0, 4, 0].getD n 0
/-- Table MBX-1: reset timeout of mailbox `n`, in drips. -/
def mbxTmo (n : Nat) : Nat := if n = 6 ∨ n = 8 ∨ n = 9 then 100 else 10
def pwmTlock (m : Nat) : Nat := if m < 2 then 1 else 0
def pwmFlt0 (m : Nat) : Nat := if m = 0 then 1 else 0
def pwmFlt1 (m : Nat) : Nat := if m = 1 then 1 else 0
def pwmFreq (m : Nat) : Nat := if m = 1 then 0x190 else 0xC8
/-- R263 at the reset frequency. -/
def pwmPer (m : Nat) : Nat := if m = 1 then 8184 else 16368
/-- R552 and the chapters: the pages whose `CTRL.EN` resets to 0 (PWM0 to PWM3, CAN, HOST). -/
def enReset (p : Nat) : Nat := if (0x1C ≤ p ∧ p ≤ 0x1F) ∨ p = 0x26 ∨ p = 0x2B then 0 else 1

/-- A register of a page, or an array of `count` registers at equal spacing, with the fields of each. -/
structure Row where
  base : Nat
  stride : Nat
  count : Nat
  fields : Nat → List Fld

/-! The common page header, Table PAGE-4, and the header bits the chapters add. -/
namespace HDR
def EN (p : Nat) : Fld := ⟨p, 0x004, 0, 1, enReset p, .rw, 0, 1, false⟩
def SRST (p : Nat) : Fld := ⟨p, 0x004, 1, 1, 0, .wsc, 0, 1, false⟩
def FREEZE (p : Nat) : Fld := ⟨p, 0x004, 2, 1, 0, .rw, 0, 1, false⟩
/-- PWM pages: `CTRL` bit 8. -/
def LDALL (p : Nat) : Fld := ⟨p, 0x004, 8, 1, 0, .wsc, 0, 1, false⟩
def TEST_RES (p : Nat) : Fld := ⟨p, 0x008, 2, 2, 0, .ro, 0, 3, false⟩
def TEST_BUSY (p : Nat) : Fld := ⟨p, 0x008, 4, 1, 0, .ro, 0, 1, false⟩
def IRQ_RAW (p : Nat) : Fld := ⟨p, 0x00C, 0, 32, 0, .ro, 0, 0xFFFFFFFF, false⟩
def IRQ_EN (p : Nat) : Fld := ⟨p, 0x010, 0, 32, 0, .rw, 0, 0xFFFFFFFF, false⟩
def ERR (p : Nat) : Fld := ⟨p, 0x018, 0, 32, 0, .w1c, 0, 0xFFFFFFFF, false⟩
def ERR_CNT (p : Nat) : Fld := ⟨p, 0x01C, 0, 8, 0, .rc, 0, 0xFF, false⟩
def TEST_START (p : Nat) : Fld := ⟨p, 0x020, 0, 1, 0, .wsc, 0, 1, false⟩
def TEST_ABORT (p : Nat) : Fld := ⟨p, 0x020, 1, 1, 0, .wsc, 0, 1, false⟩
def CLAMP_COUNT (p : Nat) : Fld := ⟨p, 0x024, 0, 8, 0, .ro, 0, 0xFF, false⟩
def CLAMP_OFFSET (p : Nat) : Fld := ⟨p, 0x024, 8, 10, 0, .ro, 0, 0x3FF, false⟩
def CLAMP_LSB (p : Nat) : Fld := ⟨p, 0x024, 24, 5, 0, .ro, 0, 0x1F, false⟩
def LOCKED (p : Nat) : Fld := ⟨p, 0x028, 0, 1, 0, .rw, 0, 1, false⟩
def GEN (p : Nat) : Fld := ⟨p, 0x02C, 0, 32, 0, .ro, 0, 0xFFFFFFFF, false⟩
/-- Block `STAT` bits: TICK (Table TICK-8). -/
def TICK_RUN : Fld := ⟨0x03, 0x008, 0, 1, 1, .ro, 0, 1, false⟩
def TICK_FROZEN : Fld := ⟨0x03, 0x008, 1, 1, 0, .ro, 0, 1, false⟩
def TICK_FALLBACK : Fld := ⟨0x03, 0x008, 5, 1, 0, .ro, 0, 1, false⟩
/-- One `DEGRADE` bit of TICK, in the order of `OVR` (R556). -/
def TICK_DEGRADE (b : Nat) : Fld := ⟨0x03, 0x008, 8 + b, 1, 0, .ro, 0, 1, false⟩
def FENCE_PENDING : Fld := ⟨0x07, 0x008, 8, 1, 0, .ro, 0, 1, false⟩
/-- Block `STAT` bits: PWM module `m` (09_pump_drive_pwm.md, page reference). -/
def PWM_RUN (m : Nat) : Fld := ⟨0x1C + m, 0x008, 0, 1, 0, .ro, 0, 1, false⟩
def PWM_FORCED (m : Nat) : Fld := ⟨0x1C + m, 0x008, 1, 1, 0, .ro, 0, 1, false⟩
def PWM_LD_PEND (m : Nat) : Fld := ⟨0x1C + m, 0x008, 5, 1, 0, .ro, 0, 1, false⟩
def PWM_FLT_LAT (m i : Nat) : Fld := ⟨0x1C + m, 0x008, 8 + i, 1, 0, .ro, 0, 1, false⟩
def PWM_STOP (m : Nat) : Fld := ⟨0x1C + m, 0x008, 10, 1, 0, .ro, 0, 1, false⟩
def PWM_COMM_ON (m : Nat) : Fld := ⟨0x1C + m, 0x008, 12, 1, 0, .ro, 0, 1, false⟩
/-- Block `STAT` bits: CAN (11_can_controller.md, page reference). -/
def CAN_RUN : Fld := ⟨0x26, 0x008, 0, 1, 0, .ro, 0, 1, false⟩
def CAN_FROZEN : Fld := ⟨0x26, 0x008, 1, 1, 0, .ro, 0, 1, false⟩

/-- The block's own `STAT` fields, by page. -/
def statFields (p : Nat) : List Fld :=
  if p = 0x03 then
    [TICK_RUN, TICK_FROZEN, TICK_FALLBACK, TICK_DEGRADE 0, TICK_DEGRADE 1, TICK_DEGRADE 2, TICK_DEGRADE 3,
      TICK_DEGRADE 4, TICK_DEGRADE 5]
  else if p = 0x07 then [FENCE_PENDING]
  else if 0x1C ≤ p ∧ p ≤ 0x1F then
    [PWM_RUN (p - 0x1C), PWM_FORCED (p - 0x1C), PWM_LD_PEND (p - 0x1C), PWM_FLT_LAT (p - 0x1C) 0,
      PWM_FLT_LAT (p - 0x1C) 1, PWM_STOP (p - 0x1C), PWM_COMM_ON (p - 0x1C)]
  else if p = 0x26 then [CAN_RUN, CAN_FROZEN]
  else []

/-- Table PAGE-4: the header's registers of page `p`. `ID` and `IRQ_PEND` are not stored: they are computed
when read (R118, R122). -/
def rows (p : Nat) : List Row :=
  [⟨0x004, 4, 1, fun _ => [EN p, SRST p, FREEZE p] ++ (if 0x1C ≤ p ∧ p ≤ 0x1F then [LDALL p] else [])⟩,
   ⟨0x008, 4, 1, fun _ => [TEST_RES p, TEST_BUSY p] ++ statFields p⟩,
   ⟨0x00C, 4, 1, fun _ => [IRQ_RAW p]⟩,
   ⟨0x010, 4, 1, fun _ => [IRQ_EN p]⟩,
   ⟨0x018, 4, 1, fun _ => [ERR p]⟩,
   ⟨0x01C, 4, 1, fun _ => [ERR_CNT p]⟩,
   ⟨0x020, 4, 1, fun _ => [TEST_START p, TEST_ABORT p]⟩,
   ⟨0x024, 4, 1, fun _ => [CLAMP_COUNT p, CLAMP_OFFSET p, CLAMP_LSB p]⟩,
   ⟨0x028, 4, 1, fun _ => [LOCKED p]⟩,
   ⟨0x02C, 4, 1, fun _ => [GEN p]⟩]
end HDR

/-! Table SYS-1. -/
namespace SYS
def page : Nat := 0x00
def MODE_CUR : Fld := ⟨0x00, 0x040, 0, 3, 2, .ro, 0, 7, false⟩
def MODE_PREV : Fld := ⟨0x00, 0x040, 4, 3, 2, .ro, 0, 7, false⟩
def MODE_CAUSE : Fld := ⟨0x00, 0x040, 8, 8, 0, .ro, 0, 255, false⟩
def MODE_LEAVING : Fld := ⟨0x00, 0x040, 16, 1, 0, .ro, 0, 1, false⟩
def MODE_FIELD_WAIT : Fld := ⟨0x00, 0x040, 17, 1, 0, .ro, 0, 1, false⟩
def REQ_CMD : Fld := ⟨0x00, 0x044, 0, 4, 0, .wo, 0, 15, false⟩
def REQ_STAT_RES : Fld := ⟨0x00, 0x048, 0, 3, 0, .ro, 0, 7, false⟩
def REQ_STAT_CMD : Fld := ⟨0x00, 0x048, 4, 4, 0, .ro, 0, 15, false⟩
def STANDING_PUMP_EN : Fld := ⟨0x00, 0x04C, 0, 1, 0, .rw, 0, 1, false⟩
def STANDING_FIELD_REQ : Fld := ⟨0x00, 0x04C, 1, 1, 0, .rw, 0, 1, false⟩
def STANDING_READY : Fld := ⟨0x00, 0x04C, 2, 1, 0, .rw, 0, 1, false⟩
def SAFE_CAUSE_CODE : Fld := ⟨0x00, 0x050, 0, 16, 0, .ro, 0, 65535, false⟩
def SAFE_CAUSE_PAGE : Fld := ⟨0x00, 0x050, 16, 8, 0, .ro, 0, 255, false⟩
def RESET_CAUSE_POR : Fld := ⟨0x00, 0x054, 0, 1, 0, .rc, 0, 1, false⟩
def RESET_CAUSE_BROWNOUT : Fld := ⟨0x00, 0x054, 1, 1, 0, .rc, 0, 1, false⟩
def RESET_CAUSE_MAIN_RST : Fld := ⟨0x00, 0x054, 2, 1, 0, .rc, 0, 1, false⟩
def RESET_CAUSE_SW : Fld := ⟨0x00, 0x054, 3, 1, 0, .rc, 0, 1, false⟩
def RESET_CAUSE_DEBUG : Fld := ⟨0x00, 0x054, 4, 1, 0, .rc, 0, 1, false⟩
def rows : List Row :=
  [⟨0x040, 0x4, 1, fun _ => [ MODE_CUR, MODE_PREV, MODE_CAUSE, MODE_LEAVING, MODE_FIELD_WAIT]⟩,
   ⟨0x044, 0x4, 1, fun _ => [REQ_CMD]⟩,
   ⟨0x048, 0x4, 1, fun _ => [REQ_STAT_RES, REQ_STAT_CMD]⟩,
   ⟨0x04C, 0x4, 1, fun _ => [STANDING_PUMP_EN, STANDING_FIELD_REQ, STANDING_READY]⟩,
   ⟨0x050, 0x4, 1, fun _ => [SAFE_CAUSE_CODE, SAFE_CAUSE_PAGE]⟩,
   ⟨0x054, 0x4, 1, fun _ => [RESET_CAUSE_POR, RESET_CAUSE_BROWNOUT, RESET_CAUSE_MAIN_RST, RESET_CAUSE_SW, RESET_CAUSE_DEBUG]⟩]
end SYS

/-! Table CLK-1. -/
namespace CLK
def page : Nat := 0x01
def CSTAT_TCXO_OK : Fld := ⟨0x01, 0x040, 0, 1, 0, .ro, 0, 1, false⟩
def CSTAT_XT32M_OK : Fld := ⟨0x01, 0x040, 1, 1, 0, .ro, 0, 1, false⟩
def CSTAT_XT32K_OK : Fld := ⟨0x01, 0x040, 2, 1, 0, .ro, 0, 1, false⟩
def CSTAT_PLL_LOCK : Fld := ⟨0x01, 0x040, 3, 1, 0, .ro, 0, 1, false⟩
def CSTAT_RUN : Fld := ⟨0x01, 0x040, 8, 9, 0, .ro, 0, 511, false⟩
def SVC_GATE_FORCE_OFF : Fld := ⟨0x01, 0x044, 0, 9, 0, .rw, 0, 511, false⟩
def rows : List Row :=
  [⟨0x040, 0x4, 1, fun _ => [CSTAT_TCXO_OK, CSTAT_XT32M_OK, CSTAT_XT32K_OK, CSTAT_PLL_LOCK, CSTAT_RUN]⟩,
   ⟨0x044, 0x4, 1, fun _ => [SVC_GATE_FORCE_OFF]⟩]
end CLK

/-! Table PWR-1. -/
namespace PWR
def page : Nat := 0x02
def PVG_ON : Fld := ⟨0x02, 0x040, 0, 8, 0x50, .rwl, 0, 255, false⟩
def PVG_OFF : Fld := ⟨0x02, 0x040, 8, 8, 0x46, .rwl, 0, 255, false⟩
def PVG_SNAP_MIN : Fld := ⟨0x02, 0x040, 16, 8, 0x28, .rwl, 0, 255, false⟩
def DEB_DEB_ON : Fld := ⟨0x02, 0x044, 0, 6, 2, .rwl, 1, 63, false⟩
def DEB_DEB_OFF : Fld := ⟨0x02, 0x044, 8, 6, 4, .rwl, 1, 63, false⟩
def DEB_VBAT_LOW : Fld := ⟨0x02, 0x044, 16, 5, 0x14, .rwl, 18, 30, false⟩
def VOLT_VPV : Fld := ⟨0x02, 0x048, 0, 16, 0, .ro, 0, 65535, false⟩
def VOLT_VOC : Fld := ⟨0x02, 0x048, 16, 16, 0, .ro, 0, 65535, false⟩
def PPV_PPV : Fld := ⟨0x02, 0x04C, 0, 16, 0, .ro, 0, 65535, false⟩
def PPV_LEVEL : Fld := ⟨0x02, 0x04C, 16, 3, 0, .ro, 0, 7, false⟩
def PPV_SURPLUS : Fld := ⟨0x02, 0x04C, 24, 1, 0, .ro, 0, 1, false⟩
def PUMP_VON_VON : Fld := ⟨0x02, 0x050, 0, 16, 0x258, .rwl, 0, 65535, false⟩
def SHED1_P : Fld := ⟨0x02, 0x054, 0, 16, 0xFA, .rwl, 0, 65535, false⟩
def SHED2_P : Fld := ⟨0x02, 0x058, 0, 16, 0xE6, .rwl, 0, 65535, false⟩
def SHED3_P : Fld := ⟨0x02, 0x05C, 0, 16, 0xD2, .rwl, 0, 65535, false⟩
def SHED4_P : Fld := ⟨0x02, 0x060, 0, 16, 0xBE, .rwl, 0, 65535, false⟩
def SHED5_P : Fld := ⟨0x02, 0x064, 0, 16, 0xAA, .rwl, 0, 65535, false⟩
def SHED6_P : Fld := ⟨0x02, 0x068, 0, 16, 0x96, .rwl, 0, 65535, false⟩
def SHED7_P : Fld := ⟨0x02, 0x06C, 0, 16, 0x3C, .rwl, 0, 65535, false⟩
def HYST_HYST : Fld := ⟨0x02, 0x070, 0, 10, 0x14, .rwl, 1, 1000, false⟩
def TIMING_SHED_T : Fld := ⟨0x02, 0x074, 0, 8, 0x14, .rwl, 1, 255, false⟩
def TIMING_RESTORE_T : Fld := ⟨0x02, 0x074, 16, 12, 0x1F4, .rwl, 10, 4000, false⟩
def RETRY_RETRY_MIN : Fld := ⟨0x02, 0x078, 0, 12, 0xBB8, .rwl, 100, 4000, false⟩
def MPPT_SLOT : Fld := ⟨0x02, 0x07C, 0, 5, 0, .rwl, 0, 31, false⟩
def SNAP_EN : Fld := ⟨0x02, 0x080, 0, 1, 0, .rwl, 0, 1, false⟩
def SNAP_INTERVAL : Fld := ⟨0x02, 0x080, 8, 8, 0x3C, .rwl, 10, 255, false⟩
def SNAP_LEN : Fld := ⟨0x02, 0x080, 16, 2, 1, .rwl, 0, 2, false⟩
def SNAP_ANT : Fld := ⟨0x02, 0x080, 18, 2, 1, .rwl, 1, 3, false⟩
def SUPPLY_VIN_OK : Fld := ⟨0x02, 0x084, 0, 1, 0, .ro, 0, 1, false⟩
def SUPPLY_V1V8_OK : Fld := ⟨0x02, 0x084, 1, 1, 0, .ro, 0, 1, false⟩
def SUPPLY_VCORE_OK : Fld := ⟨0x02, 0x084, 2, 1, 0, .ro, 0, 1, false⟩
def SUPPLY_VBAT_OK : Fld := ⟨0x02, 0x084, 3, 1, 0, .ro, 0, 1, false⟩
def rows : List Row :=
  [⟨0x040, 0x4, 1, fun _ => [PVG_ON, PVG_OFF, PVG_SNAP_MIN]⟩,
   ⟨0x044, 0x4, 1, fun _ => [DEB_DEB_ON, DEB_DEB_OFF, DEB_VBAT_LOW]⟩,
   ⟨0x048, 0x4, 1, fun _ => [VOLT_VPV, VOLT_VOC]⟩,
   ⟨0x04C, 0x4, 1, fun _ => [PPV_PPV, PPV_LEVEL, PPV_SURPLUS]⟩,
   ⟨0x050, 0x4, 1, fun _ => [PUMP_VON_VON]⟩,
   ⟨0x054, 0x4, 1, fun _ => [SHED1_P]⟩,
   ⟨0x058, 0x4, 1, fun _ => [SHED2_P]⟩,
   ⟨0x05C, 0x4, 1, fun _ => [SHED3_P]⟩,
   ⟨0x060, 0x4, 1, fun _ => [SHED4_P]⟩,
   ⟨0x064, 0x4, 1, fun _ => [SHED5_P]⟩,
   ⟨0x068, 0x4, 1, fun _ => [SHED6_P]⟩,
   ⟨0x06C, 0x4, 1, fun _ => [SHED7_P]⟩,
   ⟨0x070, 0x4, 1, fun _ => [HYST_HYST]⟩,
   ⟨0x074, 0x4, 1, fun _ => [TIMING_SHED_T, TIMING_RESTORE_T]⟩,
   ⟨0x078, 0x4, 1, fun _ => [RETRY_RETRY_MIN]⟩,
   ⟨0x07C, 0x4, 1, fun _ => [MPPT_SLOT]⟩,
   ⟨0x080, 0x4, 1, fun _ => [SNAP_EN, SNAP_INTERVAL, SNAP_LEN, SNAP_ANT]⟩,
   ⟨0x084, 0x4, 1, fun _ => [SUPPLY_VIN_OK, SUPPLY_V1V8_OK, SUPPLY_VCORE_OK, SUPPLY_VBAT_OK]⟩]
end PWR

/-! Table TICK-9. -/
namespace TICK
def page : Nat := 0x03
def POS_DRIP : Fld := ⟨0x03, 0x040, 0, 7, 0, .ro, 0, 127, false⟩
def POS_POOL : Fld := ⟨0x03, 0x040, 8, 4, 0, .ro, 0, 15, false⟩
def POS_EPOCH : Fld := ⟨0x03, 0x040, 16, 16, 0, .ro, 0, 65535, false⟩
def CYC_CYC : Fld := ⟨0x03, 0x044, 0, 14, 0, .ro, 0, 16383, false⟩
def IRQ_AT_POOL_DRIP : Fld := ⟨0x03, 0x048, 0, 7, 0, .rwl, 0, 99, false⟩
def IRQ_AT_EPOCH_POOL : Fld := ⟨0x03, 0x048, 8, 4, 0, .rwl, 0, 9, false⟩
def OVR_ADC : Fld := ⟨0x03, 0x04C, 0, 1, 0, .w1c, 0, 1, false⟩
def OVR_GAL : Fld := ⟨0x03, 0x04C, 1, 1, 0, .w1c, 0, 1, false⟩
def OVR_SECTQ : Fld := ⟨0x03, 0x04C, 2, 1, 0, .w1c, 0, 1, false⟩
def OVR_SYNC : Fld := ⟨0x03, 0x04C, 3, 1, 0, .w1c, 0, 1, false⟩
def OVR_GPVT : Fld := ⟨0x03, 0x04C, 4, 1, 0, .w1c, 0, 1, false⟩
def OVR_HBEAT : Fld := ⟨0x03, 0x04C, 5, 1, 0, .w1c, 0, 1, false⟩
def OVR_CNT0_ADC : Fld := ⟨0x03, 0x050, 0, 8, 0, .rc, 0, 255, false⟩
def OVR_CNT0_GAL : Fld := ⟨0x03, 0x050, 8, 8, 0, .rc, 0, 255, false⟩
def OVR_CNT0_SECTQ : Fld := ⟨0x03, 0x050, 16, 8, 0, .rc, 0, 255, false⟩
def OVR_CNT0_SYNC : Fld := ⟨0x03, 0x050, 24, 8, 0, .rc, 0, 255, false⟩
def OVR_CNT1_GPVT : Fld := ⟨0x03, 0x054, 0, 8, 0, .rc, 0, 255, false⟩
def OVR_CNT1_HBEAT : Fld := ⟨0x03, 0x054, 8, 8, 0, .rc, 0, 255, false⟩
def GAL_PRED_PRED : Fld := ⟨0x03, 0x058, 0, 21, 0, .ro, 0, 2097151, false⟩
def GAL_PEAK_PEAK : Fld := ⟨0x03, 0x05C, 0, 21, 0, .rc, 0, 2097151, false⟩
def GPVT_LAT_LAT : Fld := ⟨0x03, 0x060, 0, 10, 0, .rc, 0, 1023, false⟩
def HOLD_HOLD : Fld := ⟨0x03, 0x064, 0, 10, 0x64, .rwl, 10, 1000, false⟩
def SECT_NMAX_NMAX : Fld := ⟨0x03, 0x068, 0, 5, 8, .ro, 0, 31, false⟩
def rows : List Row :=
  [⟨0x040, 0x4, 1, fun _ => [POS_DRIP, POS_POOL, POS_EPOCH]⟩,
   ⟨0x044, 0x4, 1, fun _ => [CYC_CYC]⟩,
   ⟨0x048, 0x4, 1, fun _ => [IRQ_AT_POOL_DRIP, IRQ_AT_EPOCH_POOL]⟩,
   ⟨0x04C, 0x4, 1, fun _ => [OVR_ADC, OVR_GAL, OVR_SECTQ, OVR_SYNC, OVR_GPVT, OVR_HBEAT]⟩,
   ⟨0x050, 0x4, 1, fun _ => [OVR_CNT0_ADC, OVR_CNT0_GAL, OVR_CNT0_SECTQ, OVR_CNT0_SYNC]⟩,
   ⟨0x054, 0x4, 1, fun _ => [OVR_CNT1_GPVT, OVR_CNT1_HBEAT]⟩,
   ⟨0x058, 0x4, 1, fun _ => [GAL_PRED_PRED]⟩,
   ⟨0x05C, 0x4, 1, fun _ => [GAL_PEAK_PEAK]⟩,
   ⟨0x060, 0x4, 1, fun _ => [GPVT_LAT_LAT]⟩,
   ⟨0x064, 0x4, 1, fun _ => [HOLD_HOLD]⟩,
   ⟨0x068, 0x4, 1, fun _ => [SECT_NMAX_NMAX]⟩]
end TICK

/-! Table SEC-5. -/
namespace SEC
def page : Nat := 0x04
def LC_STATE : Fld := ⟨0x04, 0x040, 0, 2, 0, .ro, 0, 3, false⟩
def LC_NEXT : Fld := ⟨0x04, 0x040, 4, 1, 0, .ro, 0, 1, false⟩
def LC_ADV_RES : Fld := ⟨0x04, 0x040, 8, 3, 0, .ro, 0, 7, false⟩
def LC_KEY_KEY : Fld := ⟨0x04, 0x044, 0, 32, 0, .wo, 0, 4294967295, false⟩
def LC_ADV_TARGET : Fld := ⟨0x04, 0x048, 0, 2, 0, .wo, 0, 3, false⟩
def UID_LO_UID : Fld := ⟨0x04, 0x04C, 0, 32, 0, .ro, 0, 4294967295, false⟩
def UID_HI_UID : Fld := ⟨0x04, 0x050, 0, 32, 0, .ro, 0, 4294967295, false⟩
def JOB_OP_OP : Fld := ⟨0x04, 0x054, 0, 4, 0, .rw, 0, 15, false⟩
def JOB_OP_SLOT : Fld := ⟨0x04, 0x054, 8, 5, 0, .rw, 0, 31, false⟩
def JOB_SRC_ADDR : Fld := ⟨0x04, 0x058, 0, 32, 0, .rw, 0, 4294967295, false⟩
def JOB_DST_ADDR : Fld := ⟨0x04, 0x05C, 0, 32, 0, .rw, 0, 4294967295, false⟩
def JOB_LEN_LEN : Fld := ⟨0x04, 0x060, 0, 21, 0, .rw, 0, 2097151, false⟩
def JOB_AAD_ADDR : Fld := ⟨0x04, 0x064, 0, 32, 0, .rw, 0, 4294967295, false⟩
def JOB_AAD_LEN_LEN : Fld := ⟨0x04, 0x068, 0, 16, 0, .rw, 0, 65535, false⟩
def JOB_IV_ADDR : Fld := ⟨0x04, 0x06C, 0, 32, 0, .rw, 0, 4294967295, false⟩
def JOB_TAG_ADDR : Fld := ⟨0x04, 0x070, 0, 32, 0, .rw, 0, 4294967295, false⟩
def JOB_CTRL_START : Fld := ⟨0x04, 0x074, 0, 1, 0, .wsc, 0, 1, false⟩
def JOB_CTRL_ABORT : Fld := ⟨0x04, 0x074, 1, 1, 0, .wsc, 0, 1, false⟩
def JOB_STAT_RES : Fld := ⟨0x04, 0x078, 0, 4, 0, .ro, 0, 15, false⟩
def JOB_STAT_KEY_PENDING : Fld := ⟨0x04, 0x078, 8, 1, 0, .ro, 0, 1, false⟩
def TRNG_DATA : Fld := ⟨0x04, 0x07C, 0, 32, 0, .ro, 0, 4294967295, false⟩
def rows : List Row :=
  [⟨0x040, 0x4, 1, fun _ => [LC_STATE, LC_NEXT, LC_ADV_RES]⟩,
   ⟨0x044, 0x4, 1, fun _ => [LC_KEY_KEY]⟩,
   ⟨0x048, 0x4, 1, fun _ => [LC_ADV_TARGET]⟩,
   ⟨0x04C, 0x4, 1, fun _ => [UID_LO_UID]⟩,
   ⟨0x050, 0x4, 1, fun _ => [UID_HI_UID]⟩,
   ⟨0x054, 0x4, 1, fun _ => [JOB_OP_OP, JOB_OP_SLOT]⟩,
   ⟨0x058, 0x4, 1, fun _ => [JOB_SRC_ADDR]⟩,
   ⟨0x05C, 0x4, 1, fun _ => [JOB_DST_ADDR]⟩,
   ⟨0x060, 0x4, 1, fun _ => [JOB_LEN_LEN]⟩,
   ⟨0x064, 0x4, 1, fun _ => [JOB_AAD_ADDR]⟩,
   ⟨0x068, 0x4, 1, fun _ => [JOB_AAD_LEN_LEN]⟩,
   ⟨0x06C, 0x4, 1, fun _ => [JOB_IV_ADDR]⟩,
   ⟨0x070, 0x4, 1, fun _ => [JOB_TAG_ADDR]⟩,
   ⟨0x074, 0x4, 1, fun _ => [JOB_CTRL_START, JOB_CTRL_ABORT]⟩,
   ⟨0x078, 0x4, 1, fun _ => [JOB_STAT_RES, JOB_STAT_KEY_PENDING]⟩,
   ⟨0x07C, 0x4, 1, fun _ => [TRNG_DATA]⟩]
end SEC

/-! Table KEY-4. -/
namespace KEY
def page : Nat := 0x05
def SLOT_STAT_S : Fld := ⟨0x05, 0x040, 0, 32, 0, .ro, 0, 4294967295, false⟩
def OP_CODE : Fld := ⟨0x05, 0x044, 0, 4, 0, .wo, 0, 15, false⟩
def OP_SLOT : Fld := ⟨0x05, 0x044, 8, 5, 0, .wo, 0, 31, false⟩
def OP_STAT_RES : Fld := ⟨0x05, 0x048, 0, 3, 0, .ro, 0, 7, false⟩
def OP_STAT_BUSY : Fld := ⟨0x05, 0x048, 8, 1, 0, .ro, 0, 1, false⟩
def BLOB_ADDR : Fld := ⟨0x05, 0x04C, 0, 32, 0, .rw, 0, 4294967295, false⟩
def DATA_DATA (i : Nat) : Fld := ⟨0x05, 0x050 + i * 0x4, 0, 32, 0, .wo, 0, 4294967295, false⟩
def OTP_REC_KS06 : Fld := ⟨0x05, 0x070, 0, 4, 0, .ro, 0, 15, false⟩
def OTP_REC_KS07 : Fld := ⟨0x05, 0x070, 4, 4, 0, .ro, 0, 15, false⟩
def OTP_REC_KS01 : Fld := ⟨0x05, 0x070, 8, 1, 0, .ro, 0, 1, false⟩
def OTP_REC_KS05 : Fld := ⟨0x05, 0x070, 9, 1, 0, .ro, 0, 1, false⟩
def rows : List Row :=
  [⟨0x040, 0x4, 1, fun _ => [SLOT_STAT_S]⟩,
   ⟨0x044, 0x4, 1, fun _ => [OP_CODE, OP_SLOT]⟩,
   ⟨0x048, 0x4, 1, fun _ => [OP_STAT_RES, OP_STAT_BUSY]⟩,
   ⟨0x04C, 0x4, 1, fun _ => [BLOB_ADDR]⟩,
   ⟨0x050, 0x4, 8, fun i => [DATA_DATA i]⟩,
   ⟨0x070, 0x4, 1, fun _ => [OTP_REC_KS06, OTP_REC_KS07, OTP_REC_KS01, OTP_REC_KS05]⟩]
end KEY

/-! Table DBG-5. -/
namespace DBG
def page : Nat := 0x06
def LEVEL_EFF : Fld := ⟨0x06, 0x040, 0, 2, 0, .ro, 0, 3, false⟩
def LEVEL_AUTH : Fld := ⟨0x06, 0x040, 4, 2, 0, .ro, 0, 3, false⟩
def LEVEL_MAX : Fld := ⟨0x06, 0x040, 8, 2, 0, .ro, 0, 3, false⟩
def LEVEL_CEIL : Fld := ⟨0x06, 0x040, 12, 2, 2, .ro, 0, 3, false⟩
def LEVEL_PORT_PWR : Fld := ⟨0x06, 0x040, 16, 1, 0, .ro, 0, 1, false⟩
def REQ_CEIL : Fld := ⟨0x06, 0x044, 0, 2, 0, .wo, 0, 3, false⟩
def CHAL_STAT_RES : Fld := ⟨0x06, 0x048, 0, 3, 0, .ro, 0, 7, false⟩
def REMAIN_MIN : Fld := ⟨0x06, 0x04C, 0, 9, 0, .ro, 0, 511, false⟩
def FAILS_CNT : Fld := ⟨0x06, 0x050, 0, 2, 0, .ro, 0, 3, false⟩
def FAILS_LOCK_S : Fld := ⟨0x06, 0x050, 16, 10, 0, .ro, 0, 1023, false⟩
def HALT_MAIN : Fld := ⟨0x06, 0x054, 0, 1, 0, .ro, 0, 1, false⟩
def HALT_GNSS : Fld := ⟨0x06, 0x054, 1, 1, 0, .ro, 0, 1, false⟩
def HALT_RADIO : Fld := ⟨0x06, 0x054, 2, 1, 0, .ro, 0, 1, false⟩
def rows : List Row :=
  [⟨0x040, 0x4, 1, fun _ => [LEVEL_EFF, LEVEL_AUTH, LEVEL_MAX, LEVEL_CEIL, LEVEL_PORT_PWR]⟩,
   ⟨0x044, 0x4, 1, fun _ => [REQ_CEIL]⟩,
   ⟨0x048, 0x4, 1, fun _ => [CHAL_STAT_RES]⟩,
   ⟨0x04C, 0x4, 1, fun _ => [REMAIN_MIN]⟩,
   ⟨0x050, 0x4, 1, fun _ => [FAILS_CNT, FAILS_LOCK_S]⟩,
   ⟨0x054, 0x4, 1, fun _ => [HALT_MAIN, HALT_GNSS, HALT_RADIO]⟩]
end DBG

/-! Table FENCE-2. -/
namespace FENCE
def page : Nat := 0x07
def BASE_ADDR (i : Nat) : Fld := ⟨0x07, 0x040 + i * 0x10, 0, 32, 0x20000000, .rwl, 0x20000000, 0x201FFFE0, false⟩
def LIMIT_ADDR (i : Nat) : Fld := ⟨0x07, 0x044 + i * 0x10, 0, 32, 0x2000001F, .rwl, 0x2000001F, 0x201FFFFF, false⟩
def PERM_EN (i : Nat) : Fld := ⟨0x07, 0x048 + i * 0x10, 0, 1, 0, .rwl, 0, 1, false⟩
def PERM_MAIN (i : Nat) : Fld := ⟨0x07, 0x048 + i * 0x10, 4, 3, 0, .rwl, 0, 7, false⟩
def PERM_GNSS (i : Nat) : Fld := ⟨0x07, 0x048 + i * 0x10, 8, 3, 0, .rwl, 0, 7, false⟩
def PERM_RADIO (i : Nat) : Fld := ⟨0x07, 0x048 + i * 0x10, 12, 3, 0, .rwl, 0, 7, false⟩
def PERM_LOOP (i : Nat) : Fld := ⟨0x07, 0x048 + i * 0x10, 16, 2, 0, .rwl, 0, 3, false⟩
def PERM_HOST (i : Nat) : Fld := ⟨0x07, 0x048 + i * 0x10, 20, 2, 0, .rwl, 0, 3, false⟩
def BG_MAIN_X : Fld := ⟨0x07, 0x240, 0, 1, 0, .rwl, 0, 1, false⟩
def COMMIT_GO : Fld := ⟨0x07, 0x244, 0, 1, 0, .wsc, 0, 1, false⟩
def APPLIED_GEN : Fld := ⟨0x07, 0x248, 0, 32, 0, .ro, 0, 4294967295, false⟩
def VIOL_ADDR_ADDR : Fld := ⟨0x07, 0x24C, 0, 32, 0, .ro, 0, 4294967295, false⟩
def VIOL_INFO_MASTER : Fld := ⟨0x07, 0x250, 0, 4, 0, .ro, 0, 15, false⟩
def VIOL_INFO_AGENT : Fld := ⟨0x07, 0x250, 4, 3, 0, .ro, 0, 7, false⟩
def VIOL_INFO_TYPE : Fld := ⟨0x07, 0x250, 8, 2, 0, .ro, 0, 3, false⟩
def VIOL_INFO_REGION : Fld := ⟨0x07, 0x250, 16, 5, 0, .ro, 0, 31, false⟩
def VIOL_INFO_BG : Fld := ⟨0x07, 0x250, 21, 1, 0, .ro, 0, 1, false⟩
def rows : List Row :=
  [⟨0x040, 0x10, 32, fun i => [BASE_ADDR i]⟩,
   ⟨0x044, 0x10, 32, fun i => [LIMIT_ADDR i]⟩,
   ⟨0x048, 0x10, 32, fun i => [PERM_EN i, PERM_MAIN i, PERM_GNSS i, PERM_RADIO i, PERM_LOOP i, PERM_HOST i]⟩,
   ⟨0x240, 0x4, 1, fun _ => [BG_MAIN_X]⟩,
   ⟨0x244, 0x4, 1, fun _ => [COMMIT_GO]⟩,
   ⟨0x248, 0x4, 1, fun _ => [APPLIED_GEN]⟩,
   ⟨0x24C, 0x4, 1, fun _ => [VIOL_ADDR_ADDR]⟩,
   ⟨0x250, 0x4, 1, fun _ => [VIOL_INFO_MASTER, VIOL_INFO_AGENT, VIOL_INFO_TYPE, VIOL_INFO_REGION, VIOL_INFO_BG]⟩]
end FENCE

/-! Table BWL-1. -/
namespace BWL
def page : Nat := 0x08
def RES_BEATS (i : Nat) : Fld := ⟨0x08, 0x040 + i * 0x4, 0, 14, 0, .rwl, 0, 14731, false⟩
def TOTAL_SUM (i : Nat) : Fld := ⟨0x08, 0x180 + i * 0x4, 0, 14, 0, .ro, 0, 16383, false⟩
def MON_SEL_MASTER : Fld := ⟨0x08, 0x1A0, 0, 4, 0, .rw, 0, 15, false⟩
def MON_SEL_BANK : Fld := ⟨0x08, 0x1A0, 8, 3, 0, .rw, 0, 7, false⟩
def MON_GRANTED : Fld := ⟨0x08, 0x1A4, 0, 14, 0, .ro, 0, 16383, false⟩
def MON_PEAK : Fld := ⟨0x08, 0x1A4, 16, 14, 0, .rc, 0, 16383, false⟩
def SHORT_DRIPS : Fld := ⟨0x08, 0x1A8, 0, 16, 0, .rc, 0, 65535, false⟩
def YIELD_MASTER : Fld := ⟨0x08, 0x1AC, 0, 10, 0, .w1c, 0, 1023, false⟩
def rows : List Row :=
  [⟨0x040, 0x4, 80, fun i => [RES_BEATS i]⟩,
   ⟨0x180, 0x4, 8, fun i => [TOTAL_SUM i]⟩,
   ⟨0x1A0, 0x4, 1, fun _ => [MON_SEL_MASTER, MON_SEL_BANK]⟩,
   ⟨0x1A4, 0x4, 1, fun _ => [MON_GRANTED, MON_PEAK]⟩,
   ⟨0x1A8, 0x4, 1, fun _ => [SHORT_DRIPS]⟩,
   ⟨0x1AC, 0x4, 1, fun _ => [YIELD_MASTER]⟩]
end BWL

/-! Table MBX-2. -/
namespace MBX
def page : Nat := 0x09
def TX_PTR_PTR (i : Nat) : Fld := ⟨0x09, 0x040 + i * 0x10, 0, 32, 0, .rw, 0, 4294967295, false⟩
def TX_HDR_LEN (i : Nat) : Fld := ⟨0x09, 0x044 + i * 0x10, 0, 16, 0, .wo, 0, 65535, false⟩
def TX_HDR_TAG (i : Nat) : Fld := ⟨0x09, 0x044 + i * 0x10, 16, 8, 0, .wo, 0, 255, false⟩
def RX_PTR_PTR (i : Nat) : Fld := ⟨0x09, 0x048 + i * 0x10, 0, 32, 0, .ro, 0, 4294967295, false⟩
def RX_HDR_LEN (i : Nat) : Fld := ⟨0x09, 0x04C + i * 0x10, 0, 16, 0, .ro, 0, 65535, false⟩
def RX_HDR_TAG (i : Nat) : Fld := ⟨0x09, 0x04C + i * 0x10, 16, 8, 0, .ro, 0, 255, false⟩
def RX_HDR_SENDER (i : Nat) : Fld := ⟨0x09, 0x04C + i * 0x10, 24, 3, 0, .ro, 0, 7, false⟩
def CFG_SENDER (i : Nat) : Fld := ⟨0x09, 0x140 + i * 0x8, 0, 3, (mbxSender i), .rwl, 0, 4, false⟩
def CFG_RECEIVER (i : Nat) : Fld := ⟨0x09, 0x140 + i * 0x8, 4, 3, (mbxReceiver i), .rwl, 0, 4, false⟩
def CFG_TMO (i : Nat) : Fld := ⟨0x09, 0x140 + i * 0x8, 8, 8, (mbxTmo i), .rwl, 1, 255, false⟩
def MSTAT_FULL (i : Nat) : Fld := ⟨0x09, 0x144 + i * 0x8, 0, 1, 0, .ro, 0, 1, false⟩
def MSTAT_COLL (i : Nat) : Fld := ⟨0x09, 0x144 + i * 0x8, 1, 1, 0, .w1c, 0, 1, false⟩
def MSTAT_TMO (i : Nat) : Fld := ⟨0x09, 0x144 + i * 0x8, 2, 1, 0, .w1c, 0, 1, false⟩
def MSTAT_RX_OFF (i : Nat) : Fld := ⟨0x09, 0x144 + i * 0x8, 3, 1, 0, .ro, 0, 1, false⟩
def MSTAT_DROP (i : Nat) : Fld := ⟨0x09, 0x144 + i * 0x8, 4, 1, 0, .w1c, 0, 1, false⟩
def rows : List Row :=
  [⟨0x040, 0x10, 16, fun i => [TX_PTR_PTR i]⟩,
   ⟨0x044, 0x10, 16, fun i => [TX_HDR_LEN i, TX_HDR_TAG i]⟩,
   ⟨0x048, 0x10, 16, fun i => [RX_PTR_PTR i]⟩,
   ⟨0x04C, 0x10, 16, fun i => [RX_HDR_LEN i, RX_HDR_TAG i, RX_HDR_SENDER i]⟩,
   ⟨0x140, 0x8, 16, fun i => [CFG_SENDER i, CFG_RECEIVER i, CFG_TMO i]⟩,
   ⟨0x144, 0x8, 16, fun i => [MSTAT_FULL i, MSTAT_COLL i, MSTAT_TMO i, MSTAT_RX_OFF i, MSTAT_DROP i]⟩]
end MBX

/-! Table ECC-1. -/
namespace ECC
def page : Nat := 0x0A
def SCRUB_RATE : Fld := ⟨0x0A, 0x040, 0, 7, 0x10, .rwl, 1, 64, false⟩
def SBE_ADDR_ADDR : Fld := ⟨0x0A, 0x044, 0, 32, 0, .ro, 0, 4294967295, false⟩
def SBE_INFO_SYNDROME : Fld := ⟨0x0A, 0x048, 0, 7, 0, .ro, 0, 127, false⟩
def SBE_INFO_BANK : Fld := ⟨0x0A, 0x048, 8, 3, 0, .ro, 0, 7, false⟩
def SBE_INFO_MASTER : Fld := ⟨0x0A, 0x048, 12, 4, 0, .ro, 0, 15, false⟩
def DED_ADDR_ADDR : Fld := ⟨0x0A, 0x04C, 0, 32, 0, .ro, 0, 4294967295, false⟩
def COUNT_SBE : Fld := ⟨0x0A, 0x050, 0, 16, 0, .rc, 0, 65535, false⟩
def COUNT_DED : Fld := ⟨0x0A, 0x050, 16, 8, 0, .rc, 0, 255, false⟩
def PASS_PASSES : Fld := ⟨0x0A, 0x054, 0, 16, 0, .ro, 0, 65535, false⟩
def INJ_ADDR_ADDR : Fld := ⟨0x0A, 0x058, 0, 32, 0, .rw, 0, 4294967295, false⟩
def INJ_MASK : Fld := ⟨0x0A, 0x05C, 0, 32, 0, .wo, 0, 4294967295, false⟩
def rows : List Row :=
  [⟨0x040, 0x4, 1, fun _ => [SCRUB_RATE]⟩,
   ⟨0x044, 0x4, 1, fun _ => [SBE_ADDR_ADDR]⟩,
   ⟨0x048, 0x4, 1, fun _ => [SBE_INFO_SYNDROME, SBE_INFO_BANK, SBE_INFO_MASTER]⟩,
   ⟨0x04C, 0x4, 1, fun _ => [DED_ADDR_ADDR]⟩,
   ⟨0x050, 0x4, 1, fun _ => [COUNT_SBE, COUNT_DED]⟩,
   ⟨0x054, 0x4, 1, fun _ => [PASS_PASSES]⟩,
   ⟨0x058, 0x4, 1, fun _ => [INJ_ADDR_ADDR]⟩,
   ⟨0x05C, 0x4, 1, fun _ => [INJ_MASK]⟩]
end ECC

/-! Table LOG-7. -/
namespace LOG
def page : Nat := 0x0B
def BASE_ADDR : Fld := ⟨0x0B, 0x040, 0, 32, 0x20078000, .rwl, 0x20000000, 0x201F8000, false⟩
def HELD_FOUND : Fld := ⟨0x0B, 0x044, 0, 10, 0, .ro, 0, 1023, false⟩
def HELD_CIRC : Fld := ⟨0x0B, 0x044, 16, 10, 0, .ro, 0, 1023, false⟩
def NEWEST_INDEX : Fld := ⟨0x0B, 0x048, 0, 10, 0, .ro, 0, 1023, false⟩
def TOTAL_COUNT : Fld := ⟨0x0B, 0x04C, 0, 32, 0, .ro, 0, 4294967295, false⟩
def LOST_COUNT : Fld := ⟨0x0B, 0x050, 0, 16, 0, .rc, 0, 65535, false⟩
def WR_CODE_CODE : Fld := ⟨0x0B, 0x054, 0, 13, 0, .rw, 0, 8191, false⟩
def WR_CODE_SEV : Fld := ⟨0x0B, 0x054, 16, 2, 0, .rw, 0, 3, false⟩
def WR_CODE_VERDICT : Fld := ⟨0x0B, 0x054, 20, 12, 0, .rw, 0, 4095, false⟩
def WR_ARG0_ARG : Fld := ⟨0x0B, 0x058, 0, 32, 0, .rw, 0, 4294967295, false⟩
def WR_ARG1_ARG : Fld := ⟨0x0B, 0x05C, 0, 32, 0, .rw, 0, 4294967295, false⟩
def WR_GO_GO : Fld := ⟨0x0B, 0x060, 0, 1, 0, .wsc, 0, 1, false⟩
def MIRROR_PENDING : Fld := ⟨0x0B, 0x064, 0, 8, 0, .ro, 0, 255, false⟩
def MIRROR_FREE : Fld := ⟨0x0B, 0x064, 8, 8, 0, .ro, 0, 255, false⟩
def CMD_FLUSH : Fld := ⟨0x0B, 0x068, 0, 1, 0, .wsc, 0, 1, false⟩
def CMD_FOUND_CLR : Fld := ⟨0x0B, 0x068, 1, 1, 0, .wsc, 0, 1, false⟩
def CLR_KEY_KEY : Fld := ⟨0x0B, 0x06C, 0, 32, 0, .wo, 0, 4294967295, false⟩
def rows : List Row :=
  [⟨0x040, 0x4, 1, fun _ => [BASE_ADDR]⟩,
   ⟨0x044, 0x4, 1, fun _ => [HELD_FOUND, HELD_CIRC]⟩,
   ⟨0x048, 0x4, 1, fun _ => [NEWEST_INDEX]⟩,
   ⟨0x04C, 0x4, 1, fun _ => [TOTAL_COUNT]⟩,
   ⟨0x050, 0x4, 1, fun _ => [LOST_COUNT]⟩,
   ⟨0x054, 0x4, 1, fun _ => [WR_CODE_CODE, WR_CODE_SEV, WR_CODE_VERDICT]⟩,
   ⟨0x058, 0x4, 1, fun _ => [WR_ARG0_ARG]⟩,
   ⟨0x05C, 0x4, 1, fun _ => [WR_ARG1_ARG]⟩,
   ⟨0x060, 0x4, 1, fun _ => [WR_GO_GO]⟩,
   ⟨0x064, 0x4, 1, fun _ => [MIRROR_PENDING, MIRROR_FREE]⟩,
   ⟨0x068, 0x4, 1, fun _ => [CMD_FLUSH, CMD_FOUND_CLR]⟩,
   ⟨0x06C, 0x4, 1, fun _ => [CLR_KEY_KEY]⟩]
end LOG

/-! Table BLK-3. -/
namespace BLK
def page : Nat := 0x0C
def SUMMARY_TOTAL : Fld := ⟨0x0C, 0x040, 0, 8, 0, .rc, 0, 255, false⟩
def REP_STAT_HELD : Fld := ⟨0x0C, 0x044, 0, 7, 0, .ro, 0, 127, false⟩
def REP_SEL_AGE : Fld := ⟨0x0C, 0x048, 0, 6, 0, .rw, 0, 63, false⟩
def REP_W_WORD (i : Nat) : Fld := ⟨0x0C, 0x04C + i * 0x4, 0, 32, 0, .ro, 0, 4294967295, false⟩
def REP_LOST_LOST : Fld := ⟨0x0C, 0x05C, 0, 16, 0, .rc, 0, 65535, false⟩
def REPLAY_APPLIED : Fld := ⟨0x0C, 0x060, 0, 16, 0, .ro, 0, 65535, false⟩
def REPLAY_SKIPPED : Fld := ⟨0x0C, 0x060, 16, 8, 0, .ro, 0, 255, false⟩
def REPLAY_STOPPED : Fld := ⟨0x0C, 0x060, 24, 1, 0, .ro, 0, 1, false⟩
def REP_CLR_CLR : Fld := ⟨0x0C, 0x064, 0, 1, 0, .wsc, 0, 1, false⟩
def rows : List Row :=
  [⟨0x040, 0x4, 1, fun _ => [SUMMARY_TOTAL]⟩,
   ⟨0x044, 0x4, 1, fun _ => [REP_STAT_HELD]⟩,
   ⟨0x048, 0x4, 1, fun _ => [REP_SEL_AGE]⟩,
   ⟨0x04C, 0x4, 4, fun i => [REP_W_WORD i]⟩,
   ⟨0x05C, 0x4, 1, fun _ => [REP_LOST_LOST]⟩,
   ⟨0x060, 0x4, 1, fun _ => [REPLAY_APPLIED, REPLAY_SKIPPED, REPLAY_STOPPED]⟩,
   ⟨0x064, 0x4, 1, fun _ => [REP_CLR_CLR]⟩]
end BLK

/-! Table CAL-5. -/
namespace CAL
def page : Nat := 0x0D
def VALID_HDR : Fld := ⟨0x0D, 0x040, 0, 1, 0, .ro, 0, 1, false⟩
def VALID_SECT : Fld := ⟨0x0D, 0x040, 1, 6, 0, .ro, 0, 63, false⟩
def CMD_START : Fld := ⟨0x0D, 0x044, 0, 1, 0, .wsc, 0, 1, false⟩
def BUF_ADDR : Fld := ⟨0x0D, 0x048, 0, 32, 0, .rw, 0, 4294967295, false⟩
def SOURCE_SRC : Fld := ⟨0x0D, 0x04C, 0, 2, 0, .rw, 0, 3, false⟩
def RES_RES : Fld := ⟨0x0D, 0x050, 0, 4, 0, .ro, 0, 15, false⟩
def RES_SECTION : Fld := ⟨0x0D, 0x050, 8, 3, 0, .ro, 0, 7, false⟩
def WCOUNT_COUNT : Fld := ⟨0x0D, 0x054, 0, 32, 0, .ro, 0, 4294967295, false⟩
def LAST_LO_TIME : Fld := ⟨0x0D, 0x058, 0, 32, 0, .ro, 0, 4294967295, false⟩
def LAST_HI_TIME : Fld := ⟨0x0D, 0x05C, 0, 32, 0, .ro, 0, 4294967295, false⟩
def LAST_SRC_SRC : Fld := ⟨0x0D, 0x060, 0, 8, 0, .ro, 0, 255, false⟩
def LAST_SRC_ERA : Fld := ⟨0x0D, 0x060, 8, 8, 0, .ro, 0, 255, false⟩
def rows : List Row :=
  [⟨0x040, 0x4, 1, fun _ => [VALID_HDR, VALID_SECT]⟩,
   ⟨0x044, 0x4, 1, fun _ => [CMD_START]⟩,
   ⟨0x048, 0x4, 1, fun _ => [BUF_ADDR]⟩,
   ⟨0x04C, 0x4, 1, fun _ => [SOURCE_SRC]⟩,
   ⟨0x050, 0x4, 1, fun _ => [RES_RES, RES_SECTION]⟩,
   ⟨0x054, 0x4, 1, fun _ => [WCOUNT_COUNT]⟩,
   ⟨0x058, 0x4, 1, fun _ => [LAST_LO_TIME]⟩,
   ⟨0x05C, 0x4, 1, fun _ => [LAST_HI_TIME]⟩,
   ⟨0x060, 0x4, 1, fun _ => [LAST_SRC_SRC, LAST_SRC_ERA]⟩]
end CAL

/-! Table FLASH-1. -/
namespace FLASH
def page : Nat := 0x0E
def ADDR_ADDR : Fld := ⟨0x0E, 0x040, 0, 32, 0, .rw, 0, 4294967295, false⟩
def SRC_ADDR : Fld := ⟨0x0E, 0x044, 0, 32, 0, .rw, 0, 4294967295, false⟩
def CMD_OP : Fld := ⟨0x0E, 0x048, 0, 2, 0, .rw, 0, 3, false⟩
def CMD_START : Fld := ⟨0x0E, 0x048, 8, 1, 0, .wsc, 0, 1, false⟩
def CMD_ABORT : Fld := ⟨0x0E, 0x048, 9, 1, 0, .wsc, 0, 1, false⟩
def RES_RES : Fld := ⟨0x0E, 0x04C, 0, 4, 0, .ro, 0, 15, false⟩
def WPROT_CONF : Fld := ⟨0x0E, 0x050, 0, 1, 0, .rwl, 0, 1, false⟩
def WPROT_LOG : Fld := ⟨0x0E, 0x050, 1, 1, 0, .rwl, 0, 1, false⟩
def WPROT_MAPS : Fld := ⟨0x0E, 0x050, 2, 1, 0, .rwl, 0, 1, false⟩
def WPROT_OEM_CAL : Fld := ⟨0x0E, 0x050, 3, 1, 0, .rwl, 0, 1, false⟩
def OWNER_OWNER : Fld := ⟨0x0E, 0x054, 0, 3, 0, .ro, 0, 7, false⟩
def rows : List Row :=
  [⟨0x040, 0x4, 1, fun _ => [ADDR_ADDR]⟩,
   ⟨0x044, 0x4, 1, fun _ => [SRC_ADDR]⟩,
   ⟨0x048, 0x4, 1, fun _ => [CMD_OP, CMD_START, CMD_ABORT]⟩,
   ⟨0x04C, 0x4, 1, fun _ => [RES_RES]⟩,
   ⟨0x050, 0x4, 1, fun _ => [WPROT_CONF, WPROT_LOG, WPROT_MAPS, WPROT_OEM_CAL]⟩,
   ⟨0x054, 0x4, 1, fun _ => [OWNER_OWNER]⟩]
end FLASH

/-! Table UPD-8. -/
namespace UPD
def page : Nat := 0x0F
def CFG_AUTH : Fld := ⟨0x0F, 0x040, 0, 1, 1, .rwl, 0, 1, false⟩
def TAG_TAG : Fld := ⟨0x0F, 0x044, 0, 32, 0, .rw, 0, 4294967295, false⟩
def CMD_OPEN : Fld := ⟨0x0F, 0x048, 0, 1, 0, .wsc, 0, 1, false⟩
def CMD_CLOSE : Fld := ⟨0x0F, 0x048, 1, 1, 0, .wsc, 0, 1, false⟩
def CMD_ACCEPT : Fld := ⟨0x0F, 0x048, 2, 1, 0, .wsc, 0, 1, false⟩
def CMD_ACTIVATE : Fld := ⟨0x0F, 0x048, 3, 1, 0, .wsc, 0, 1, false⟩
def CMD_DISARM : Fld := ⟨0x0F, 0x048, 4, 1, 0, .wsc, 0, 1, false⟩
def BATT_ADDR_ADDR : Fld := ⟨0x0F, 0x04C, 0, 32, 0, .rw, 0, 4294967295, false⟩
def ACC_RES_RES : Fld := ⟨0x0F, 0x050, 0, 4, 0, .ro, 0, 15, false⟩
def ACC_RES_INDEX : Fld := ⟨0x0F, 0x050, 16, 11, 0, .ro, 0, 2047, false⟩
def USTAT_STATE : Fld := ⟨0x0F, 0x054, 0, 4, 0, .ro, 0, 15, false⟩
def USTAT_DIRECT : Fld := ⟨0x0F, 0x054, 4, 1, 0, .ro, 0, 1, false⟩
def USTAT_LOADER_ONLY : Fld := ⟨0x0F, 0x054, 5, 1, 0, .ro, 0, 1, false⟩
def USTAT_CAUSE : Fld := ⟨0x0F, 0x054, 8, 4, 0, .ro, 0, 15, false⟩
def USTAT_OPEN_RES : Fld := ⟨0x0F, 0x054, 12, 2, 0, .ro, 0, 3, false⟩
def COUNTS_WANTED : Fld := ⟨0x0F, 0x058, 0, 12, 0, .ro, 0, 4095, false⟩
def COUNTS_SLOTS : Fld := ⟨0x0F, 0x058, 16, 10, 0, .ro, 0, 1023, false⟩
def NB_LO_DRIP : Fld := ⟨0x0F, 0x05C, 0, 32, 0, .rw, 0, 4294967295, false⟩
def NB_HI_DRIP : Fld := ⟨0x0F, 0x060, 0, 16, 0, .rw, 0, 65535, false⟩
def NB_HI_ERA : Fld := ⟨0x0F, 0x060, 16, 8, 0, .rw, 0, 255, false⟩
def ACT_RES_RES : Fld := ⟨0x0F, 0x064, 0, 4, 0, .ro, 0, 15, false⟩
def ACT_RES_INDEX : Fld := ⟨0x0F, 0x064, 16, 11, 0, .ro, 0, 2047, false⟩
def MAP_SEL_WORD : Fld := ⟨0x0F, 0x068, 0, 6, 0, .rw, 0, 63, false⟩
def MAP_BITS : Fld := ⟨0x0F, 0x06C, 0, 32, 0, .ro, 0, 4294967295, false⟩
def LEN_L : Fld := ⟨0x0F, 0x070, 0, 22, 0, .ro, 0, 4194303, false⟩
def NEW_VER_VER : Fld := ⟨0x0F, 0x074, 0, 32, 0, .ro, 0, 4294967295, false⟩
def RUN_VER_VER : Fld := ⟨0x0F, 0x078, 0, 32, 0, .ro, 0, 4294967295, false⟩
def rows : List Row :=
  [⟨0x040, 0x4, 1, fun _ => [CFG_AUTH]⟩,
   ⟨0x044, 0x4, 1, fun _ => [TAG_TAG]⟩,
   ⟨0x048, 0x4, 1, fun _ => [CMD_OPEN, CMD_CLOSE, CMD_ACCEPT, CMD_ACTIVATE, CMD_DISARM]⟩,
   ⟨0x04C, 0x4, 1, fun _ => [BATT_ADDR_ADDR]⟩,
   ⟨0x050, 0x4, 1, fun _ => [ACC_RES_RES, ACC_RES_INDEX]⟩,
   ⟨0x054, 0x4, 1, fun _ => [USTAT_STATE, USTAT_DIRECT, USTAT_LOADER_ONLY, USTAT_CAUSE, USTAT_OPEN_RES]⟩,
   ⟨0x058, 0x4, 1, fun _ => [COUNTS_WANTED, COUNTS_SLOTS]⟩,
   ⟨0x05C, 0x4, 1, fun _ => [NB_LO_DRIP]⟩,
   ⟨0x060, 0x4, 1, fun _ => [NB_HI_DRIP, NB_HI_ERA]⟩,
   ⟨0x064, 0x4, 1, fun _ => [ACT_RES_RES, ACT_RES_INDEX]⟩,
   ⟨0x068, 0x4, 1, fun _ => [MAP_SEL_WORD]⟩,
   ⟨0x06C, 0x4, 1, fun _ => [MAP_BITS]⟩,
   ⟨0x070, 0x4, 1, fun _ => [LEN_L]⟩,
   ⟨0x074, 0x4, 1, fun _ => [NEW_VER_VER]⟩,
   ⟨0x078, 0x4, 1, fun _ => [RUN_VER_VER]⟩]
end UPD

/-! Table GAL-8, GAL-9. -/
namespace GAL
def page (k : Nat) : Nat := 0x10 + k
def SGEO_FORE (k i : Nat) : Fld := ⟨0x10 + k, 0x040 + i * 0xC, 0, 16, 0, .rwl, (-30000), 30000, true⟩
def SGEO_LAT (k i : Nat) : Fld := ⟨0x10 + k, 0x040 + i * 0xC, 16, 16, 0, .rwl, (-30000), 30000, true⟩
def SMAP_WIDTH (k i : Nat) : Fld := ⟨0x10 + k, 0x044 + i * 0xC, 0, 13, 0x1F4, .rwl, 50, 6000, false⟩
def SMAP_CLASS (k i : Nat) : Fld := ⟨0x10 + k, 0x044 + i * 0xC, 13, 2, 0, .rwl, 0, 3, false⟩
def SMAP_EN (k i : Nat) : Fld := ⟨0x10 + k, 0x044 + i * 0xC, 15, 1, 0, .rwl, 0, 1, false⟩
def SMAP_NODE (k i : Nat) : Fld := ⟨0x10 + k, 0x044 + i * 0xC, 16, 7, 0x10, .rwl, 16, 79, false⟩
def SMAP_OUT (k i : Nat) : Fld := ⟨0x10 + k, 0x044 + i * 0xC, 24, 4, 0, .rwl, 0, 15, false⟩
def SMAP_PROBE_OK (k i : Nat) : Fld := ⟨0x10 + k, 0x044 + i * 0xC, 28, 1, 0, .rwl, 0, 1, false⟩
def SDLY_ON (k i : Nat) : Fld := ⟨0x10 + k, 0x048 + i * 0xC, 0, 11, 0x12C, .ro, 0, 2047, false⟩
def SDLY_ON_L (k i : Nat) : Fld := ⟨0x10 + k, 0x048 + i * 0xC, 11, 1, 0, .ro, 0, 1, false⟩
def SDLY_OFF (k i : Nat) : Fld := ⟨0x10 + k, 0x048 + i * 0xC, 16, 11, 0x12C, .ro, 0, 2047, false⟩
def SDLY_OFF_L (k i : Nat) : Fld := ⟨0x10 + k, 0x048 + i * 0xC, 27, 1, 0, .ro, 0, 1, false⟩
def PLAN_MAP (k i : Nat) : Fld := ⟨0x10 + k, 0x340 + i * 0x4, 0, 32, 0, .ro, 0, 4294967295, false⟩
def AVAIL_MAP (k i : Nat) : Fld := ⟨0x10 + k, 0x348 + i * 0x4, 0, 32, 0, .ro, 0, 4294967295, false⟩
def EFF_MAP (k i : Nat) : Fld := ⟨0x10 + k, 0x350 + i * 0x4, 0, 32, 0, .ro, 0, 4294967295, false⟩
def rows (k : Nat) : List Row :=
  [⟨0x040, 0xC, 64, fun i => [SGEO_FORE k i, SGEO_LAT k i]⟩,
   ⟨0x044, 0xC, 64, fun i => [SMAP_WIDTH k i, SMAP_CLASS k i, SMAP_EN k i, SMAP_NODE k i, SMAP_OUT k i, SMAP_PROBE_OK k i]⟩,
   ⟨0x048, 0xC, 64, fun i => [SDLY_ON k i, SDLY_ON_L k i, SDLY_OFF k i, SDLY_OFF_L k i]⟩,
   ⟨0x340, 0x4, 2, fun i => [PLAN_MAP k i]⟩,
   ⟨0x348, 0x4, 2, fun i => [AVAIL_MAP k i]⟩,
   ⟨0x350, 0x4, 2, fun i => [EFF_MAP k i]⟩]
end GAL

/-! Table GAL-10. -/
namespace GAL0
def REF_LAT_LAT : Fld := ⟨0x10, 0x360, 0, 32, 0, .rwl, (-900000000), 900000000, true⟩
def REF_LON_LON : Fld := ⟨0x10, 0x364, 0, 32, 0, .rwl, (-1800000000), 1800000000, true⟩
def ORIG_E_E : Fld := ⟨0x10, 0x368, 0, 32, 0xFFFC1800, .rwl, (-2000000), 2000000, true⟩
def ORIG_N_N : Fld := ⟨0x10, 0x36C, 0, 32, 0xFFFC1800, .rwl, (-2000000), 2000000, true⟩
def GRID_CELL : Fld := ⟨0x10, 0x370, 0, 1, 0, .rwl, 0, 1, false⟩
def GRID_OVLP : Fld := ⟨0x10, 0x370, 8, 7, 0x32, .rwl, 0, 100, false⟩
def GRID_FIXMIN : Fld := ⟨0x10, 0x370, 16, 3, 2, .rwl, 2, 5, false⟩
def SPEED_VMIN : Fld := ⟨0x10, 0x374, 0, 9, 0x14, .rwl, 10, 480, false⟩
def SPEED_VMAX : Fld := ⟨0x10, 0x374, 16, 9, 0x190, .rwl, 0, 500, false⟩
def HOLD_T : Fld := ⟨0x10, 0x378, 0, 6, 0x14, .rwl, 0, 50, false⟩
def HOLD_POLICY : Fld := ⟨0x10, 0x378, 8, 1, 0, .rwl, 0, 1, false⟩
def HOLD_WSRC : Fld := ⟨0x10, 0x378, 12, 2, 0, .rwl, 0, 2, false⟩
def WHEEL_UM : Fld := ⟨0x10, 0x37C, 0, 24, 0xC350, .rwl, 1000, 2000000, false⟩
def PIVOT_X : Fld := ⟨0x10, 0x380, 0, 16, 0, .rwl, (-30000), 30000, true⟩
def PIVOT_Y : Fld := ⟨0x10, 0x380, 16, 16, 0, .rwl, (-30000), 30000, true⟩
def SWING_KAPPA : Fld := ⟨0x10, 0x384, 0, 9, 0, .rwl, 0, 256, false⟩
def SWING_EN : Fld := ⟨0x10, 0x384, 12, 1, 1, .rwl, 0, 1, false⟩
def EVAL_BISECT : Fld := ⟨0x10, 0x388, 0, 3, 6, .rwl, 0, 6, false⟩
def LEARN_EN : Fld := ⟨0x10, 0x38C, 0, 1, 1, .rwl, 0, 1, false⟩
def LEARN_W : Fld := ⟨0x10, 0x38C, 4, 3, 2, .rwl, 1, 4, false⟩
def LEARN_PROBE : Fld := ⟨0x10, 0x38C, 8, 1, 0, .rwl, 0, 1, false⟩
def PROBE_LEN : Fld := ⟨0x10, 0x390, 0, 8, 0x64, .rwl, 50, 250, false⟩
def PROBE_MAXH : Fld := ⟨0x10, 0x390, 8, 8, 6, .rwl, 0, 60, false⟩
def PROBE_AGE : Fld := ⟨0x10, 0x390, 16, 16, 0x3C, .rwl, 1, 1440, false⟩
def CLASS_PSRC (i : Nat) : Fld := ⟨0x10, 0x394 + i * 0x4, 0, 2, 1, .rwl, 0, 2, false⟩
def CLASS_FSRC (i : Nat) : Fld := ⟨0x10, 0x394 + i * 0x4, 4, 2, 0, .rwl, 0, 3, false⟩
def CLASS_LAG (i : Nat) : Fld := ⟨0x10, 0x394 + i * 0x4, 8, 8, 0, .rwl, 0, 200, false⟩
def CLASS_MIN_DP (i : Nat) : Fld := ⟨0x10, 0x394 + i * 0x4, 16, 12, 0x14, .rwl, 1, 2000, false⟩
def BND_ADDR_ADDR : Fld := ⟨0x10, 0x3A4, 0, 32, 0, .rw, 0, 4294967295, false⟩
def BND_NPOLY : Fld := ⟨0x10, 0x3A8, 0, 4, 0, .rwl, 0, 15, false⟩
def BND_STAT_RES : Fld := ⟨0x10, 0x3AC, 0, 4, 0, .ro, 0, 15, false⟩
def BND_STAT_XCOUNT : Fld := ⟨0x10, 0x3AC, 4, 4, 0, .ro, 0, 15, false⟩
def BND_STAT_EMAX : Fld := ⟨0x10, 0x3AC, 8, 8, 0, .ro, 0, 255, false⟩
def BND_STAT_NVERT : Fld := ⟨0x10, 0x3AC, 16, 9, 0, .ro, 0, 511, false⟩
def MAPCMD_CLEAR : Fld := ⟨0x10, 0x3B0, 0, 1, 0, .wsc, 0, 1, false⟩
def MAPCMD_CKPT : Fld := ⟨0x10, 0x3B0, 1, 1, 0, .wsc, 0, 1, false⟩
def MAPSTAT_DIRTY : Fld := ⟨0x10, 0x3B4, 0, 11, 0, .ro, 0, 2047, false⟩
def MAPSTAT_FREE : Fld := ⟨0x10, 0x3B4, 16, 8, 0, .ro, 0, 255, false⟩
def MAPSTAT_SUSP : Fld := ⟨0x10, 0x3B4, 24, 1, 0, .ro, 0, 1, false⟩
def MAPSTAT_BUSY : Fld := ⟨0x10, 0x3B4, 25, 1, 0, .ro, 0, 1, false⟩
def MAPSTAT_RESTORED : Fld := ⟨0x10, 0x3B4, 26, 1, 0, .ro, 0, 1, false⟩
def CKPT_NUM_NUM : Fld := ⟨0x10, 0x3B8, 0, 32, 0, .ro, 0, 4294967295, false⟩
def STATUS_VALID : Fld := ⟨0x10, 0x3BC, 0, 2, 0, .ro, 0, 3, false⟩
def STATUS_LA : Fld := ⟨0x10, 0x3BC, 2, 1, 0, .ro, 0, 1, false⟩
def STATUS_HOLD : Fld := ⟨0x10, 0x3BC, 3, 1, 0, .ro, 0, 1, false⟩
def STATUS_HOLD_EXP : Fld := ⟨0x10, 0x3BC, 4, 1, 0, .ro, 0, 1, false⟩
def STATUS_GATE : Fld := ⟨0x10, 0x3BC, 5, 1, 0, .ro, 0, 1, false⟩
def STATUS_GRID_OUT : Fld := ⟨0x10, 0x3BC, 6, 1, 0, .ro, 0, 1, false⟩
def STATUS_PROBE : Fld := ⟨0x10, 0x3BC, 7, 1, 0, .ro, 0, 1, false⟩
def LATE_COUNT : Fld := ⟨0x10, 0x3C0, 0, 16, 0, .rc, 0, 65535, false⟩
def OBS_ACC : Fld := ⟨0x10, 0x3C4, 0, 16, 0, .rc, 0, 65535, false⟩
def OBS_REJ : Fld := ⟨0x10, 0x3C4, 16, 16, 0, .rc, 0, 65535, false⟩
def MAP_ID_ID : Fld := ⟨0x10, 0x3C8, 0, 32, 0, .ro, 0, 4294967295, false⟩
def rows : List Row :=
  [⟨0x360, 0x4, 1, fun _ => [REF_LAT_LAT]⟩,
   ⟨0x364, 0x4, 1, fun _ => [REF_LON_LON]⟩,
   ⟨0x368, 0x4, 1, fun _ => [ORIG_E_E]⟩,
   ⟨0x36C, 0x4, 1, fun _ => [ORIG_N_N]⟩,
   ⟨0x370, 0x4, 1, fun _ => [GRID_CELL, GRID_OVLP, GRID_FIXMIN]⟩,
   ⟨0x374, 0x4, 1, fun _ => [SPEED_VMIN, SPEED_VMAX]⟩,
   ⟨0x378, 0x4, 1, fun _ => [HOLD_T, HOLD_POLICY, HOLD_WSRC]⟩,
   ⟨0x37C, 0x4, 1, fun _ => [WHEEL_UM]⟩,
   ⟨0x380, 0x4, 1, fun _ => [PIVOT_X, PIVOT_Y]⟩,
   ⟨0x384, 0x4, 1, fun _ => [SWING_KAPPA, SWING_EN]⟩,
   ⟨0x388, 0x4, 1, fun _ => [EVAL_BISECT]⟩,
   ⟨0x38C, 0x4, 1, fun _ => [LEARN_EN, LEARN_W, LEARN_PROBE]⟩,
   ⟨0x390, 0x4, 1, fun _ => [PROBE_LEN, PROBE_MAXH, PROBE_AGE]⟩,
   ⟨0x394, 0x4, 4, fun i => [CLASS_PSRC i, CLASS_FSRC i, CLASS_LAG i, CLASS_MIN_DP i]⟩,
   ⟨0x3A4, 0x4, 1, fun _ => [BND_ADDR_ADDR]⟩,
   ⟨0x3A8, 0x4, 1, fun _ => [BND_NPOLY]⟩,
   ⟨0x3AC, 0x4, 1, fun _ => [BND_STAT_RES, BND_STAT_XCOUNT, BND_STAT_EMAX, BND_STAT_NVERT]⟩,
   ⟨0x3B0, 0x4, 1, fun _ => [MAPCMD_CLEAR, MAPCMD_CKPT]⟩,
   ⟨0x3B4, 0x4, 1, fun _ => [MAPSTAT_DIRTY, MAPSTAT_FREE, MAPSTAT_SUSP, MAPSTAT_BUSY, MAPSTAT_RESTORED]⟩,
   ⟨0x3B8, 0x4, 1, fun _ => [CKPT_NUM_NUM]⟩,
   ⟨0x3BC, 0x4, 1, fun _ => [STATUS_VALID, STATUS_LA, STATUS_HOLD, STATUS_HOLD_EXP, STATUS_GATE, STATUS_GRID_OUT, STATUS_PROBE]⟩,
   ⟨0x3C0, 0x4, 1, fun _ => [LATE_COUNT]⟩,
   ⟨0x3C4, 0x4, 1, fun _ => [OBS_ACC, OBS_REJ]⟩,
   ⟨0x3C8, 0x4, 1, fun _ => [MAP_ID_ID]⟩]
end GAL0

/-! Table GFE-1. -/
namespace GFE
def page : Nat := 0x14
def ANT_CFG_BIAS_EN (i : Nat) : Fld := ⟨0x14, 0x040 + i * 0x10, 0, 1, 1, .rwl, 0, 1, false⟩
def ANT_CFG_FORCE_PRESENT (i : Nat) : Fld := ⟨0x14, 0x040 + i * 0x10, 1, 1, 0, .rwl, 0, 1, false⟩
def ANT_CFG_ANT_GAIN (i : Nat) : Fld := ⟨0x14, 0x040 + i * 0x10, 8, 8, 0x1C, .rwl, 0, 50, false⟩
def ANT_STAT_I_MA (i : Nat) : Fld := ⟨0x14, 0x044 + i * 0x10, 0, 8, 0, .ro, 0, 255, false⟩
def ANT_STAT_DET (i : Nat) : Fld := ⟨0x14, 0x044 + i * 0x10, 8, 2, 0, .ro, 0, 3, false⟩
def ANT_STAT_BIAS_ON (i : Nat) : Fld := ⟨0x14, 0x044 + i * 0x10, 10, 1, 0, .ro, 0, 1, false⟩
def JAM_LVL (i : Nat) : Fld := ⟨0x14, 0x048 + i * 0x10, 0, 8, 0, .ro, 0, 255, false⟩
def JAM_PEAK (i : Nat) : Fld := ⟨0x14, 0x048 + i * 0x10, 8, 8, 0, .rc, 0, 255, false⟩
def AGC_GAIN (i : Nat) : Fld := ⟨0x14, 0x04C + i * 0x10, 0, 8, 0, .ro, 0, 255, false⟩
def JAMTHR_WARN : Fld := ⟨0x14, 0x060, 0, 8, 0x28, .rwl, 4, 252, false⟩
def JAMTHR_HIGH : Fld := ⟨0x14, 0x060, 8, 8, 0x50, .rwl, 0, 255, false⟩
def DET_OPEN_MA : Fld := ⟨0x14, 0x064, 0, 8, 2, .rwl, 1, 20, false⟩
def DET_SHORT_MA : Fld := ⟨0x14, 0x064, 8, 8, 0x32, .rwl, 0, 60, false⟩
def rows : List Row :=
  [⟨0x040, 0x10, 2, fun i => [ANT_CFG_BIAS_EN i, ANT_CFG_FORCE_PRESENT i, ANT_CFG_ANT_GAIN i]⟩,
   ⟨0x044, 0x10, 2, fun i => [ANT_STAT_I_MA i, ANT_STAT_DET i, ANT_STAT_BIAS_ON i]⟩,
   ⟨0x048, 0x10, 2, fun i => [JAM_LVL i, JAM_PEAK i]⟩,
   ⟨0x04C, 0x10, 2, fun i => [AGC_GAIN i]⟩,
   ⟨0x060, 0x4, 1, fun _ => [JAMTHR_WARN, JAMTHR_HIGH]⟩,
   ⟨0x064, 0x4, 1, fun _ => [DET_OPEN_MA, DET_SHORT_MA]⟩]
end GFE

/-! Table GNOTCH-1. -/
namespace GNOTCH
def page : Nat := 0x15
def CFG_MODE (i : Nat) : Fld := ⟨0x15, 0x040 + i * 0x8, 0, 2, 1, .rwl, 0, 2, false⟩
def CFG_WIDTH (i : Nat) : Fld := ⟨0x15, 0x040 + i * 0x8, 4, 2, 1, .rwl, 0, 3, false⟩
def CFG_FREQ (i : Nat) : Fld := ⟨0x15, 0x040 + i * 0x8, 8, 24, 0, .rwl, (-8184000), 8184000, true⟩
def NSTAT_CUR (i : Nat) : Fld := ⟨0x15, 0x044 + i * 0x8, 0, 24, 0, .ro, 0, 16777215, false⟩
def NSTAT_ACTIVE (i : Nat) : Fld := ⟨0x15, 0x044 + i * 0x8, 24, 1, 0, .ro, 0, 1, false⟩
def NSTAT_CONV (i : Nat) : Fld := ⟨0x15, 0x044 + i * 0x8, 25, 1, 0, .ro, 0, 1, false⟩
def THR_THR : Fld := ⟨0x15, 0x080, 0, 6, 0xC, .rwl, 6, 40, false⟩
def rows : List Row :=
  [⟨0x040, 0x8, 8, fun i => [CFG_MODE i, CFG_WIDTH i, CFG_FREQ i]⟩,
   ⟨0x044, 0x8, 8, fun i => [NSTAT_CUR i, NSTAT_ACTIVE i, NSTAT_CONV i]⟩,
   ⟨0x080, 0x4, 1, fun _ => [THR_THR]⟩]
end GNOTCH

/-! Table GACQ-1. -/
namespace GACQ
def page : Nat := 0x16
def LANE_PRN (i : Nat) : Fld := ⟨0x16, 0x040 + i * 0x8, 0, 5, 0, .core, 0, 31, false⟩
def LANE_ANT (i : Nat) : Fld := ⟨0x16, 0x040 + i * 0x8, 8, 1, 0, .core, 0, 1, false⟩
def LANE_EN (i : Nat) : Fld := ⟨0x16, 0x040 + i * 0x8, 15, 1, 0, .core, 0, 1, false⟩
def LANE_DOPP (i : Nat) : Fld := ⟨0x16, 0x040 + i * 0x8, 16, 16, 0, .core, 0, 65535, false⟩
def RES_CODE (i : Nat) : Fld := ⟨0x16, 0x044 + i * 0x8, 0, 11, 0, .ro, 0, 2047, false⟩
def RES_RATIO (i : Nat) : Fld := ⟨0x16, 0x044 + i * 0x8, 16, 8, 0, .ro, 0, 255, false⟩
def RES_DETECT (i : Nat) : Fld := ⟨0x16, 0x044 + i * 0x8, 24, 1, 0, .ro, 0, 1, false⟩
def SEARCH_TCOH : Fld := ⟨0x16, 0x080, 0, 4, 0, .core, 0, 15, false⟩
def SEARCH_NCOH : Fld := ⟨0x16, 0x080, 4, 6, 0, .core, 0, 63, false⟩
def SEARCH_THR : Fld := ⟨0x16, 0x080, 16, 8, 0x3C, .core, 0, 255, false⟩
def CMD_START : Fld := ⟨0x16, 0x084, 0, 1, 0, .wsc, 0, 1, false⟩
def CMD_ABORT : Fld := ⟨0x16, 0x084, 1, 1, 0, .wsc, 0, 1, false⟩
def SSTAT_BUSY : Fld := ⟨0x16, 0x088, 0, 1, 0, .ro, 0, 1, false⟩
def SSTAT_RES : Fld := ⟨0x16, 0x088, 1, 2, 0, .ro, 0, 3, false⟩
def rows : List Row :=
  [⟨0x040, 0x8, 8, fun i => [LANE_PRN i, LANE_ANT i, LANE_EN i, LANE_DOPP i]⟩,
   ⟨0x044, 0x8, 8, fun i => [RES_CODE i, RES_RATIO i, RES_DETECT i]⟩,
   ⟨0x080, 0x4, 1, fun _ => [SEARCH_TCOH, SEARCH_NCOH, SEARCH_THR]⟩,
   ⟨0x084, 0x4, 1, fun _ => [CMD_START, CMD_ABORT]⟩,
   ⟨0x088, 0x4, 1, fun _ => [SSTAT_BUSY, SSTAT_RES]⟩]
end GACQ

/-! Table GFFT-1. -/
namespace GFFT
def page : Nat := 0x17
def SRC_ADDR : Fld := ⟨0x17, 0x040, 0, 32, 0x20180000, .core, 0, 4294967295, false⟩
def DST_ADDR : Fld := ⟨0x17, 0x044, 0, 32, 0x20081000, .core, 0, 4294967295, false⟩
def PRNMASK_MASK : Fld := ⟨0x17, 0x048, 0, 32, 0xFFFFFFFF, .core, 0, 4294967295, false⟩
def SPAN_K : Fld := ⟨0x17, 0x04C, 0, 6, 0x14, .core, 0, 63, false⟩
def SPAN_BLOCKS : Fld := ⟨0x17, 0x04C, 8, 3, 3, .core, 0, 7, false⟩
def SPAN_THR : Fld := ⟨0x17, 0x04C, 16, 8, 0x8C, .core, 0, 255, false⟩
def CMD_START : Fld := ⟨0x17, 0x050, 0, 1, 0, .wsc, 0, 1, false⟩
def CMD_ABORT : Fld := ⟨0x17, 0x050, 1, 1, 0, .wsc, 0, 1, false⟩
def JSTAT_RES : Fld := ⟨0x17, 0x054, 0, 3, 0, .ro, 0, 7, false⟩
def XFORMS_COUNT : Fld := ⟨0x17, 0x058, 0, 16, 0, .ro, 0, 65535, false⟩
def rows : List Row :=
  [⟨0x040, 0x4, 1, fun _ => [SRC_ADDR]⟩,
   ⟨0x044, 0x4, 1, fun _ => [DST_ADDR]⟩,
   ⟨0x048, 0x4, 1, fun _ => [PRNMASK_MASK]⟩,
   ⟨0x04C, 0x4, 1, fun _ => [SPAN_K, SPAN_BLOCKS, SPAN_THR]⟩,
   ⟨0x050, 0x4, 1, fun _ => [CMD_START, CMD_ABORT]⟩,
   ⟨0x054, 0x4, 1, fun _ => [JSTAT_RES]⟩,
   ⟨0x058, 0x4, 1, fun _ => [XFORMS_COUNT]⟩]
end GFFT

/-! Table GTRK-1. -/
namespace GTRK
def page : Nat := 0x18
def CFG_PRN (i : Nat) : Fld := ⟨0x18, 0x040 + i * 0x10, 0, 5, 0, .core, 0, 31, false⟩
def CFG_SP (i : Nat) : Fld := ⟨0x18, 0x040 + i * 0x10, 5, 4, 7, .core, 0, 15, false⟩
def CFG_EN (i : Nat) : Fld := ⟨0x18, 0x040 + i * 0x10, 9, 1, 0, .core, 0, 1, false⟩
def CFG_DOPP (i : Nat) : Fld := ⟨0x18, 0x040 + i * 0x10, 16, 16, 0, .core, 0, 65535, false⟩
def CSTAT_STATE (i : Nat) : Fld := ⟨0x18, 0x044 + i * 0x10, 0, 3, 0, .ro, 0, 7, false⟩
def CSTAT_SLIP (i : Nat) : Fld := ⟨0x18, 0x044 + i * 0x10, 3, 1, 0, .ro, 0, 1, false⟩
def CSTAT_BITSYNC (i : Nat) : Fld := ⟨0x18, 0x044 + i * 0x10, 4, 1, 0, .ro, 0, 1, false⟩
def CSTAT_CN0 (i : Nat) : Fld := ⟨0x18, 0x044 + i * 0x10, 8, 8, 0, .ro, 0, 255, false⟩
def CSTAT_DOPP (i : Nat) : Fld := ⟨0x18, 0x044 + i * 0x10, 16, 16, 0, .ro, 0, 65535, false⟩
def CODE_PHASE (i : Nat) : Fld := ⟨0x18, 0x048 + i * 0x10, 0, 20, 0, .ro, 0, 1048575, false⟩
def CODE_MS (i : Nat) : Fld := ⟨0x18, 0x048 + i * 0x10, 20, 5, 0, .ro, 0, 31, false⟩
def CARR_CYC (i : Nat) : Fld := ⟨0x18, 0x04C + i * 0x10, 0, 32, 0, .ro, 0, 4294967295, false⟩
def LOOPS_PLL_BW : Fld := ⟨0x18, 0x340, 0, 8, 0xF, .rwl, 5, 40, false⟩
def LOOPS_DLL_BW : Fld := ⟨0x18, 0x340, 8, 8, 0xA, .rwl, 1, 50, false⟩
def LOOPS_FLL_BW : Fld := ⟨0x18, 0x340, 16, 8, 0xA, .rwl, 2, 20, false⟩
def COAST_MAX : Fld := ⟨0x18, 0x344, 0, 5, 0x14, .rwl, 0, 20, false⟩
def COAST_CN0_LOSS : Fld := ⟨0x18, 0x344, 8, 8, 0x16, .rwl, 15, 35, false⟩
def rows : List Row :=
  [⟨0x040, 0x10, 48, fun i => [CFG_PRN i, CFG_SP i, CFG_EN i, CFG_DOPP i]⟩,
   ⟨0x044, 0x10, 48, fun i => [CSTAT_STATE i, CSTAT_SLIP i, CSTAT_BITSYNC i, CSTAT_CN0 i, CSTAT_DOPP i]⟩,
   ⟨0x048, 0x10, 48, fun i => [CODE_PHASE i, CODE_MS i]⟩,
   ⟨0x04C, 0x10, 48, fun i => [CARR_CYC i]⟩,
   ⟨0x340, 0x4, 1, fun _ => [LOOPS_PLL_BW, LOOPS_DLL_BW, LOOPS_FLL_BW]⟩,
   ⟨0x344, 0x4, 1, fun _ => [COAST_MAX, COAST_CN0_LOSS]⟩]
end GTRK

/-! Table GBASE-1. -/
namespace GBASE
def page : Nat := 0x19
def CFG_EN : Fld := ⟨0x19, 0x040, 0, 1, 1, .rwl, 0, 1, false⟩
def CFG_MIN_SATS : Fld := ⟨0x19, 0x040, 4, 4, 5, .rwl, 5, 12, false⟩
def CFG_TOL : Fld := ⟨0x19, 0x040, 16, 9, 0x64, .rwl, 10, 500, false⟩
def HEAD_VMIN : Fld := ⟨0x19, 0x044, 0, 8, 0x32, .rwl, 10, 200, false⟩
def HEAD_ALPHA : Fld := ⟨0x19, 0x044, 8, 8, 0x40, .rwl, 1, 255, false⟩
def HEAD_BETA : Fld := ⟨0x19, 0x044, 16, 8, 8, .rwl, 1, 255, false⟩
def BSTAT_VALID : Fld := ⟨0x19, 0x048, 0, 1, 0, .coro, 0, 1, false⟩
def BSTAT_FIXED : Fld := ⟨0x19, 0x048, 1, 1, 0, .coro, 0, 1, false⟩
def BSTAT_SINGLE : Fld := ⟨0x19, 0x048, 2, 1, 0, .coro, 0, 1, false⟩
def BSTAT_COMMON : Fld := ⟨0x19, 0x048, 8, 8, 0, .coro, 0, 255, false⟩
def E_MM : Fld := ⟨0x19, 0x04C, 0, 32, 0, .coro, 0, 4294967295, false⟩
def N_MM : Fld := ⟨0x19, 0x050, 0, 32, 0, .coro, 0, 4294967295, false⟩
def U_MM : Fld := ⟨0x19, 0x054, 0, 32, 0, .coro, 0, 4294967295, false⟩
def LEN_MM : Fld := ⟨0x19, 0x058, 0, 16, 0, .coro, 0, 65535, false⟩
def LEN_RATIO : Fld := ⟨0x19, 0x058, 16, 16, 0, .coro, 0, 65535, false⟩
def LINE_BIAS_BIAS : Fld := ⟨0x19, 0x05C, 0, 16, 0, .coro, 0, 65535, false⟩
def rows : List Row :=
  [⟨0x040, 0x4, 1, fun _ => [CFG_EN, CFG_MIN_SATS, CFG_TOL]⟩,
   ⟨0x044, 0x4, 1, fun _ => [HEAD_VMIN, HEAD_ALPHA, HEAD_BETA]⟩,
   ⟨0x048, 0x4, 1, fun _ => [BSTAT_VALID, BSTAT_FIXED, BSTAT_SINGLE, BSTAT_COMMON]⟩,
   ⟨0x04C, 0x4, 1, fun _ => [E_MM]⟩,
   ⟨0x050, 0x4, 1, fun _ => [N_MM]⟩,
   ⟨0x054, 0x4, 1, fun _ => [U_MM]⟩,
   ⟨0x058, 0x4, 1, fun _ => [LEN_MM, LEN_RATIO]⟩,
   ⟨0x05C, 0x4, 1, fun _ => [LINE_BIAS_BIAS]⟩]
end GBASE

/-! Table GSNAP-1. -/
namespace GSNAP
def page : Nat := 0x1A
def CFG_SLOT : Fld := ⟨0x1A, 0x040, 0, 1, 1, .rwl, 0, 1, false⟩
def CMD_START : Fld := ⟨0x1A, 0x044, 0, 1, 0, .wsc, 0, 1, false⟩
def CMD_ABORT : Fld := ⟨0x1A, 0x044, 1, 1, 0, .wsc, 0, 1, false⟩
def CMD_ANT : Fld := ⟨0x1A, 0x044, 4, 2, 0, .wo, 0, 3, false⟩
def CMD_LEN : Fld := ⟨0x1A, 0x044, 8, 2, 0, .wo, 0, 3, false⟩
def SSTAT_BUSY : Fld := ⟨0x1A, 0x048, 0, 1, 0, .ro, 0, 1, false⟩
def SSTAT_RES : Fld := ⟨0x1A, 0x048, 1, 3, 0, .ro, 0, 7, false⟩
def SLOTS_S : Fld := ⟨0x1A, 0x04C, 0, 16, 0, .ro, 0, 65535, false⟩
def HOLD_HOLD : Fld := ⟨0x1A, 0x050, 0, 8, 0, .rw, 0, 255, false⟩
def SEQ_COUNT : Fld := ⟨0x1A, 0x054, 0, 32, 0, .ro, 0, 4294967295, false⟩
def rows : List Row :=
  [⟨0x040, 0x4, 1, fun _ => [CFG_SLOT]⟩,
   ⟨0x044, 0x4, 1, fun _ => [CMD_START, CMD_ABORT, CMD_ANT, CMD_LEN]⟩,
   ⟨0x048, 0x4, 1, fun _ => [SSTAT_BUSY, SSTAT_RES]⟩,
   ⟨0x04C, 0x4, 1, fun _ => [SLOTS_S]⟩,
   ⟨0x050, 0x4, 1, fun _ => [HOLD_HOLD]⟩,
   ⟨0x054, 0x4, 1, fun _ => [SEQ_COUNT]⟩]
end GSNAP

/-! Table GPVT-1. -/
namespace GPVT
def page : Nat := 0x1B
def CFG_PDOP_MAX : Fld := ⟨0x1B, 0x040, 0, 8, 0x3C, .rwl, 10, 250, false⟩
def CFG_MASK : Fld := ⟨0x1B, 0x040, 8, 8, 0xA, .rwl, 0, 60, false⟩
def RTK_RTK_AGE : Fld := ⟨0x1B, 0x044, 0, 8, 5, .rwl, 1, 30, false⟩
def RTK_DGNSS_AGE : Fld := ⟨0x1B, 0x044, 8, 8, 0x1E, .rwl, 0, 120, false⟩
def RTK_DMAX : Fld := ⟨0x1B, 0x044, 16, 8, 0xA, .rwl, 1, 20, false⟩
def RTK_RATIO : Fld := ⟨0x1B, 0x044, 24, 8, 0x1E, .rwl, 15, 100, false⟩
def RING_ADDR : Fld := ⟨0x1B, 0x048, 0, 32, 0x20080000, .rwl, 0x20000000, 0x201FFE00, false⟩
def POST_POST : Fld := ⟨0x1B, 0x04C, 0, 1, 0, .wsc, 0, 1, false⟩
def PSTAT_LAT : Fld := ⟨0x1B, 0x050, 0, 10, 0, .ro, 0, 1023, false⟩
def PSTAT_LATE : Fld := ⟨0x1B, 0x050, 10, 1, 0, .ro, 0, 1, false⟩
def PSTAT_STALE : Fld := ⟨0x1B, 0x050, 11, 1, 0, .ro, 0, 1, false⟩
def PSTAT_SEQ : Fld := ⟨0x1B, 0x050, 16, 16, 0, .ro, 0, 65535, false⟩
def RTCM_OK : Fld := ⟨0x1B, 0x054, 0, 16, 0, .rc, 0, 65535, false⟩
def RTCM_BAD : Fld := ⟨0x1B, 0x054, 16, 8, 0, .rc, 0, 255, false⟩
def RTCM_UNSUP : Fld := ⟨0x1B, 0x054, 24, 8, 0, .rc, 0, 255, false⟩
def BASE_ID : Fld := ⟨0x1B, 0x058, 0, 12, 0, .coro, 0, 4095, false⟩
def BASE_DIST : Fld := ⟨0x1B, 0x058, 16, 16, 0, .coro, 0, 65535, false⟩
def REC_WORD (i : Nat) : Fld := ⟨0x1B, 0x080 + i * 0x4, 0, 32, 0, .core, 0, 4294967295, false⟩
def rows : List Row :=
  [⟨0x040, 0x4, 1, fun _ => [CFG_PDOP_MAX, CFG_MASK]⟩,
   ⟨0x044, 0x4, 1, fun _ => [RTK_RTK_AGE, RTK_DGNSS_AGE, RTK_DMAX, RTK_RATIO]⟩,
   ⟨0x048, 0x4, 1, fun _ => [RING_ADDR]⟩,
   ⟨0x04C, 0x4, 1, fun _ => [POST_POST]⟩,
   ⟨0x050, 0x4, 1, fun _ => [PSTAT_LAT, PSTAT_LATE, PSTAT_STALE, PSTAT_SEQ]⟩,
   ⟨0x054, 0x4, 1, fun _ => [RTCM_OK, RTCM_BAD, RTCM_UNSUP]⟩,
   ⟨0x058, 0x4, 1, fun _ => [BASE_ID, BASE_DIST]⟩,
   ⟨0x080, 0x4, 32, fun i => [REC_WORD i]⟩]
end GPVT

/-! Table PWM-5. -/
namespace PWM
def page (k : Nat) : Nat := 0x1C + k
def CFG_TLOCK (k : Nat) : Fld := ⟨0x1C + k, 0x040, 0, 1, (pwmTlock k), .rwl, 0, 1, false⟩
def CFG_FLT0_EN (k : Nat) : Fld := ⟨0x1C + k, 0x040, 4, 1, (pwmFlt0 k), .rwl, 0, 1, false⟩
def CFG_FLT1_EN (k : Nat) : Fld := ⟨0x1C + k, 0x040, 5, 1, (pwmFlt1 k), .rwl, 0, 1, false⟩
def CFG_FLT0_POL (k : Nat) : Fld := ⟨0x1C + k, 0x040, 8, 1, 0, .rwl, 0, 1, false⟩
def CFG_FLT1_POL (k : Nat) : Fld := ⟨0x1C + k, 0x040, 9, 1, 0, .rwl, 0, 1, false⟩
def FREQ_F (k : Nat) : Fld := ⟨0x1C + k, 0x044, 0, 10, (pwmFreq k), .rwl, 100, 1000, false⟩
def PER_PER (k : Nat) : Fld := ⟨0x1C + k, 0x048, 0, 16, (pwmPer k), .ro, 0, 65535, false⟩
def CNT_CNT (k : Nat) : Fld := ⟨0x1C + k, 0x04C, 0, 16, 0, .ro, 0, 65535, false⟩
def CNT_DOWN (k : Nat) : Fld := ⟨0x1C + k, 0x04C, 16, 1, 0, .ro, 0, 1, false⟩
def DUTY_DUTY (k i : Nat) : Fld := ⟨0x1C + k, 0x050 + i * 0x4, 0, 21, 0, .rw, 0, 2097151, false⟩
def CMPA_CMP (k : Nat) : Fld := ⟨0x1C + k, 0x060, 0, 16, 0, .rw, 0, 65535, false⟩
def CMPB_CMP (k : Nat) : Fld := ⟨0x1C + k, 0x064, 0, 16, 0, .rw, 0, 65535, false⟩
def IRQ_PS (k : Nat) : Fld := ⟨0x1C + k, 0x068, 0, 4, 0, .rw, 0, 15, false⟩
def SAFE_OUT0 (k : Nat) : Fld := ⟨0x1C + k, 0x06C, 0, 2, 0, .rwl, 0, 2, false⟩
def SAFE_OUT1 (k : Nat) : Fld := ⟨0x1C + k, 0x06C, 2, 2, 0, .rwl, 0, 2, false⟩
def SAFE_OUT2 (k : Nat) : Fld := ⟨0x1C + k, 0x06C, 4, 2, 0, .rwl, 0, 2, false⟩
def SAFE_OUT3 (k : Nat) : Fld := ⟨0x1C + k, 0x06C, 6, 2, 0, .rwl, 0, 2, false⟩
def SAFE_OUT4 (k : Nat) : Fld := ⟨0x1C + k, 0x06C, 8, 2, 0, .rwl, 0, 2, false⟩
def SAFE_OUT5 (k : Nat) : Fld := ⟨0x1C + k, 0x06C, 10, 2, 0, .rwl, 0, 2, false⟩
def POL_OUT0 (k : Nat) : Fld := ⟨0x1C + k, 0x070, 0, 1, 0, .rwl, 0, 1, false⟩
def POL_OUT1 (k : Nat) : Fld := ⟨0x1C + k, 0x070, 1, 1, 0, .rwl, 0, 1, false⟩
def POL_OUT2 (k : Nat) : Fld := ⟨0x1C + k, 0x070, 2, 1, 0, .rwl, 0, 1, false⟩
def POL_OUT3 (k : Nat) : Fld := ⟨0x1C + k, 0x070, 3, 1, 0, .rwl, 0, 1, false⟩
def POL_OUT4 (k : Nat) : Fld := ⟨0x1C + k, 0x070, 4, 1, 0, .rwl, 0, 1, false⟩
def POL_OUT5 (k : Nat) : Fld := ⟨0x1C + k, 0x070, 5, 1, 0, .rwl, 0, 1, false⟩
def DT_DT_MIN (k : Nat) : Fld := ⟨0x1C + k, 0x074, 0, 10, 0x21, .rwl, 0, 655, false⟩
def DT_DT_MAX (k : Nat) : Fld := ⟨0x1C + k, 0x074, 16, 10, 0xA4, .rwl, 0, 655, false⟩
def DTCFG_MARGIN (k : Nat) : Fld := ⟨0x1C + k, 0x078, 0, 6, 0xA, .rwl, 0, 63, false⟩
def DTCFG_ADAPT (k : Nat) : Fld := ⟨0x1C + k, 0x078, 8, 1, 1, .rwl, 0, 1, false⟩
def DT_STAT_RISE (k i : Nat) : Fld := ⟨0x1C + k, 0x07C + i * 0x4, 0, 10, 0xA4, .ro, 0, 1023, false⟩
def DT_STAT_FALL (k i : Nat) : Fld := ⟨0x1C + k, 0x07C + i * 0x4, 16, 10, 0xA4, .ro, 0, 1023, false⟩
def DT_STAT_CONV (k i : Nat) : Fld := ⟨0x1C + k, 0x07C + i * 0x4, 28, 1, 0, .ro, 0, 1, false⟩
def DT_STAT_SLOW (k i : Nat) : Fld := ⟨0x1C + k, 0x07C + i * 0x4, 29, 1, 0, .ro, 0, 1, false⟩
def BOOT_BOOT_MAX (k : Nat) : Fld := ⟨0x1C + k, 0x088, 0, 10, 0x64, .rwl, 1, 1000, false⟩
def BOOT_BOOT_PW (k : Nat) : Fld := ⟨0x1C + k, 0x088, 16, 9, 0x83, .rwl, 33, 500, false⟩
def BOOT_EN (k : Nat) : Fld := ⟨0x1C + k, 0x088, 28, 1, 1, .rwl, 0, 1, false⟩
def FLTCLR_CLR0 (k : Nat) : Fld := ⟨0x1C + k, 0x08C, 0, 1, 0, .wsc, 0, 1, false⟩
def FLTCLR_CLR1 (k : Nat) : Fld := ⟨0x1C + k, 0x08C, 1, 1, 0, .wsc, 0, 1, false⟩
def COMM_MODE (k : Nat) : Fld := ⟨0x1C + k, 0x090, 0, 2, 0, .rw, 0, 3, false⟩
def COMM_DIR (k : Nat) : Fld := ⟨0x1C + k, 0x090, 2, 1, 0, .rw, 0, 1, false⟩
def COMM_START (k : Nat) : Fld := ⟨0x1C + k, 0x090, 4, 3, 0, .rw, 0, 7, false⟩
def COMM_T_TMR (k : Nat) : Fld := ⟨0x1C + k, 0x094, 0, 16, 0x7D0, .rwl, 50, 65535, false⟩
def COMM_T_DLY (k : Nat) : Fld := ⟨0x1C + k, 0x094, 16, 8, 0x80, .rwl, 0, 255, false⟩
def COMM_T_BLANK (k : Nat) : Fld := ⟨0x1C + k, 0x094, 24, 8, 0x14, .rwl, 0, 255, false⟩
def COMM_TAB0_STEP0 (k : Nat) : Fld := ⟨0x1C + k, 0x098, 0, 6, 9, .rwl, 0, 63, false⟩
def COMM_TAB0_STEP1 (k : Nat) : Fld := ⟨0x1C + k, 0x098, 8, 6, 0x21, .rwl, 0, 63, false⟩
def COMM_TAB0_STEP2 (k : Nat) : Fld := ⟨0x1C + k, 0x098, 16, 6, 0x24, .rwl, 0, 63, false⟩
def COMM_TAB1_STEP3 (k : Nat) : Fld := ⟨0x1C + k, 0x09C, 0, 6, 6, .rwl, 0, 63, false⟩
def COMM_TAB1_STEP4 (k : Nat) : Fld := ⟨0x1C + k, 0x09C, 8, 6, 0x12, .rwl, 0, 63, false⟩
def COMM_TAB1_STEP5 (k : Nat) : Fld := ⟨0x1C + k, 0x09C, 16, 6, 0x18, .rwl, 0, 63, false⟩
def COMM_STAT_STEP (k : Nat) : Fld := ⟨0x1C + k, 0x0A0, 0, 3, 0, .ro, 0, 7, false⟩
def COMM_STAT_MISS (k : Nat) : Fld := ⟨0x1C + k, 0x0A0, 8, 8, 0, .rc, 0, 255, false⟩
def COMM_STAT_LAST (k : Nat) : Fld := ⟨0x1C + k, 0x0A0, 16, 16, 0, .ro, 0, 65535, false⟩
def rows (k : Nat) : List Row :=
  [⟨0x040, 0x4, 1, fun _ => [CFG_TLOCK k, CFG_FLT0_EN k, CFG_FLT1_EN k, CFG_FLT0_POL k, CFG_FLT1_POL k]⟩,
   ⟨0x044, 0x4, 1, fun _ => [FREQ_F k]⟩,
   ⟨0x048, 0x4, 1, fun _ => [PER_PER k]⟩,
   ⟨0x04C, 0x4, 1, fun _ => [CNT_CNT k, CNT_DOWN k]⟩,
   ⟨0x050, 0x4, 3, fun i => [DUTY_DUTY k i]⟩,
   ⟨0x060, 0x4, 1, fun _ => [CMPA_CMP k]⟩,
   ⟨0x064, 0x4, 1, fun _ => [CMPB_CMP k]⟩,
   ⟨0x068, 0x4, 1, fun _ => [IRQ_PS k]⟩,
   ⟨0x06C, 0x4, 1, fun _ => [SAFE_OUT0 k, SAFE_OUT1 k, SAFE_OUT2 k, SAFE_OUT3 k, SAFE_OUT4 k, SAFE_OUT5 k]⟩,
   ⟨0x070, 0x4, 1, fun _ => [POL_OUT0 k, POL_OUT1 k, POL_OUT2 k, POL_OUT3 k, POL_OUT4 k, POL_OUT5 k]⟩,
   ⟨0x074, 0x4, 1, fun _ => [DT_DT_MIN k, DT_DT_MAX k]⟩,
   ⟨0x078, 0x4, 1, fun _ => [DTCFG_MARGIN k, DTCFG_ADAPT k]⟩,
   ⟨0x07C, 0x4, 3, fun i => [DT_STAT_RISE k i, DT_STAT_FALL k i, DT_STAT_CONV k i, DT_STAT_SLOW k i]⟩,
   ⟨0x088, 0x4, 1, fun _ => [BOOT_BOOT_MAX k, BOOT_BOOT_PW k, BOOT_EN k]⟩,
   ⟨0x08C, 0x4, 1, fun _ => [FLTCLR_CLR0 k, FLTCLR_CLR1 k]⟩,
   ⟨0x090, 0x4, 1, fun _ => [COMM_MODE k, COMM_DIR k, COMM_START k]⟩,
   ⟨0x094, 0x4, 1, fun _ => [COMM_T_TMR k, COMM_T_DLY k, COMM_T_BLANK k]⟩,
   ⟨0x098, 0x4, 1, fun _ => [COMM_TAB0_STEP0 k, COMM_TAB0_STEP1 k, COMM_TAB0_STEP2 k]⟩,
   ⟨0x09C, 0x4, 1, fun _ => [COMM_TAB1_STEP3 k, COMM_TAB1_STEP4 k, COMM_TAB1_STEP5 k]⟩,
   ⟨0x0A0, 0x4, 1, fun _ => [COMM_STAT_STEP k, COMM_STAT_MISS k, COMM_STAT_LAST k]⟩]
end PWM

/-! Table LOOP-6 to LOOP-8. -/
namespace LOOP
def page (k : Nat) : Nat := 0x20 + k
def WSEL_SLOT (k : Nat) : Fld := ⟨0x20 + k, 0x040, 0, 3, 0, .rw, 0, 7, false⟩
def CLAMP_SLOT_SLOT (k : Nat) : Fld := ⟨0x20 + k, 0x0C0, 0, 3, 0, .ro, 0, 7, false⟩
def MODE_MODE (k i : Nat) : Fld := ⟨0x20 + k, 0x100 + i * 0x10, 0, 2, 0, .rw, 0, 3, false⟩
def SP_SP (k i : Nat) : Fld := ⟨0x20 + k, 0x104 + i * 0x10, 0, 32, 0, .rw, 0, 4294967295, false⟩
def MAN_OUT_OUT (k i : Nat) : Fld := ⟨0x20 + k, 0x108 + i * 0x10, 0, 32, 0, .rw, 0, 4294967295, false⟩
def LSTAT_CUR (k i : Nat) : Fld := ⟨0x20 + k, 0x10C + i * 0x10, 0, 2, 0, .ro, 0, 3, false⟩
def LSTAT_LIM_HI (k i : Nat) : Fld := ⟨0x20 + k, 0x10C + i * 0x10, 2, 1, 0, .ro, 0, 1, false⟩
def LSTAT_LIM_LO (k i : Nat) : Fld := ⟨0x20 + k, 0x10C + i * 0x10, 3, 1, 0, .ro, 0, 1, false⟩
def LSTAT_SUPV_FAIL (k i : Nat) : Fld := ⟨0x20 + k, 0x10C + i * 0x10, 4, 1, 0, .ro, 0, 1, false⟩
def LSTAT_WIDE (k i : Nat) : Fld := ⟨0x20 + k, 0x10C + i * 0x10, 5, 1, 0, .ro, 0, 1, false⟩
def LSTAT_STALE_IN (k i : Nat) : Fld := ⟨0x20 + k, 0x10C + i * 0x10, 6, 1, 0, .ro, 0, 1, false⟩
def LSTAT_INJ (k i : Nat) : Fld := ⟨0x20 + k, 0x10C + i * 0x10, 7, 1, 0, .ro, 0, 1, false⟩
def LSTAT_REFUSE (k i : Nat) : Fld := ⟨0x20 + k, 0x10C + i * 0x10, 8, 3, 0, .ro, 0, 7, false⟩
def OUT_OUT (k i : Nat) : Fld := ⟨0x20 + k, 0x180 + i * 0x10, 0, 32, 0, .ro, 0, 4294967295, false⟩
def INTEG_I (k i : Nat) : Fld := ⟨0x20 + k, 0x184 + i * 0x10, 0, 32, 0, .ro, 0, 4294967295, false⟩
def RESID_R (k i : Nat) : Fld := ⟨0x20 + k, 0x188 + i * 0x10, 0, 32, 0, .ro, 0, 4294967295, false⟩
def ANGLE_TH (k i : Nat) : Fld := ⟨0x20 + k, 0x18C + i * 0x10, 0, 32, 0, .rw, 0, 4294967295, false⟩
def rows (k : Nat) : List Row :=
  [⟨0x040, 0x4, 1, fun _ => [WSEL_SLOT k]⟩,
   ⟨0x0C0, 0x4, 1, fun _ => [CLAMP_SLOT_SLOT k]⟩,
   ⟨0x100, 0x10, 8, fun i => [ MODE_MODE k i]⟩,
   ⟨0x104, 0x10, 8, fun i => [SP_SP k i]⟩,
   ⟨0x108, 0x10, 8, fun i => [MAN_OUT_OUT k i]⟩,
   ⟨0x10C, 0x10, 8, fun i => [LSTAT_CUR k i, LSTAT_LIM_HI k i, LSTAT_LIM_LO k i, LSTAT_SUPV_FAIL k i, LSTAT_WIDE k i, LSTAT_STALE_IN k i, LSTAT_INJ k i, LSTAT_REFUSE k i]⟩,
   ⟨0x180, 0x10, 8, fun i => [OUT_OUT k i]⟩,
   ⟨0x184, 0x10, 8, fun i => [INTEG_I k i]⟩,
   ⟨0x188, 0x10, 8, fun i => [RESID_R k i]⟩,
   ⟨0x18C, 0x10, 8, fun i => [ANGLE_TH k i]⟩]
end LOOP

/-! Table LOOP-9. -/
namespace LOOP0
def INJ_CFG_SLOT : Fld := ⟨0x20, 0x200, 0, 5, 0, .rw, 0, 31, false⟩
def INJ_CFG_POINT : Fld := ⟨0x20, 0x200, 8, 1, 0, .rw, 0, 1, false⟩
def INJ_CFG_KIND : Fld := ⟨0x20, 0x200, 10, 2, 0, .rw, 0, 3, false⟩
def INJ_CFG_HOLD : Fld := ⟨0x20, 0x200, 16, 13, 1, .rw, 0, 8191, false⟩
def INJ_AMP_AMP : Fld := ⟨0x20, 0x204, 0, 32, 0, .rw, 0, 4294967295, false⟩
def INJ_CTRL_START : Fld := ⟨0x20, 0x208, 0, 1, 0, .wsc, 0, 1, false⟩
def INJ_CTRL_STOP : Fld := ⟨0x20, 0x208, 1, 1, 0, .wsc, 0, 1, false⟩
def INJ_STAT_RES : Fld := ⟨0x20, 0x20C, 0, 3, 0, .ro, 0, 7, false⟩
def CAP_ADDR_ADDR : Fld := ⟨0x20, 0x210, 0, 32, 0x20084000, .rw, 0, 4294967295, false⟩
def CAP_CFG_SLOT : Fld := ⟨0x20, 0x214, 0, 5, 0, .rw, 0, 31, false⟩
def CAP_CFG_N : Fld := ⟨0x20, 0x214, 8, 13, 0x1000, .rw, 0, 8191, false⟩
def CAP_CFG_DEC : Fld := ⟨0x20, 0x214, 24, 4, 0, .rw, 0, 15, false⟩
def CAP_CFG_TRIG : Fld := ⟨0x20, 0x214, 28, 1, 0, .rw, 0, 1, false⟩
def CAP_CTRL_START : Fld := ⟨0x20, 0x218, 0, 1, 0, .wsc, 0, 1, false⟩
def CAP_CTRL_ABORT : Fld := ⟨0x20, 0x218, 1, 1, 0, .wsc, 0, 1, false⟩
def CAP_STAT_RES : Fld := ⟨0x20, 0x21C, 0, 3, 0, .ro, 0, 7, false⟩
def CAP_STAT_COUNT : Fld := ⟨0x20, 0x21C, 16, 13, 0, .ro, 0, 8191, false⟩
def SUPV_ADDR_ADDR : Fld := ⟨0x20, 0x220, 0, 32, 0x20090100, .rw, 0, 4294967295, false⟩
def rows : List Row :=
  [⟨0x200, 0x4, 1, fun _ => [INJ_CFG_SLOT, INJ_CFG_POINT, INJ_CFG_KIND, INJ_CFG_HOLD]⟩,
   ⟨0x204, 0x4, 1, fun _ => [INJ_AMP_AMP]⟩,
   ⟨0x208, 0x4, 1, fun _ => [INJ_CTRL_START, INJ_CTRL_STOP]⟩,
   ⟨0x20C, 0x4, 1, fun _ => [INJ_STAT_RES]⟩,
   ⟨0x210, 0x4, 1, fun _ => [CAP_ADDR_ADDR]⟩,
   ⟨0x214, 0x4, 1, fun _ => [CAP_CFG_SLOT, CAP_CFG_N, CAP_CFG_DEC, CAP_CFG_TRIG]⟩,
   ⟨0x218, 0x4, 1, fun _ => [CAP_CTRL_START, CAP_CTRL_ABORT]⟩,
   ⟨0x21C, 0x4, 1, fun _ => [CAP_STAT_RES, CAP_STAT_COUNT]⟩,
   ⟨0x220, 0x4, 1, fun _ => [SUPV_ADDR_ADDR]⟩]
end LOOP0

/-! Table LOOP-6 (per slot). -/
namespace LW
def page (k : Nat) : Nat := 0x40 + k
def CFG_RATE (k : Nat) : Fld := ⟨0x40 + k, 0x044, 0, 3, 0, .rwl, 0, 4, false⟩
def CFG_PHASE (k : Nat) : Fld := ⟨0x40 + k, 0x044, 4, 7, 0, .rwl, 0, 99, false⟩
def CFG_GROUP (k : Nat) : Fld := ⟨0x40 + k, 0x044, 12, 2, 0, .rwl, 0, 2, false⟩
def CFG_FMT (k : Nat) : Fld := ⟨0x40 + k, 0x044, 16, 1, 0, .rwl, 0, 1, false⟩
def CFG_INV (k : Nat) : Fld := ⟨0x40 + k, 0x044, 17, 1, 0, .rwl, 0, 1, false⟩
def CFG_DMEAS (k : Nat) : Fld := ⟨0x40 + k, 0x044, 18, 1, 0, .rwl, 0, 1, false⟩
def CFG_XFORM (k : Nat) : Fld := ⟨0x40 + k, 0x044, 19, 1, 0, .rwl, 0, 1, false⟩
def CFG_BQ0_POS (k : Nat) : Fld := ⟨0x40 + k, 0x044, 20, 2, 0, .rwl, 0, 2, false⟩
def CFG_BQ1_POS (k : Nat) : Fld := ⟨0x40 + k, 0x044, 22, 2, 0, .rwl, 0, 2, false⟩
def CFG_ACTION (k : Nat) : Fld := ⟨0x40 + k, 0x044, 24, 2, 0, .rwl, 0, 3, false⟩
def SEL_SP_SRC (k : Nat) : Fld := ⟨0x40 + k, 0x048, 0, 8, 1, .rwl, 0, 255, false⟩
def SEL_FB_SRC (k : Nat) : Fld := ⟨0x40 + k, 0x048, 8, 8, 0, .rwl, 0, 255, false⟩
def SEL_FF_SRC (k : Nat) : Fld := ⟨0x40 + k, 0x048, 16, 8, 0, .rwl, 0, 255, false⟩
def SEL_TGT (k : Nat) : Fld := ⟨0x40 + k, 0x048, 24, 4, 0, .rwl, 0, 8, false⟩
def OUT_MIN_MIN (k : Nat) : Fld := ⟨0x40 + k, 0x04C, 0, 32, 0, .rwl, (-2147483648), 2147483647, true⟩
def OUT_MAX_MAX (k : Nat) : Fld := ⟨0x40 + k, 0x050, 0, 32, 0, .rwl, (-2147483648), 2147483647, true⟩
def SP_RATE_RATE (k : Nat) : Fld := ⟨0x40 + k, 0x054, 0, 32, 0, .rwl, 0, 4294967295, false⟩
def KP_C (k : Nat) : Fld := ⟨0x40 + k, 0x058, 0, 32, 0, .rwl, (-2147483648), 2147483647, true⟩
def KI_C (k : Nat) : Fld := ⟨0x40 + k, 0x05C, 0, 32, 0, .rwl, (-2147483648), 2147483647, true⟩
def KD_C (k : Nat) : Fld := ⟨0x40 + k, 0x060, 0, 32, 0, .rwl, (-2147483648), 2147483647, true⟩
def KDF_C (k : Nat) : Fld := ⟨0x40 + k, 0x064, 0, 32, 0, .rwl, (-2147483648), 2147483647, true⟩
def KFF_C (k : Nat) : Fld := ⟨0x40 + k, 0x068, 0, 32, 0, .rwl, (-2147483648), 2147483647, true⟩
def PID_SH_KP (k : Nat) : Fld := ⟨0x40 + k, 0x06C, 0, 6, 0, .rwl, 0, 63, false⟩
def PID_SH_KI (k : Nat) : Fld := ⟨0x40 + k, 0x06C, 6, 6, 0, .rwl, 0, 63, false⟩
def PID_SH_KD (k : Nat) : Fld := ⟨0x40 + k, 0x06C, 12, 6, 0, .rwl, 0, 63, false⟩
def PID_SH_KDF (k : Nat) : Fld := ⟨0x40 + k, 0x06C, 18, 6, 0, .rwl, 0, 63, false⟩
def PID_SH_KFF (k : Nat) : Fld := ⟨0x40 + k, 0x06C, 24, 6, 0, .rwl, 0, 63, false⟩
def BQ0_C (k i : Nat) : Fld := ⟨0x40 + k, 0x070 + i * 0x4, 0, 32, 0, .rwl, (-2147483648), 2147483647, true⟩
def BQ1_C (k i : Nat) : Fld := ⟨0x40 + k, 0x084 + i * 0x4, 0, 32, 0, .rwl, (-2147483648), 2147483647, true⟩
def BQ_SH0_B0 (k : Nat) : Fld := ⟨0x40 + k, 0x098, 0, 6, 0, .rwl, 0, 63, false⟩
def BQ_SH0_B1 (k : Nat) : Fld := ⟨0x40 + k, 0x098, 6, 6, 0, .rwl, 0, 63, false⟩
def BQ_SH0_B2 (k : Nat) : Fld := ⟨0x40 + k, 0x098, 12, 6, 0, .rwl, 0, 63, false⟩
def BQ_SH0_A1 (k : Nat) : Fld := ⟨0x40 + k, 0x098, 18, 6, 0, .rwl, 0, 63, false⟩
def BQ_SH0_A2 (k : Nat) : Fld := ⟨0x40 + k, 0x098, 24, 6, 0, .rwl, 0, 63, false⟩
def BQ_SH1_B0 (k : Nat) : Fld := ⟨0x40 + k, 0x09C, 0, 6, 0, .rwl, 0, 63, false⟩
def BQ_SH1_B1 (k : Nat) : Fld := ⟨0x40 + k, 0x09C, 6, 6, 0, .rwl, 0, 63, false⟩
def BQ_SH1_B2 (k : Nat) : Fld := ⟨0x40 + k, 0x09C, 12, 6, 0, .rwl, 0, 63, false⟩
def BQ_SH1_A1 (k : Nat) : Fld := ⟨0x40 + k, 0x09C, 18, 6, 0, .rwl, 0, 63, false⟩
def BQ_SH1_A2 (k : Nat) : Fld := ⟨0x40 + k, 0x09C, 24, 6, 0, .rwl, 0, 63, false⟩
def SUPV_K_C (k : Nat) : Fld := ⟨0x40 + k, 0x0A0, 0, 32, 0, .rwl, (-2147483648), 2147483647, true⟩
def SUPV_T_TAU (k : Nat) : Fld := ⟨0x40 + k, 0x0A4, 0, 16, 1, .rwl, 1, 60000, false⟩
def SUPV_T_DEAD (k : Nat) : Fld := ⟨0x40 + k, 0x0A4, 16, 8, 0, .rwl, 0, 200, false⟩
def SUPV_T_K_SH (k : Nat) : Fld := ⟨0x40 + k, 0x0A4, 24, 6, 0, .rwl, 0, 31, false⟩
def SUPV_B_BAND (k : Nat) : Fld := ⟨0x40 + k, 0x0A8, 0, 32, 0x7FFFFFFF, .rwl, 1, 0x7FFFFFFF, false⟩
def SUPV_N_N (k : Nat) : Fld := ⟨0x40 + k, 0x0AC, 0, 12, 0xA, .rwl, 1, 4095, false⟩
def OPEN_OUT_OUT (k : Nat) : Fld := ⟨0x40 + k, 0x0B0, 0, 32, 0, .rwl, (-2147483648), 2147483647, true⟩
def ANG_ASRC (k : Nat) : Fld := ⟨0x40 + k, 0x0B4, 0, 8, 0, .rwl, 0, 255, false⟩
def ANG_AK_SH (k : Nat) : Fld := ⟨0x40 + k, 0x0B4, 8, 6, 0, .rwl, 0, 31, false⟩
def AK_C (k : Nat) : Fld := ⟨0x40 + k, 0x0B8, 0, 32, 0, .rwl, (-2147483648), 2147483647, true⟩
def rows (k : Nat) : List Row :=
  [⟨0x044, 0x4, 1, fun _ => [CFG_RATE k, CFG_PHASE k, CFG_GROUP k, CFG_FMT k, CFG_INV k, CFG_DMEAS k, CFG_XFORM k, CFG_BQ0_POS k, CFG_BQ1_POS k, CFG_ACTION k]⟩,
   ⟨0x048, 0x4, 1, fun _ => [SEL_SP_SRC k, SEL_FB_SRC k, SEL_FF_SRC k, SEL_TGT k]⟩,
   ⟨0x04C, 0x4, 1, fun _ => [OUT_MIN_MIN k]⟩,
   ⟨0x050, 0x4, 1, fun _ => [OUT_MAX_MAX k]⟩,
   ⟨0x054, 0x4, 1, fun _ => [SP_RATE_RATE k]⟩,
   ⟨0x058, 0x4, 1, fun _ => [KP_C k]⟩,
   ⟨0x05C, 0x4, 1, fun _ => [KI_C k]⟩,
   ⟨0x060, 0x4, 1, fun _ => [KD_C k]⟩,
   ⟨0x064, 0x4, 1, fun _ => [KDF_C k]⟩,
   ⟨0x068, 0x4, 1, fun _ => [KFF_C k]⟩,
   ⟨0x06C, 0x4, 1, fun _ => [PID_SH_KP k, PID_SH_KI k, PID_SH_KD k, PID_SH_KDF k, PID_SH_KFF k]⟩,
   ⟨0x070, 0x4, 5, fun i => [BQ0_C k i]⟩,
   ⟨0x084, 0x4, 5, fun i => [BQ1_C k i]⟩,
   ⟨0x098, 0x4, 1, fun _ => [BQ_SH0_B0 k, BQ_SH0_B1 k, BQ_SH0_B2 k, BQ_SH0_A1 k, BQ_SH0_A2 k]⟩,
   ⟨0x09C, 0x4, 1, fun _ => [BQ_SH1_B0 k, BQ_SH1_B1 k, BQ_SH1_B2 k, BQ_SH1_A1 k, BQ_SH1_A2 k]⟩,
   ⟨0x0A0, 0x4, 1, fun _ => [SUPV_K_C k]⟩,
   ⟨0x0A4, 0x4, 1, fun _ => [SUPV_T_TAU k, SUPV_T_DEAD k, SUPV_T_K_SH k]⟩,
   ⟨0x0A8, 0x4, 1, fun _ => [SUPV_B_BAND k]⟩,
   ⟨0x0AC, 0x4, 1, fun _ => [SUPV_N_N k]⟩,
   ⟨0x0B0, 0x4, 1, fun _ => [OPEN_OUT_OUT k]⟩,
   ⟨0x0B4, 0x4, 1, fun _ => [ANG_ASRC k, ANG_AK_SH k]⟩,
   ⟨0x0B8, 0x4, 1, fun _ => [AK_C k]⟩]
end LW

/-! Table ADC-2. -/
namespace ADC
def page : Nat := 0x24
def SYNC_MASK : Fld := ⟨0x24, 0x040, 0, 16, 0xFF, .rwl, 0, 65535, false⟩
def RESN_RAW (i : Nat) : Fld := ⟨0x24, 0x044 + i * 0x4, 0, 12, 0, .ro, 0, 4095, false⟩
def RESN_STALE (i : Nat) : Fld := ⟨0x24, 0x044 + i * 0x4, 15, 1, 0, .ro, 0, 1, false⟩
def RESN_CORR (i : Nat) : Fld := ⟨0x24, 0x044 + i * 0x4, 16, 16, 0, .ro, 0, 65535, false⟩
def BIP_MASK : Fld := ⟨0x24, 0x084, 0, 16, 0xC7, .rwl, 0, 65535, false⟩
def DMA_ADDR_ADDR : Fld := ⟨0x24, 0x088, 0, 32, 0x20082000, .rwl, 0x20000000, 0x201FFFE0, false⟩
def DMA_EN : Fld := ⟨0x24, 0x08C, 0, 1, 0, .rwl, 0, 1, false⟩
def DMA_LEN : Fld := ⟨0x24, 0x08C, 8, 8, 0x3F, .rwl, 0, 255, false⟩
def DMA_HEAD : Fld := ⟨0x24, 0x08C, 16, 16, 0, .ro, 0, 65535, false⟩
def rows : List Row :=
  [⟨0x040, 0x4, 1, fun _ => [SYNC_MASK]⟩,
   ⟨0x044, 0x4, 16, fun i => [RESN_RAW i, RESN_STALE i, RESN_CORR i]⟩,
   ⟨0x084, 0x4, 1, fun _ => [BIP_MASK]⟩,
   ⟨0x088, 0x4, 1, fun _ => [DMA_ADDR_ADDR]⟩,
   ⟨0x08C, 0x4, 1, fun _ => [DMA_EN, DMA_LEN, DMA_HEAD]⟩]
end ADC

/-! Table SAFE-2. -/
namespace SAFE
def page : Nat := 0x25
def CFG_DISC_T (i : Nat) : Fld := ⟨0x25, 0x040 + i * 0x10, 0, 13, 0x1F4, .rwl, 100, 5000, false⟩
def CFG_EN (i : Nat) : Fld := ⟨0x25, 0x040 + i * 0x10, 16, 1, 1, .rwl, 0, 1, false⟩
def PSTAT_A (i : Nat) : Fld := ⟨0x25, 0x044 + i * 0x10, 0, 1, 0, .ro, 0, 1, false⟩
def PSTAT_B (i : Nat) : Fld := ⟨0x25, 0x044 + i * 0x10, 1, 1, 0, .ro, 0, 1, false⟩
def PSTAT_RAW_A (i : Nat) : Fld := ⟨0x25, 0x044 + i * 0x10, 2, 1, 0, .ro, 0, 1, false⟩
def PSTAT_RAW_B (i : Nat) : Fld := ⟨0x25, 0x044 + i * 0x10, 3, 1, 0, .ro, 0, 1, false⟩
def PSTAT_ACT (i : Nat) : Fld := ⟨0x25, 0x044 + i * 0x10, 4, 1, 1, .ro, 0, 1, false⟩
def PSTAT_DISC (i : Nat) : Fld := ⟨0x25, 0x044 + i * 0x10, 5, 1, 0, .ro, 0, 1, false⟩
def PSTAT_PULSE (i : Nat) : Fld := ⟨0x25, 0x044 + i * 0x10, 6, 1, 0, .ro, 0, 1, false⟩
def PSTAT_CROSS (i : Nat) : Fld := ⟨0x25, 0x044 + i * 0x10, 7, 1, 0, .ro, 0, 1, false⟩
def PSTAT_TEST_OK (i : Nat) : Fld := ⟨0x25, 0x044 + i * 0x10, 8, 1, 0, .ro, 0, 1, false⟩
def PSTAT_RUN (i : Nat) : Fld := ⟨0x25, 0x044 + i * 0x10, 16, 14, 0, .ro, 0, 16383, false⟩
def DISC_LAST_D (i : Nat) : Fld := ⟨0x25, 0x048 + i * 0x10, 0, 13, 0, .ro, 0, 8191, false⟩
def DISC_LAST_NEAR (i : Nat) : Fld := ⟨0x25, 0x048 + i * 0x10, 16, 8, 0, .rc, 0, 255, false⟩
def CMD_RESTART (i : Nat) : Fld := ⟨0x25, 0x04C + i * 0x10, 0, 1, 0, .wsc, 0, 1, false⟩
def CMD_CLR (i : Nat) : Fld := ⟨0x25, 0x04C + i * 0x10, 1, 1, 0, .wsc, 0, 1, false⟩
def CMD_RES (i : Nat) : Fld := ⟨0x25, 0x04C + i * 0x10, 8, 3, 0, .ro, 0, 7, false⟩
def PULSE_PER : Fld := ⟨0x25, 0x060, 0, 14, 0x3E8, .rwl, 100, 10000, false⟩
def PULSE_W : Fld := ⟨0x25, 0x060, 16, 6, 0x1E, .rwl, 10, 60, false⟩
def rows : List Row :=
  [⟨0x040, 0x10, 2, fun i => [CFG_DISC_T i, CFG_EN i]⟩,
   ⟨0x044, 0x10, 2, fun i => [PSTAT_A i, PSTAT_B i, PSTAT_RAW_A i, PSTAT_RAW_B i, PSTAT_ACT i, PSTAT_DISC i, PSTAT_PULSE i, PSTAT_CROSS i, PSTAT_TEST_OK i, PSTAT_RUN i]⟩,
   ⟨0x048, 0x10, 2, fun i => [DISC_LAST_D i, DISC_LAST_NEAR i]⟩,
   ⟨0x04C, 0x10, 2, fun i => [CMD_RESTART i, CMD_CLR i, CMD_RES i]⟩,
   ⟨0x060, 0x4, 1, fun _ => [PULSE_PER, PULSE_W]⟩]
end SAFE

/-! Table CAN-5, LIP-10. -/
namespace CAN
def page : Nat := 0x26
def CFG_RESTR : Fld := ⟨0x26, 0x040, 0, 1, 0, .rwl, 0, 1, false⟩
def CFG_AUTO_REC : Fld := ⟨0x26, 0x040, 1, 1, 1, .rwl, 0, 1, false⟩
def CFG_TICK_RETRY : Fld := ⟨0x26, 0x040, 8, 4, 2, .rwl, 0, 15, false⟩
def CFG_ALONE_N : Fld := ⟨0x26, 0x040, 16, 8, 0x10, .rwl, 1, 255, false⟩
def BT_PROP : Fld := ⟨0x26, 0x044, 8, 4, 5, .rwl, 0, 15, false⟩
def BT_PS1 : Fld := ⟨0x26, 0x044, 12, 4, 6, .rwl, 0, 15, false⟩
def BT_PS2 : Fld := ⟨0x26, 0x044, 16, 4, 1, .rwl, 0, 15, false⟩
def BT_SJW : Fld := ⟨0x26, 0x044, 20, 2, 1, .rwl, 0, 3, false⟩
def BT_BRP : Fld := ⟨0x26, 0x044, 24, 6, 7, .rwl, 0, 63, false⟩
def BITRATE_RATE : Fld := ⟨0x26, 0x048, 0, 20, 0x3D090, .ro, 0, 1048575, false⟩
def BITRATE_SP : Fld := ⟨0x26, 0x048, 24, 8, 0x57, .ro, 0, 255, false⟩
def TX_ID_ID : Fld := ⟨0x26, 0x04C, 0, 31, 0, .rw, 0, 2147483647, false⟩
def TX_CTL_DLC : Fld := ⟨0x26, 0x050, 0, 4, 0, .rw, 0, 15, false⟩
def TX_CTL_LIMIT : Fld := ⟨0x26, 0x050, 8, 4, 0, .rw, 0, 15, false⟩
def TX_CTL_TAG : Fld := ⟨0x26, 0x050, 16, 8, 0, .rw, 0, 255, false⟩
def TX_D0_DATA : Fld := ⟨0x26, 0x054, 0, 32, 0, .rw, 0, 4294967295, false⟩
def TX_D1_DATA : Fld := ⟨0x26, 0x058, 0, 32, 0, .rw, 0, 4294967295, false⟩
def TX_PUSH_PUSH : Fld := ⟨0x26, 0x05C, 0, 1, 0, .wsc, 0, 1, false⟩
def TX_STAT_COUNT : Fld := ⟨0x26, 0x060, 0, 6, 0, .ro, 0, 63, false⟩
def TX_STAT_PUSH_RES : Fld := ⟨0x26, 0x060, 8, 3, 0, .ro, 0, 7, false⟩
def TX_STAT_SENDING : Fld := ⟨0x26, 0x060, 16, 1, 0, .ro, 0, 1, false⟩
def TX_STAT_HEAD_TAG : Fld := ⟨0x26, 0x060, 24, 8, 0, .ro, 0, 255, false⟩
def TX_ABORT_TAG : Fld := ⟨0x26, 0x064, 0, 8, 0, .wo, 0, 255, false⟩
def TX_ABORT_ALL : Fld := ⟨0x26, 0x064, 8, 1, 0, .wo, 0, 1, false⟩
def TX_DONE_TS_TS : Fld := ⟨0x26, 0x068, 0, 32, 0, .ro, 0, 4294967295, false⟩
def TX_DONE_TAG : Fld := ⟨0x26, 0x06C, 0, 8, 0, .rc, 0, 255, false⟩
def TX_DONE_RES : Fld := ⟨0x26, 0x06C, 8, 3, 0, .rc, 0, 7, false⟩
def TX_DONE_VALID : Fld := ⟨0x26, 0x06C, 11, 1, 0, .rc, 0, 1, false⟩
def TX_DONE_ATTEMPTS : Fld := ⟨0x26, 0x06C, 12, 4, 0, .rc, 0, 15, false⟩
def TXDMA_ADDR_ADDR : Fld := ⟨0x26, 0x070, 0, 32, 0, .rw, 0, 4294967295, false⟩
def TXDMA_N_N : Fld := ⟨0x26, 0x074, 0, 6, 1, .rw, 0, 63, false⟩
def TXDMA_GO_GO : Fld := ⟨0x26, 0x078, 0, 1, 0, .wsc, 0, 1, false⟩
def TXDMA_STAT_PUSHED : Fld := ⟨0x26, 0x07C, 0, 6, 0, .ro, 0, 63, false⟩
def TXDMA_STAT_RES : Fld := ⟨0x26, 0x07C, 8, 3, 0, .ro, 0, 7, false⟩
def ERRC_TEC : Fld := ⟨0x26, 0x080, 0, 8, 0, .ro, 0, 255, false⟩
def ERRC_REC : Fld := ⟨0x26, 0x080, 8, 8, 0, .ro, 0, 255, false⟩
def ERRC_STATE : Fld := ⟨0x26, 0x080, 16, 2, 0, .ro, 0, 3, false⟩
def ERRC_RESTR : Fld := ⟨0x26, 0x080, 18, 1, 0, .ro, 0, 1, false⟩
def ERRC_LEC : Fld := ⟨0x26, 0x080, 20, 3, 0, .ro, 0, 7, false⟩
def NOACK_RUN : Fld := ⟨0x26, 0x084, 0, 8, 0, .ro, 0, 255, false⟩
def NOACK_ALONE : Fld := ⟨0x26, 0x084, 8, 1, 0, .ro, 0, 1, false⟩
def RECOVER_GO : Fld := ⟨0x26, 0x088, 0, 1, 0, .wsc, 0, 1, false⟩
def COUNTS_RETRY_OUT : Fld := ⟨0x26, 0x08C, 0, 8, 0, .rc, 0, 255, false⟩
def COUNTS_BUSOFF : Fld := ⟨0x26, 0x08C, 8, 8, 0, .rc, 0, 255, false⟩
def COUNTS_TICKSKIP : Fld := ⟨0x26, 0x08C, 16, 8, 0, .rc, 0, 255, false⟩
def COUNTS_DONE_LOST : Fld := ⟨0x26, 0x08C, 24, 8, 0, .rc, 0, 255, false⟩
def TSNOW_TS : Fld := ⟨0x26, 0x090, 0, 32, 0, .ro, 0, 4294967295, false⟩
def SYNC_STAT_SEQ : Fld := ⟨0x26, 0x094, 0, 8, 0, .ro, 0, 255, false⟩
def SYNC_STAT_REF : Fld := ⟨0x26, 0x094, 8, 8, 0xFF, .ro, 0, 255, false⟩
def SYNC_STAT_SLEW : Fld := ⟨0x26, 0x094, 16, 1, 0, .ro, 0, 1, false⟩
def NODE_ASSIGNED (i : Nat) : Fld := ⟨0x26, 0x100 + i * 0x4, 0, 1, 0, .rw, 0, 1, false⟩
def NODE_BOOM (i : Nat) : Fld := ⟨0x26, 0x100 + i * 0x4, 1, 1, 0, .rw, 0, 1, false⟩
def NODE_READY (i : Nat) : Fld := ⟨0x26, 0x100 + i * 0x4, 2, 1, 0, .rw, 0, 1, false⟩
def NODE_SEQ (i : Nat) : Fld := ⟨0x26, 0x100 + i * 0x4, 8, 8, 0, .rw, 0, 255, false⟩
def NODE_SVC_MAP (i : Nat) : Fld := ⟨0x26, 0x100 + i * 0x4, 16, 16, 0, .rw, 0, 65535, false⟩
def rows : List Row :=
  [⟨0x040, 0x4, 1, fun _ => [CFG_RESTR, CFG_AUTO_REC, CFG_TICK_RETRY, CFG_ALONE_N]⟩,
   ⟨0x044, 0x4, 1, fun _ => [BT_PROP, BT_PS1, BT_PS2, BT_SJW, BT_BRP]⟩,
   ⟨0x048, 0x4, 1, fun _ => [BITRATE_RATE, BITRATE_SP]⟩,
   ⟨0x04C, 0x4, 1, fun _ => [TX_ID_ID]⟩,
   ⟨0x050, 0x4, 1, fun _ => [TX_CTL_DLC, TX_CTL_LIMIT, TX_CTL_TAG]⟩,
   ⟨0x054, 0x4, 1, fun _ => [TX_D0_DATA]⟩,
   ⟨0x058, 0x4, 1, fun _ => [TX_D1_DATA]⟩,
   ⟨0x05C, 0x4, 1, fun _ => [TX_PUSH_PUSH]⟩,
   ⟨0x060, 0x4, 1, fun _ => [TX_STAT_COUNT, TX_STAT_PUSH_RES, TX_STAT_SENDING, TX_STAT_HEAD_TAG]⟩,
   ⟨0x064, 0x4, 1, fun _ => [TX_ABORT_TAG, TX_ABORT_ALL]⟩,
   ⟨0x068, 0x4, 1, fun _ => [TX_DONE_TS_TS]⟩,
   ⟨0x06C, 0x4, 1, fun _ => [TX_DONE_TAG, TX_DONE_RES, TX_DONE_VALID, TX_DONE_ATTEMPTS]⟩,
   ⟨0x070, 0x4, 1, fun _ => [TXDMA_ADDR_ADDR]⟩,
   ⟨0x074, 0x4, 1, fun _ => [TXDMA_N_N]⟩,
   ⟨0x078, 0x4, 1, fun _ => [TXDMA_GO_GO]⟩,
   ⟨0x07C, 0x4, 1, fun _ => [TXDMA_STAT_PUSHED, TXDMA_STAT_RES]⟩,
   ⟨0x080, 0x4, 1, fun _ => [ERRC_TEC, ERRC_REC, ERRC_STATE, ERRC_RESTR, ERRC_LEC]⟩,
   ⟨0x084, 0x4, 1, fun _ => [NOACK_RUN, NOACK_ALONE]⟩,
   ⟨0x088, 0x4, 1, fun _ => [RECOVER_GO]⟩,
   ⟨0x08C, 0x4, 1, fun _ => [COUNTS_RETRY_OUT, COUNTS_BUSOFF, COUNTS_TICKSKIP, COUNTS_DONE_LOST]⟩,
   ⟨0x090, 0x4, 1, fun _ => [TSNOW_TS]⟩,
   ⟨0x094, 0x4, 1, fun _ => [SYNC_STAT_SEQ, SYNC_STAT_REF, SYNC_STAT_SLEW]⟩,
   ⟨0x100, 0x4, 64, fun i => [NODE_ASSIGNED i, NODE_BOOM i, NODE_READY i, NODE_SEQ i, NODE_SVC_MAP i]⟩]
end CAN

/-! Table CANRX-1. -/
namespace CANRX
def page : Nat := 0x27
def W_WORD (i : Nat) : Fld := ⟨0x27, 0x040 + i * 0x4, 0, 32, 0, .ro, 0, 4294967295, false⟩
def TS_TS : Fld := ⟨0x27, 0x050, 0, 32, 0, .ro, 0, 4294967295, false⟩
def FIFO_STAT_COUNT : Fld := ⟨0x27, 0x054, 0, 7, 0, .ro, 0, 127, false⟩
def FIFO_STAT_LOCKED : Fld := ⟨0x27, 0x054, 7, 1, 0, .ro, 0, 1, false⟩
def FIFO_STAT_NEXT_SEQ : Fld := ⟨0x27, 0x054, 16, 16, 0, .ro, 0, 65535, false⟩
def RING_ADDR_ADDR : Fld := ⟨0x27, 0x058, 0, 32, 0x200C0000, .rwl, 0x20000000, 0x201FFFE0, false⟩
def RING_CFG_LOG2LEN : Fld := ⟨0x27, 0x05C, 0, 4, 0xC, .rwl, 4, 12, false⟩
def RING_CFG_EN : Fld := ⟨0x27, 0x05C, 8, 1, 0, .rwl, 0, 1, false⟩
def RING_CFG_WM : Fld := ⟨0x27, 0x05C, 16, 12, 0x10, .rwl, 1, 4095, false⟩
def RING_HEAD_IDX : Fld := ⟨0x27, 0x060, 0, 12, 0, .ro, 0, 4095, false⟩
def RING_TAIL_IDX : Fld := ⟨0x27, 0x064, 0, 12, 0, .rw, 0, 4095, false⟩
def DROP_COUNT : Fld := ⟨0x27, 0x068, 0, 16, 0, .rc, 0, 65535, false⟩
def rows : List Row :=
  [⟨0x040, 0x4, 4, fun i => [W_WORD i]⟩,
   ⟨0x050, 0x4, 1, fun _ => [TS_TS]⟩,
   ⟨0x054, 0x4, 1, fun _ => [FIFO_STAT_COUNT, FIFO_STAT_LOCKED, FIFO_STAT_NEXT_SEQ]⟩,
   ⟨0x058, 0x4, 1, fun _ => [RING_ADDR_ADDR]⟩,
   ⟨0x05C, 0x4, 1, fun _ => [RING_CFG_LOG2LEN, RING_CFG_EN, RING_CFG_WM]⟩,
   ⟨0x060, 0x4, 1, fun _ => [RING_HEAD_IDX]⟩,
   ⟨0x064, 0x4, 1, fun _ => [RING_TAIL_IDX]⟩,
   ⟨0x068, 0x4, 1, fun _ => [DROP_COUNT]⟩]
end CANRX

/-! Table RAD-10. -/
namespace RAD
def page : Nat := 0x28
def PHY_BAND : Fld := ⟨0x28, 0x040, 0, 1, 0, .rwl, 0, 1, false⟩
def PHY_RATE : Fld := ⟨0x28, 0x040, 1, 1, 0, .rwl, 0, 1, false⟩
def PHY_CHAN : Fld := ⟨0x28, 0x040, 8, 8, 0, .rwl, 0, 255, false⟩
def PHY_PREAMBLE : Fld := ⟨0x28, 0x040, 16, 5, 8, .rwl, 4, 24, false⟩
def PHY_DW : Fld := ⟨0x28, 0x040, 24, 1, 1, .rwl, 0, 1, false⟩
def TXPWR_DBM : Fld := ⟨0x28, 0x044, 0, 5, 0, .rwl, (-10), 14, true⟩
def PAN_ID : Fld := ⟨0x28, 0x048, 0, 16, 0xFFFF, .rwl, 0, 65535, false⟩
def BASE_EXT_EXT (i : Nat) : Fld := ⟨0x28, 0x04C + i * 0x4, 0, 32, 0, .rwl, 0, 4294967295, false⟩
def MAC_RETRIES : Fld := ⟨0x28, 0x054, 0, 3, 3, .rwl, 0, 7, false⟩
def MAC_MIN_BE : Fld := ⟨0x28, 0x054, 4, 3, 3, .rwl, 0, 7, false⟩
def MAC_MAX_BE : Fld := ⟨0x28, 0x054, 8, 3, 5, .rwl, 3, 8, false⟩
def MAC_BACKOFFS : Fld := ⟨0x28, 0x054, 12, 3, 4, .rwl, 0, 5, false⟩
def MAC_ACK_WAIT : Fld := ⟨0x28, 0x054, 16, 8, 5, .rwl, 1, 20, false⟩
def DARK_BCN_WIN : Fld := ⟨0x28, 0x058, 0, 8, 0xA, .rwl, 2, 100, false⟩
def DARK_TX_EN : Fld := ⟨0x28, 0x058, 8, 1, 1, .rwl, 0, 1, false⟩
def DARK_NEED_PER : Fld := ⟨0x28, 0x058, 16, 8, 0x3C, .rwl, 10, 255, false⟩
def RSSI_LAST : Fld := ⟨0x28, 0x060, 0, 8, 0, .ro, 0, 255, false⟩
def LAST_SFD_FT (i : Nat) : Fld := ⟨0x28, 0x064 + i * 0x4, 0, 32, 0, .ro, 0, 4294967295, false⟩
def COUNTS_RX_OK : Fld := ⟨0x28, 0x06C, 0, 16, 0, .rc, 0, 65535, false⟩
def COUNTS_CRC_BAD : Fld := ⟨0x28, 0x06C, 16, 16, 0, .rc, 0, 65535, false⟩
def DROP_QUEUE : Fld := ⟨0x28, 0x070, 0, 8, 0, .rc, 0, 255, false⟩
def DROP_FORMAT : Fld := ⟨0x28, 0x070, 8, 8, 0, .rc, 0, 255, false⟩
def DROP_NOT_BASE : Fld := ⟨0x28, 0x070, 16, 8, 0, .rc, 0, 255, false⟩
def BCN_S_S : Fld := ⟨0x28, 0x074, 0, 32, 0, .rw, 0, 4294967295, false⟩
def BCN_NS_NS : Fld := ⟨0x28, 0x078, 0, 30, 0, .rw, 0, 1073741823, false⟩
def BCN_UNC_US : Fld := ⟨0x28, 0x07C, 0, 16, 0, .rw, 0, 65535, false⟩
def BCN_POST_POST : Fld := ⟨0x28, 0x080, 0, 1, 0, .wsc, 0, 1, false⟩
def RX_INFO_LEN : Fld := ⟨0x28, 0x084, 0, 8, 0, .ro, 0, 255, false⟩
def RX_INFO_VALID : Fld := ⟨0x28, 0x084, 8, 1, 0, .ro, 0, 1, false⟩
def RX_INFO_COUNT : Fld := ⟨0x28, 0x084, 9, 4, 0, .ro, 0, 15, false⟩
def RX_POP_POP : Fld := ⟨0x28, 0x088, 0, 1, 0, .wsc, 0, 1, false⟩
def TX_CTL_LEN : Fld := ⟨0x28, 0x08C, 0, 8, 0, .rw, 0, 255, false⟩
def TX_CTL_KEYIDX : Fld := ⟨0x28, 0x08C, 8, 2, 0, .rw, 0, 3, false⟩
def TX_GO_GO : Fld := ⟨0x28, 0x090, 0, 1, 0, .wsc, 0, 1, false⟩
def TX_STAT_RES : Fld := ⟨0x28, 0x094, 0, 4, 0, .ro, 0, 15, false⟩
def RX_BUF_DATA (i : Nat) : Fld := ⟨0x28, 0x100 + i * 0x4, 0, 32, 0, .ro, 0, 4294967295, false⟩
def TX_BUF_DATA (i : Nat) : Fld := ⟨0x28, 0x200 + i * 0x4, 0, 32, 0, .rw, 0, 4294967295, false⟩
def rows : List Row :=
  [⟨0x040, 0x4, 1, fun _ => [PHY_BAND, PHY_RATE, PHY_CHAN, PHY_PREAMBLE, PHY_DW]⟩,
   ⟨0x044, 0x4, 1, fun _ => [TXPWR_DBM]⟩,
   ⟨0x048, 0x4, 1, fun _ => [PAN_ID]⟩,
   ⟨0x04C, 0x4, 2, fun i => [BASE_EXT_EXT i]⟩,
   ⟨0x054, 0x4, 1, fun _ => [MAC_RETRIES, MAC_MIN_BE, MAC_MAX_BE, MAC_BACKOFFS, MAC_ACK_WAIT]⟩,
   ⟨0x058, 0x4, 1, fun _ => [DARK_BCN_WIN, DARK_TX_EN, DARK_NEED_PER]⟩,
   ⟨0x060, 0x4, 1, fun _ => [RSSI_LAST]⟩,
   ⟨0x064, 0x4, 2, fun i => [LAST_SFD_FT i]⟩,
   ⟨0x06C, 0x4, 1, fun _ => [COUNTS_RX_OK, COUNTS_CRC_BAD]⟩,
   ⟨0x070, 0x4, 1, fun _ => [DROP_QUEUE, DROP_FORMAT, DROP_NOT_BASE]⟩,
   ⟨0x074, 0x4, 1, fun _ => [BCN_S_S]⟩,
   ⟨0x078, 0x4, 1, fun _ => [BCN_NS_NS]⟩,
   ⟨0x07C, 0x4, 1, fun _ => [BCN_UNC_US]⟩,
   ⟨0x080, 0x4, 1, fun _ => [BCN_POST_POST]⟩,
   ⟨0x084, 0x4, 1, fun _ => [RX_INFO_LEN, RX_INFO_VALID, RX_INFO_COUNT]⟩,
   ⟨0x088, 0x4, 1, fun _ => [RX_POP_POP]⟩,
   ⟨0x08C, 0x4, 1, fun _ => [TX_CTL_LEN, TX_CTL_KEYIDX]⟩,
   ⟨0x090, 0x4, 1, fun _ => [TX_GO_GO]⟩,
   ⟨0x094, 0x4, 1, fun _ => [TX_STAT_RES]⟩,
   ⟨0x100, 0x4, 64, fun i => [RX_BUF_DATA i]⟩,
   ⟨0x200, 0x4, 64, fun i => [TX_BUF_DATA i]⟩]
end RAD

/-! Table RADSEC-1. -/
namespace RADSEC
def page : Nat := 0x29
def FC_FC : Fld := ⟨0x29, 0x040, 0, 32, 0, .ro, 0, 4294967295, false⟩
def COUNTS_MIC_FAIL : Fld := ⟨0x29, 0x044, 0, 16, 0, .rc, 0, 65535, false⟩
def COUNTS_REPLAY : Fld := ⟨0x29, 0x044, 16, 16, 0, .rc, 0, 65535, false⟩
def BAD_SEC_COUNT : Fld := ⟨0x29, 0x048, 0, 16, 0, .rc, 0, 65535, false⟩
def TBL_SEL_ENTRY : Fld := ⟨0x29, 0x04C, 0, 3, 0, .rw, 0, 7, false⟩
def TBL_SRC_SRC (i : Nat) : Fld := ⟨0x29, 0x050 + i * 0x4, 0, 32, 0, .ro, 0, 4294967295, false⟩
def TBL_FC_FC : Fld := ⟨0x29, 0x058, 0, 32, 0, .ro, 0, 4294967295, false⟩
def rows : List Row :=
  [⟨0x040, 0x4, 1, fun _ => [FC_FC]⟩,
   ⟨0x044, 0x4, 1, fun _ => [COUNTS_MIC_FAIL, COUNTS_REPLAY]⟩,
   ⟨0x048, 0x4, 1, fun _ => [BAD_SEC_COUNT]⟩,
   ⟨0x04C, 0x4, 1, fun _ => [TBL_SEL_ENTRY]⟩,
   ⟨0x050, 0x4, 2, fun i => [TBL_SRC_SRC i]⟩,
   ⟨0x058, 0x4, 1, fun _ => [TBL_FC_FC]⟩]
end RADSEC

/-! Table TAG-8. -/
namespace TAG
def page : Nat := 0x2A
def CFG_FIELD_WR : Fld := ⟨0x2A, 0x040, 0, 1, 0, .rwl, 0, 1, false⟩
def FSTAT_FIELD : Fld := ⟨0x2A, 0x044, 0, 1, 0, .ro, 0, 1, false⟩
def FSTAT_ACTIVE : Fld := ⟨0x2A, 0x044, 1, 1, 0, .ro, 0, 1, false⟩
def FSTAT_AUTH : Fld := ⟨0x2A, 0x044, 2, 1, 0, .ro, 0, 1, false⟩
def FSTAT_BUSY : Fld := ⟨0x2A, 0x044, 3, 1, 0, .ro, 0, 1, false⟩
def SRC_ADDR : Fld := ⟨0x2A, 0x048, 0, 32, 0, .rw, 0, 4294967295, false⟩
def JOB_FIRST : Fld := ⟨0x2A, 0x04C, 0, 9, 4, .rw, 0, 511, false⟩
def JOB_COUNT : Fld := ⟨0x2A, 0x04C, 16, 9, 0xC4, .rw, 0, 511, false⟩
def CMD_COMMIT : Fld := ⟨0x2A, 0x050, 0, 1, 0, .wsc, 0, 1, false⟩
def CMD_ABORT : Fld := ⟨0x2A, 0x050, 1, 1, 0, .wsc, 0, 1, false⟩
def JRES_RES : Fld := ⟨0x2A, 0x054, 0, 3, 0, .ro, 0, 7, false⟩
def JRES_PAGES : Fld := ⟨0x2A, 0x054, 8, 8, 0, .ro, 0, 255, false⟩
def SEQ_SEQ : Fld := ⟨0x2A, 0x058, 0, 16, 0, .ro, 0, 65535, false⟩
def AUTH_FAIL_CNT : Fld := ⟨0x2A, 0x05C, 0, 4, 0, .ro, 0, 15, false⟩
def AUTH_RST_RST : Fld := ⟨0x2A, 0x060, 0, 1, 0, .wsc, 0, 1, false⟩
def COUNTS_READS : Fld := ⟨0x2A, 0x064, 0, 16, 0, .rc, 0, 65535, false⟩
def COUNTS_FIELD_WON : Fld := ⟨0x2A, 0x064, 16, 8, 0, .rc, 0, 255, false⟩
def COUNTS_WRITES : Fld := ⟨0x2A, 0x064, 24, 8, 0, .rc, 0, 255, false⟩
def UID_MFR : Fld := ⟨0x2A, 0x068, 0, 8, 0, .ro, 0, 255, false⟩
def rows : List Row :=
  [⟨0x040, 0x4, 1, fun _ => [CFG_FIELD_WR]⟩,
   ⟨0x044, 0x4, 1, fun _ => [FSTAT_FIELD, FSTAT_ACTIVE, FSTAT_AUTH, FSTAT_BUSY]⟩,
   ⟨0x048, 0x4, 1, fun _ => [SRC_ADDR]⟩,
   ⟨0x04C, 0x4, 1, fun _ => [JOB_FIRST, JOB_COUNT]⟩,
   ⟨0x050, 0x4, 1, fun _ => [CMD_COMMIT, CMD_ABORT]⟩,
   ⟨0x054, 0x4, 1, fun _ => [JRES_RES, JRES_PAGES]⟩,
   ⟨0x058, 0x4, 1, fun _ => [SEQ_SEQ]⟩,
   ⟨0x05C, 0x4, 1, fun _ => [AUTH_FAIL_CNT]⟩,
   ⟨0x060, 0x4, 1, fun _ => [AUTH_RST_RST]⟩,
   ⟨0x064, 0x4, 1, fun _ => [COUNTS_READS, COUNTS_FIELD_WON, COUNTS_WRITES]⟩,
   ⟨0x068, 0x4, 1, fun _ => [UID_MFR]⟩]
end TAG

/-! Table HOST-3. -/
namespace HOST
def page : Nat := 0x2B
def CFG_IDLE : Fld := ⟨0x2B, 0x040, 0, 8, 0x64, .rwl, 1, 255, false⟩
def HSTAT_ALIVE : Fld := ⟨0x2B, 0x044, 0, 1, 0, .ro, 0, 1, false⟩
def HSTAT_BUSY : Fld := ⟨0x2B, 0x044, 1, 1, 0, .ro, 0, 1, false⟩
def HSTAT_LAST : Fld := ⟨0x2B, 0x044, 8, 4, 0, .ro, 0, 15, false⟩
def FRAMES_COUNT : Fld := ⟨0x2B, 0x048, 0, 16, 0, .rc, 0, 65535, false⟩
def CRC_ERRS_COUNT : Fld := ⟨0x2B, 0x04C, 0, 16, 0, .rc, 0, 65535, false⟩
def DENIED_COUNT : Fld := ⟨0x2B, 0x050, 0, 16, 0, .rc, 0, 65535, false⟩
def rows : List Row :=
  [⟨0x040, 0x4, 1, fun _ => [CFG_IDLE]⟩,
   ⟨0x044, 0x4, 1, fun _ => [HSTAT_ALIVE, HSTAT_BUSY, HSTAT_LAST]⟩,
   ⟨0x048, 0x4, 1, fun _ => [FRAMES_COUNT]⟩,
   ⟨0x04C, 0x4, 1, fun _ => [CRC_ERRS_COUNT]⟩,
   ⟨0x050, 0x4, 1, fun _ => [DENIED_COUNT]⟩]
end HOST

/-! Table GPIO-1. -/
namespace GPIO
def page : Nat := 0x2C
def LED_CFG_POL : Fld := ⟨0x2C, 0x040, 0, 1, 0, .rwl, 0, 1, false⟩
def LED_STAT_SHOWN : Fld := ⟨0x2C, 0x044, 0, 16, 0, .ro, 0, 65535, false⟩
def LED_STAT_PATTERN : Fld := ⟨0x2C, 0x044, 16, 3, 0, .ro, 0, 7, false⟩
def LED_STAT_HELD : Fld := ⟨0x2C, 0x044, 19, 5, 0, .ro, 0, 31, false⟩
def LED_ACK_ACK : Fld := ⟨0x2C, 0x048, 0, 1, 0, .wsc, 0, 1, false⟩
def LED_OVR_EN : Fld := ⟨0x2C, 0x04C, 0, 1, 0, .rw, 0, 1, false⟩
def LED_OVR_ON : Fld := ⟨0x2C, 0x04C, 1, 1, 0, .rw, 0, 1, false⟩
def rows : List Row :=
  [⟨0x040, 0x4, 1, fun _ => [LED_CFG_POL]⟩,
   ⟨0x044, 0x4, 1, fun _ => [LED_STAT_SHOWN, LED_STAT_PATTERN, LED_STAT_HELD]⟩,
   ⟨0x048, 0x4, 1, fun _ => [LED_ACK_ACK]⟩,
   ⟨0x04C, 0x4, 1, fun _ => [LED_OVR_EN, LED_OVR_ON]⟩]
end GPIO

/-! Table TIME-1. -/
namespace TIME
def page : Nat := 0x2D
def FT_LO_FT : Fld := ⟨0x2D, 0x040, 0, 32, 0, .ro, 0, 4294967295, false⟩
def FT_HI_FT : Fld := ⟨0x2D, 0x044, 0, 32, 0, .ro, 0, 4294967295, false⟩
def TSTAT_SRC : Fld := ⟨0x2D, 0x048, 0, 2, 0, .ro, 0, 3, false⟩
def TSTAT_SLEW : Fld := ⟨0x2D, 0x048, 4, 1, 0, .ro, 0, 1, false⟩
def TSTAT_DEFER : Fld := ⟨0x2D, 0x048, 5, 1, 0, .ro, 0, 1, false⟩
def TSTAT_AON_LOST : Fld := ⟨0x2D, 0x048, 6, 1, 0, .ro, 0, 1, false⟩
def TSTAT_SEED_USED : Fld := ⟨0x2D, 0x048, 7, 1, 0, .ro, 0, 1, false⟩
def TSTAT_ERA : Fld := ⟨0x2D, 0x048, 8, 8, 0, .ro, 0, 255, false⟩
def RESID_NS : Fld := ⟨0x2D, 0x04C, 0, 32, 0, .ro, 0, 4294967295, false⟩
def BASE_RESID_US : Fld := ⟨0x2D, 0x050, 0, 32, 0, .ro, 0, 4294967295, false⟩
def ERA_OFS_OFS (i : Nat) : Fld := ⟨0x2D, 0x054 + i * 0x4, 0, 32, 0, .ro, 0, 4294967295, false⟩
def STEPS_FWD : Fld := ⟨0x2D, 0x05C, 0, 16, 0, .rc, 0, 65535, false⟩
def STEPS_BACK : Fld := ⟨0x2D, 0x05C, 16, 16, 0, .rc, 0, 65535, false⟩
def SEED_FT (i : Nat) : Fld := ⟨0x2D, 0x060 + i * 0x4, 0, 32, 0, .wo, 0, 4294967295, false⟩
def CFG_GNSS_TO : Fld := ⟨0x2D, 0x068, 0, 8, 0xA, .rwl, 5, 100, false⟩
def CFG_BASE_MISS : Fld := ⟨0x2D, 0x068, 8, 4, 3, .rwl, 1, 10, false⟩
def CFG_DEFER : Fld := ⟨0x2D, 0x068, 16, 7, 0xA, .rwl, 1, 100, false⟩
def rows : List Row :=
  [⟨0x040, 0x4, 1, fun _ => [FT_LO_FT]⟩,
   ⟨0x044, 0x4, 1, fun _ => [FT_HI_FT]⟩,
   ⟨0x048, 0x4, 1, fun _ => [TSTAT_SRC, TSTAT_SLEW, TSTAT_DEFER, TSTAT_AON_LOST, TSTAT_SEED_USED, TSTAT_ERA]⟩,
   ⟨0x04C, 0x4, 1, fun _ => [RESID_NS]⟩,
   ⟨0x050, 0x4, 1, fun _ => [BASE_RESID_US]⟩,
   ⟨0x054, 0x4, 2, fun i => [ERA_OFS_OFS i]⟩,
   ⟨0x05C, 0x4, 1, fun _ => [STEPS_FWD, STEPS_BACK]⟩,
   ⟨0x060, 0x4, 2, fun i => [SEED_FT i]⟩,
   ⟨0x068, 0x4, 1, fun _ => [CFG_GNSS_TO, CFG_BASE_MISS, CFG_DEFER]⟩]
end TIME

/-! Table STEST-1. -/
namespace STEST
def page : Nat := 0x2E
def ESC_WIN : Fld := ⟨0x2E, 0x040, 0, 6, 0xA, .rwl, 1, 60, false⟩
def ESC_N : Fld := ⟨0x2E, 0x040, 8, 4, 3, .rwl, 2, 8, false⟩
def RUN_PAGES (i : Nat) : Fld := ⟨0x2E, 0x044 + i * 0x4, 0, 32, 0, .ro, 0, 4294967295, false⟩
def PEND_PAGES (i : Nat) : Fld := ⟨0x2E, 0x04C + i * 0x4, 0, 32, 0, .ro, 0, 4294967295, false⟩
def LAST_PAGE : Fld := ⟨0x2E, 0x054, 0, 8, 0, .ro, 0, 255, false⟩
def LAST_RES : Fld := ⟨0x2E, 0x054, 8, 2, 0, .ro, 0, 3, false⟩
def LAST_CLASS : Fld := ⟨0x2E, 0x054, 10, 2, 0, .ro, 0, 3, false⟩
def LAST_ESC : Fld := ⟨0x2E, 0x054, 12, 1, 0, .ro, 0, 1, false⟩
def LAST_BIT : Fld := ⟨0x2E, 0x054, 16, 5, 0, .ro, 0, 31, false⟩
def COUNTS_RUN : Fld := ⟨0x2E, 0x058, 0, 16, 0, .rc, 0, 65535, false⟩
def COUNTS_ESC : Fld := ⟨0x2E, 0x058, 16, 8, 0, .rc, 0, 255, false⟩
def COUNTS_ABORT : Fld := ⟨0x2E, 0x058, 24, 8, 0, .rc, 0, 255, false⟩
def LASTING_PAGES (i : Nat) : Fld := ⟨0x2E, 0x05C + i * 0x4, 0, 32, 0, .ro, 0, 4294967295, false⟩
def RETEST_PAGE : Fld := ⟨0x2E, 0x064, 0, 6, 0, .wo, 0, 63, false⟩
def RETEST_GO : Fld := ⟨0x2E, 0x064, 8, 1, 0, .wsc, 0, 1, false⟩
def RETEST_RES_RES : Fld := ⟨0x2E, 0x068, 0, 3, 0, .ro, 0, 7, false⟩
def ABORT_ALL_GO : Fld := ⟨0x2E, 0x06C, 0, 1, 0, .wsc, 0, 1, false⟩
def ESC_SEL_ENTRY : Fld := ⟨0x2E, 0x070, 0, 5, 0, .rw, 0, 31, false⟩
def ESC_ENT_PAGE : Fld := ⟨0x2E, 0x074, 0, 8, 0, .ro, 0, 255, false⟩
def ESC_ENT_BIT : Fld := ⟨0x2E, 0x074, 8, 5, 0, .ro, 0, 31, false⟩
def ESC_ENT_HELD : Fld := ⟨0x2E, 0x074, 16, 3, 0, .ro, 0, 7, false⟩
def ESC_ENT_AGE : Fld := ⟨0x2E, 0x074, 20, 12, 0, .ro, 0, 4095, false⟩
def rows : List Row :=
  [⟨0x040, 0x4, 1, fun _ => [ESC_WIN, ESC_N]⟩,
   ⟨0x044, 0x4, 2, fun i => [RUN_PAGES i]⟩,
   ⟨0x04C, 0x4, 2, fun i => [PEND_PAGES i]⟩,
   ⟨0x054, 0x4, 1, fun _ => [LAST_PAGE, LAST_RES, LAST_CLASS, LAST_ESC, LAST_BIT]⟩,
   ⟨0x058, 0x4, 1, fun _ => [COUNTS_RUN, COUNTS_ESC, COUNTS_ABORT]⟩,
   ⟨0x05C, 0x4, 2, fun i => [LASTING_PAGES i]⟩,
   ⟨0x064, 0x4, 1, fun _ => [RETEST_PAGE, RETEST_GO]⟩,
   ⟨0x068, 0x4, 1, fun _ => [RETEST_RES_RES]⟩,
   ⟨0x06C, 0x4, 1, fun _ => [ABORT_ALL_GO]⟩,
   ⟨0x070, 0x4, 1, fun _ => [ESC_SEL_ENTRY]⟩,
   ⟨0x074, 0x4, 1, fun _ => [ESC_ENT_PAGE, ESC_ENT_BIT, ESC_ENT_HELD, ESC_ENT_AGE]⟩]
end STEST

/-! Table CAP-1. -/
namespace CAP
def page : Nat := 0x2F
def CFG_EDGE (i : Nat) : Fld := ⟨0x2F, 0x040 + i * 0x10, 0, 2, 1, .rwl, 1, 3, false⟩
def CFG_FILT (i : Nat) : Fld := ⟨0x2F, 0x040 + i * 0x10, 4, 4, 2, .rwl, 0, 15, false⟩
def CFG_EN (i : Nat) : Fld := ⟨0x2F, 0x040 + i * 0x10, 8, 1, 0, .rwl, 0, 1, false⟩
def COUNT_COUNT (i : Nat) : Fld := ⟨0x2F, 0x044 + i * 0x10, 0, 32, 0, .ro, 0, 4294967295, false⟩
def LAST_DRIP_DRIP (i : Nat) : Fld := ⟨0x2F, 0x048 + i * 0x10, 0, 32, 0, .ro, 0, 4294967295, false⟩
def LAST_CYC_CYC (i : Nat) : Fld := ⟨0x2F, 0x04C + i * 0x10, 0, 14, 0, .ro, 0, 16383, false⟩
def PERIOD_US (i : Nat) : Fld := ⟨0x2F, 0x080 + i * 0x4, 0, 24, 0xFFFFFF, .ro, 0, 16777215, false⟩
def rows : List Row :=
  [⟨0x040, 0x10, 4, fun i => [CFG_EDGE i, CFG_FILT i, CFG_EN i]⟩,
   ⟨0x044, 0x10, 4, fun i => [COUNT_COUNT i]⟩,
   ⟨0x048, 0x10, 4, fun i => [LAST_DRIP_DRIP i]⟩,
   ⟨0x04C, 0x10, 4, fun i => [LAST_CYC_CYC i]⟩,
   ⟨0x080, 0x4, 4, fun i => [PERIOD_US i]⟩]
end CAP

/-- The block registers of page `p` (Table PAGE-3). -/
def blockRows (p : Nat) : List Row :=
  if p = 0x00 then SYS.rows else
  if p = 0x01 then CLK.rows else
  if p = 0x02 then PWR.rows else
  if p = 0x03 then TICK.rows else
  if p = 0x04 then SEC.rows else
  if p = 0x05 then KEY.rows else
  if p = 0x06 then DBG.rows else
  if p = 0x07 then FENCE.rows else
  if p = 0x08 then BWL.rows else
  if p = 0x09 then MBX.rows else
  if p = 0x0A then ECC.rows else
  if p = 0x0B then LOG.rows else
  if p = 0x0C then BLK.rows else
  if p = 0x0D then CAL.rows else
  if p = 0x0E then FLASH.rows else
  if p = 0x0F then UPD.rows else
  if 0x10 ≤ p ∧ p ≤ 0x13 then GAL.rows (p - 0x10) ++ (if p = 0x10 then GAL0.rows else []) else
  if p = 0x14 then GFE.rows else
  if p = 0x15 then GNOTCH.rows else
  if p = 0x16 then GACQ.rows else
  if p = 0x17 then GFFT.rows else
  if p = 0x18 then GTRK.rows else
  if p = 0x19 then GBASE.rows else
  if p = 0x1A then GSNAP.rows else
  if p = 0x1B then GPVT.rows else
  if 0x1C ≤ p ∧ p ≤ 0x1F then PWM.rows (p - 0x1C) else
  if 0x20 ≤ p ∧ p ≤ 0x23 then LOOP.rows (p - 0x20) ++ (if p = 0x20 then LOOP0.rows else []) else
  if p = 0x24 then ADC.rows else
  if p = 0x25 then SAFE.rows else
  if p = 0x26 then CAN.rows else
  if p = 0x27 then CANRX.rows else
  if p = 0x28 then RAD.rows else
  if p = 0x29 then RADSEC.rows else
  if p = 0x2A then TAG.rows else
  if p = 0x2B then HOST.rows else
  if p = 0x2C then GPIO.rows else
  if p = 0x2D then TIME.rows else
  if p = 0x2E then STEST.rows else
  if p = 0x2F then CAP.rows else
  []

/-- The row of `rows` that holds offset `off`, with the index of the register in it. -/
def findRow (off : Nat) : List Row → List Fld
  | [] => []
  | r :: t =>
    if r.base ≤ off ∧ off < r.base + r.stride * r.count ∧ (off - r.base) % r.stride = 0 then
      r.fields ((off - r.base) / r.stride)
    else findRow off t

/-- The fields of the register at offset `off` of page `p`. A reserved register has none (R6)
(assumption 94, DEDUCED). -/
def fieldsAt (p off : Nat) : List Fld :=
  if off < 0x040 then findRow off (HDR.rows p) else findRow off (blockRows p)

/-- The fields of the window register at `off` for engine slot `slot` (Table LOOP-6). -/
def windowFieldsAt (slot off : Nat) : List Fld := findRow off (LW.rows slot)

/-- Every field of a list of rows. -/
def allFields (rows : List Row) : List Fld :=
  rows.flatMap fun r => (List.range r.count).flatMap r.fields

end Sys2Proof.Machine.Reg
end

