-- ==== Sys2Proof/Machine/Block.lean ====
section
/-! DEFINITION. Everything the spec gives the part, as plain data: the register file, the memories, and for each
subsystem the state its rules name beside the registers. Each field's default is its value at reset; where the
spec gives none the assumption named in the docstring chooses it. `State` adds the queue of waiting commands. -/

namespace Sys2Proof.Machine

/-- A byte-addressed memory: (address, byte) pairs in canonical form (Host.Cell). -/
abbrev Memory := Store (BitVec 8)

/-- An event on its way to the recorder (R471), with the content of Table LOG-1. -/
structure Event where
  code : Nat
  source : Nat
  severity : Nat := 0
  cls : Nat := 0
  verdict : Nat := 0
  arg0 : Nat := 0
  arg1 : Nat := 0
  time : Nat := 0
  era : Nat := 0
  aon : Bool := false
  deriving DecidableEq, Repr

/-- One entry of the current-verdict set (R470), oldest first. -/
structure Held where
  verdict : Nat
  severity : Nat
  deriving DecidableEq, Repr

/-- A record image that awaits its append to LOG (R474): its index and the drip since which it waits. -/
structure Pending where
  index : Nat
  since : Nat
  fresh : Bool
  deriving DecidableEq, Repr

/-- The recorder (R467 to R476). -/
structure Recorder where
  queue : List Event := []
  aon : List Event := []
  /-- Events discarded since the last LOST record. -/
  lost : Nat := 0
  /-- The record base in force (R475 takes `LOG.BASE` at a start). -/
  base : Nat := 0x20078000
  /-- Circulating records written since the area was last empty. -/
  circ : Nat := 0
  pending : List Pending := []
  /-- Drip of the last append of each index. -/
  appended : Store Nat := []
  /-- The next LOG write sequence, and the slot it goes to. -/
  seq : Nat := 1
  slot : Nat := 0
  /-- Drip at which `CLR_KEY` was written with its key. -/
  clrKey : Option Nat := none
  verdicts : List Held := []
  /-- Drip at which the LED's cycle began, and the winks of it (R478). -/
  ledFrom : Nat := 0
  ledWinks : Nat := 4
  /-- Words written so far to the event ports of the GNSS core and the RADIO core (R471). -/
  portGnss : List Word := []
  portRadio : List Word := []
  deriving DecidableEq, Repr

/-- States of the tag toward a reader (R452, ISO/IEC 14443-3). -/
inductive NfcState where
  | off | idle | ready1 | ready2 | active | halted
  deriving DecidableEq, Repr

/-- A page commit that waits (R458, R459, R463, R465): a page of a commit job, the job's last write of the sequence page, a
page of the window's buffer, a page of the status area or of the fault summary. -/
inductive CommitKind where
  | jobBusy | jobPage | jobEnd | buffer | status | summary
  deriving DecidableEq, Repr

structure Commit where
  kind : CommitKind
  page : Nat
  data : List Byte
  deriving DecidableEq, Repr

/-- The tag beside its memory and registers (R452 to R466). -/
structure TagCtl where
  state : NfcState := .off
  sector : Nat := 0
  /-- An AUTH of this field session has been judged (R462). -/
  judged : Bool := false
  /-- The lock-out that the counter shows has been recorded. -/
  lockSeen : Bool := false
  /-- The password register inside the tag (R460); none while no KS05 record is programmed. -/
  password : Option (List Byte) := none
  queue : List Commit := []
  /-- Drip at which the running job was accepted. -/
  job : Option Nat := none
  /-- Pages whose commit failed its read-back (R484). -/
  bad : List Nat := []
  /-- Drip of the last commit of each page of the status area, and the field times (in drips) of its commits within
  24 h (R458). -/
  statLast : List (Option Nat) := List.replicate 7 none
  statTimes : List (List Nat) := List.replicate 7 []
  /-- Records that wait for their copy into the summary, and the record that each slot holds with the drip at which its last
  copy began (R459). -/
  sumQueue : List Nat := []
  sumSlots : List (Option (Nat × Nat)) := List.replicate 31 none
  deriving DecidableEq, Repr

/-- An error class (R485): page, `ERR` bit, and a narrower part where a chapter gives one (R158: the address). -/
structure ErrClass where
  page : Nat
  bit : Nat
  sub : Nat := 0
  deriving DecidableEq, Repr

/-- A pending or running targeted test. `flt` is the FLT test of a PWM page (R487). -/
structure Test where
  page : Nat
  flt : Bool := false
  /-- The triggering `ERR` bit. -/
  bit : Nat := 0
  diag : Bool := false
  retest : Bool := false
  raised : List ErrClass := []
  /-- Raised classes whose pass counts toward no escalation (R184). -/
  spared : List ErrClass := []
  /-- The drip at which a running test began. -/
  began : Nat := 0
  deriving DecidableEq, Repr

/-- A LASTING class (R489, R491). -/
structure Lasting where
  cls : ErrClass
  esc : Bool
  deriving DecidableEq, Repr

/-- One of the 32 classes of the escalation table in AON (R491): field times of TRANSIENT results. -/
structure EscEntry where
  cls : ErrClass
  times : List Nat
  deriving DecidableEq, Repr

/-- STEST beside its registers. -/
structure TestCtl where
  pend : List Test := []
  running : List Test := []
  lasting : List Lasting := []
  esc : List EscEntry := []
  /-- Pages whose tests MAIN has started since the start and before `READY`: the start-up self-tests (R77). -/
  startUp : List Nat := []
  deriving DecidableEq, Repr

/-- FIELD being left (R75, R80, R86): 1 all-closed commands to latch, 2 latched, 3 the forced checkpoint runs,
4 it has ended. -/
structure Leave where
  stage : Nat := 1
  /-- The pool (counted since the tick started) in which the valves close. -/
  closeAt : Nat := 0
  /-- The mode that follows, its cause, and whether it waits for a pool edge. -/
  goal : Option (Mode × Nat) := none
  atEdge : Bool := true
  deriving DecidableEq, Repr

/-- The mode controller beside the SYS and PWR registers (R60 to R75). -/
structure ModeCtl where
  /-- PV good as last judged. -/
  pvGood : Bool := false
  /-- The SAFE latch (AON, R67), its cause and the verdict it came with. -/
  safeLatch : Bool := false
  safeCode : Nat := 0
  safePage : Nat := 0
  safeVerdict : Nat := 0
  /-- A decided transition that waits for the next pool edge: target mode and cause. -/
  next : Option (Mode × Nat) := none
  /-- What a request of the same evaluation adds, from the mode that `next` or the leaving of FIELD brings (R83). -/
  follow : Option (Mode × Nat) := none
  /-- A ladder step decided at the last evaluation: `some true` shed, `some false` restore. -/
  step : Option Bool := none
  /-- The request that waits for the evaluation (R83): `REQ.CMD`, 0 none. -/
  request : Nat := 0
  /-- Consecutive evaluations below each effective `SHEDk` with `SURPLUS` clear (index k - 1), and at or above the
  restore level of the lowest step shed (R70, R71). -/
  below : List Nat := [0, 0, 0, 0, 0, 0, 0]
  above : Nat := 0
  /-- Consecutive pools with `VOC` at or above `PUMP_VON` (Table MODE-2). -/
  vocPools : Nat := 0
  /-- Pools left of the pump retry wait, and the wait last started; 0 before the first (R74). -/
  retryLeft : Nat := 0
  retryWait : Nat := 0
  /-- Pool counts (`pools`) of the step-7 sheds of the last 10 minutes, newest first. -/
  sheds7 : List Nat := []
  /-- Pools in PUMP or FIELD since the last step-7 shed. -/
  since7 : Nat := 0
  /-- Pools since power-on. -/
  pools : Nat := 0
  /-- Sums over the pool's samples (R61, R79): VPV in 0.1 V, power in the unit of `powerUnit`, their count. -/
  sumVpv : Nat := 0
  sumPower : Int := 0
  samples : Nat := 0
  /-- The MPPT slot was held at its limit in every past drip of the pool, and in this drip (R62). -/
  limited : Bool := false
  limitNow : Bool := false
  leaving : Option Leave := none
  /-- LOOP, the GNSS core or the RADIO core failed its load (R26). -/
  loopFailed : Bool := false
  gnssFailed : Bool := false
  radioFailed : Bool := false
  /-- A second coordinator was seen (R29). -/
  coordConflict : Bool := false
  /-- The hold-up failed: PW03 at the next start (R81, AON). -/
  holdupShort : Bool := false
  /-- VIN_3V3 left its range while the part ran: PW04 at the next start (AON). -/
  brownout : Bool := false
  /-- VDD_1V8 is external (R521), and it is late: reset is held (R540). -/
  external18 : Bool := false
  late18 : Bool := false
  /-- The AON domain has lost power since the last start (R539). -/
  aonLost : Bool := false
  /-- The start-up has reached the running image (R76). -/
  running : Bool := false
  /-- Drip of the last entry into WAKE (R27). -/
  wakeAt : Nat := 0
  deriving DecidableEq, Repr

/-- The tick generator beside its registers (R30, R44, R55, R56). -/
structure TickCtl where
  /-- Pool and epoch edges that the last drip edge brought and that have not been taken yet. -/
  poolDue : Bool := false
  epochDue : Bool := false
  /-- A drip edge has been produced since the tick started. -/
  started : Bool := false
  freezePending : Bool := false
  /-- The tick has been frozen since its last pool edge (R56). -/
  thawed : Bool := false
  /-- Fallback timing begins at the next drip edge (R57). -/
  fallbackDue : Bool := false
  /-- Pools in gallery degrade without an overrun (R44). -/
  degPools : Nat := 0
  /-- Pool count since the tick started. -/
  pools : Nat := 0
  /-- Overruns already counted in their windows (R43), and tick-driven pushes already made in this pool: 0 SECT_CMD,
  1 SYNC, 2 HEARTBEAT. -/
  overran : List OvrBlock := []
  pushed : List Nat := []
  deriving DecidableEq, Repr

/-- A crypto job (R97): its parameters and keys as taken at the start, and the fence rules then in force. -/
structure Job where
  op : Nat
  slot : Nat
  src : Nat
  dst : Nat
  len : Nat
  aad : Nat
  aadLen : Nat
  iv : Nat
  tag : Nat
  key : List Byte
  /-- An accepted ABORT stops it at the next block boundary (R108). -/
  abort : Bool := false
  /-- The slot was erased under it (R106). -/
  keyLost : Bool := false
  deriving DecidableEq, Repr

/-- A key operation in progress (R96). -/
structure KeyOp where
  code : Nat
  slot : Nat
  blob : Nat
  data : List Byte
  /-- The slot was erased under it (R106). -/
  keyLost : Bool := false
  deriving DecidableEq, Repr

/-- Lifecycle, key store and crypto engine beside their registers (R88 to R113). Key RAM is in AON. -/
structure Security where
  /-- Drip at which `LC_KEY` armed an advance. -/
  armed : Option Nat := none
  /-- Target of the advance being programmed, and the drip of its acceptance. -/
  programming : Option (Nat × Nat) := none
  /-- Contents of slots KS00 to KS15. -/
  slots : List (Option (List Byte)) := List.replicate 16 none
  /-- Rewrites that wait for an operation in flight (R107). -/
  pending : List (Nat × List Byte) := []
  job : Option Job := none
  keyOp : Option KeyOp := none
  /-- The first start in RETURN has been done (Table SEC-2). -/
  returnDone : Bool := false
  deriving DecidableEq, Repr

/-- The states of the test access port (R100, IEEE 1149.1). -/
inductive Tap where
  | reset | idle
  | selectDr | captureDr | shiftDr | exit1Dr | pauseDr | exit2Dr | updateDr
  | selectIr | captureIr | shiftIr | exit1Ir | pauseIr | exit2Ir | updateIr
  deriving DecidableEq, Repr

/-- The debug controller beside its registers (R100 to R113). -/
structure Debug where
  /-- Nonce in force and the drip at which it was drawn. -/
  nonce : Option (List Byte × Nat) := none
  /-- Level won by a challenge. -/
  won : Nat := 0
  /-- Its end in drips of the model clock; `none` until the next start. -/
  wonEnd : Option Nat := none
  /-- Failure count and lock-out are in AON (R102). -/
  lockEnd : Option Nat := none
  /-- Breakpoints set by DHALT. -/
  breakpoints : List Nat := []
  /-- The TAP: its state, the instruction selected, and the bypass register. -/
  tap : Tap := .reset
  ir : Nat := 1
  bypass : Bool := false
  deriving DecidableEq, Repr

/-- What the last read, frame or answer returned to whoever made it (the model's own record of the response). -/
structure Resp where
  word : Nat := 0
  bytes : List Byte := []
  /-- An error is signalled to the reader (R116, R156, R162). -/
  err : Bool := false
  deriving DecidableEq, Repr

/-- Calibration values in force (R143) and the CAL page's AON state (R150). -/
structure CalCtl where
  gain : List Nat := List.replicate 16 32768
  offset : List Int := List.replicate 16 0
  /-- µA per LSB: IU, IV, IW, IPV, IBA, IBB. -/
  current : List Nat := List.replicate 6 1000
  /-- Dividers, 65,536 = 1.0: VPV, VDC. -/
  div : List Nat := [2621440, 10485760]
  /-- Pressure points of PRESS0 and PRESS1; empty when the section is invalid. -/
  press : List (List (Nat × Nat)) := []
  /-- Baseline, ANT_B vector (x, y, z), ANT_A height, ANT_A position (x, y) in mm; empty when the section is invalid. -/
  ant : List Int := []
  valveOn : Nat := 300
  valveOff : Nat := 300
  rewrite : Bool := false
  count : Option Nat := none
  reload : Bool := false
  /-- The 336 bytes that a rewrite programs, from its START to its end; a soft reset came while it ran, so that `RES` reads 0 after it
  (R553). -/
  job : Option (List Byte) := none
  quiet : Bool := false
  deriving DecidableEq, Repr

/-- A queued or running flash operation of the FLASH page (R147). -/
structure FlashOp where
  op : Nat
  addr : Nat
  src : Nat
  deriving DecidableEq, Repr

/-- Flash work of the part's own that waits for its turn at the controller (R146): a flush of the recorder, the FOUND_CLEAR
marker, a CLEAR of the map, the erase of STAGE's header sector, the header of an update that opens, the binding record. -/
inductive FlashDue where
  | flush | found | clear | head | open_ (tag : Nat) | bind
  deriving DecidableEq, Repr

structure FlashCtl where
  op : Option FlashOp := none
  /-- A BUSY operation that a soft reset of the page has detached: it runs to its end unseen (R553). -/
  quiet : Option FlashOp := none
  /-- Requesters that found the controller busy (R146): 1 loader or update controller, 2 recorder mirror, 3 gallery. -/
  waiting : List Nat := []
  /-- The part's own flash work that waits for its turn, oldest first (R146). -/
  due : List FlashDue := []
  deriving DecidableEq, Repr

/-- A post that waits for the writes its sender issued before it, by the masters that make them (R170). -/
structure Post where
  mbx : Fin 16
  sender : Nat
  ptr : Nat
  len : Nat
  tag : Nat
  waits : List Nat
  deriving DecidableEq, Repr

/-- Shared memory beside its registers: rules in force, credits, scrub and injection (R154 to R168). -/
structure Shared where
  /-- Fence rules in force: (base, limit, permissions) of each region, and `BG`. -/
  rules : List (Nat × Nat × Nat) := List.replicate 32 (0x20000000, 0x2000001F, 0)
  bg : Nat := 0
  /-- Of (master, bank), at index m × 8 + b: the drip's reservation and what remains of its credit, the beats granted in
  this drip and in the last, and their peak and the short drips since last read. -/
  reserved : Store Nat := []
  credit : Store Nat := []
  granted : Store Nat := []
  last : Store Nat := []
  peak : Store Nat := []
  short : Store Nat := []
  /-- Pairs that have a request put off (R167): 1, or 2 for a write. -/
  wanted : Store Nat := []
  /-- Bursts under way: master, address and type of the next beat, beats that remain (R161). -/
  bursts : List (Nat × Nat × Nat × Nat) := []
  /-- Posts that wait, oldest first. -/
  posts : List Post := []
  /-- Words that the scrub has read in each bank in this drip, and since it last started. -/
  scrubbed : Store Nat := []
  scrubTotal : Store Nat := []
  /-- Pending injection: word index and mask (R156, INJ). -/
  inject : Option (Nat × Nat) := none
  deriving DecidableEq, Repr

/-- A mailbox's held notice (R169). -/
structure Notice where
  ptr : Nat
  len : Nat
  tag : Nat
  sender : Nat
  /-- The count of drip edges at the post (R173). -/
  posted : Nat
  timed : Bool := false
  deriving DecidableEq, Repr

/-- Host port beside its registers (R175 to R179). -/
structure HostPort where
  /-- Drip of the last frame with a good CRC. -/
  lastGood : Nat := 0
  deriving DecidableEq, Repr

/-- One entry of the clamp report (Table BLK-1). -/
structure Clamp where
  page : Nat
  reason : Nat
  off : Nat
  lsb : Nat
  written : Nat
  stored : Nat
  time : Nat
  deriving DecidableEq, Repr

/-- One PWM module beside its registers: the active values behind the shadow registers (R267), dead times in taps
of 1/32 cycle (R278), and the counts of R279, R280 and R285. -/
structure PwmMod where
  freq : Nat := 200
  duty : List Nat := [0, 0, 0]
  cmpA : Nat := 0
  cmpB : Nat := 0
  /-- Drip from which a requested transfer of a tick-locked module falls due (R267). -/
  ldFrom : Nat := 0
  /-- Drip at which a stopped counter starts again (R272). -/
  startAt : Nat := 0
  rise : List Nat := [5248, 5248, 5248]
  fall : List Nat := [5248, 5248, 5248]
  /-- Consecutive periods in the convergence band, and periods since the dead-time restart. -/
  inBand : List Nat := [0, 0, 0]
  periods : List Nat := [0, 0, 0]
  /-- Consecutive periods without an off interval. -/
  noOff : List Nat := [0, 0, 0]
  /-- Occurrences of ZERO, PERIOD, CMPA and CMPB since the last interrupt of each. -/
  events : List Nat := [0, 0, 0, 0]
  /-- The legs with a refresh pulse, and whether its zero event has come (R280). -/
  refresh : List (Nat × Bool) := []
  deriving DecidableEq, Repr

/-- The PWM modules, the fault balls and six-step commutation (R273, R281 to R284). -/
structure Drive where
  mods : List PwmMod := [{}, { freq := 400 }, {}, {}]
  /-- Levels at FLT0 and FLT1 (assumption 12: high before anything drives them). -/
  flt : List Bool := [true, true]
  /-- Modules latched since the last drip edge (R274). -/
  latched : List Bool := [false, false, false, false]
  clockLoss : Bool := false
  mainReset : Bool := false
  /-- Modules at their safe levels since the entry into SERVICE, until a command of MAIN moves them (R59). -/
  svcHold : List Bool := [false, false, false, false]
  /-- A write of OFF waits for the next transfer (R284). -/
  commOff : Bool := false
  misses : Nat := 0
  /-- Misses since the last commutation (R283). -/
  waited : Nat := 0
  /-- The pulse of leg BB that a transfer found in progress (R268): taps from its rising edge to its period event, and from
  there to its end. -/
  bbPulse : Option (Nat × Nat) := none
  /-- An accepted edge: microseconds from the last commutation at which it fell. -/
  zcEdge : Option Nat := none
  /-- Legs that a change of the mask turns on, with the taps of PWM0's counter at the change, while their dead time runs
  (R282). -/
  turned : List (Nat × Nat) := []
  deriving DecidableEq, Repr

/-- The ADC within the drip (R286 to R289). -/
structure AdcCtl where
  done : Bool := false
  /-- Cores A and B failed in this drip. -/
  failA : Bool := false
  failB : Bool := false
  deriving DecidableEq, Repr

/-- States of one biquad stage (R305). -/
structure Biquad where
  x1 : Int := 0
  x2 : Int := 0
  y1 : Int := 0
  y2 : Int := 0
  deriving DecidableEq, Repr

/-- A LOOP slot beside its registers (R298 to R321). -/
structure Slot where
  /-- Effective setpoint of the last run, that with what was injected at it, and the feedback. -/
  eff : Int := 0
  spt : Int := 0
  fb : Int := 0
  xPrev : Int := 0
  dPrev : Int := 0
  bq0 : Biquad := {}
  bq1 : Biquad := {}
  /-- The slot ran in this drip. -/
  ran : Bool := false
  /-- `RATE` and `PHASE` in force in this drip (R326). -/
  rate : Nat := 0
  phase : Nat := 0
  /-- Model of R320: prediction with 16 more fractional bits, its start values, and past outputs, newest first. -/
  model : Bool := false
  yhat : Int := 0
  y0 : Int := 0
  u0 : Int := 0
  past : List Int := []
  /-- Consecutive samples out of band and within it; drips since the entry into AUTO. -/
  bad : Nat := 0
  good : Nat := 0
  autoFrom : Nat := 0
  /-- Samples that the targeted test still watches with the band doubled, and whether one was out of it (R322). -/
  watch : Nat := 0
  watchBad : Bool := false
  deriving DecidableEq, Repr

/-- Test injection (R318). -/
structure Inject where
  slot : Nat
  point : Nat
  kind : Nat
  hold : Nat
  amp : Int
  run : Nat := 0
  lfsr : Nat := 0
  deriving DecidableEq, Repr

/-- Response capture (R319). -/
structure Capture where
  slot : Nat
  addr : Nat
  n : Nat
  dec : Nat
  trig : Bool
  runs : Nat := 0
  count : Nat := 0
  started : Bool := false
  first : Nat := 0
  inj : Bool := false
  /-- The sample of this drip's run, while it waits for its beats. -/
  held : Option (List Byte) := none
  deriving DecidableEq, Repr

/-- The loop engine beside its registers. -/
structure LoopCtl where
  slots : List Slot := List.replicate 32 {}
  /-- Duties computed in this drip: module, leg, value (R307). -/
  duties : List (Nat × Nat × Nat) := []
  inject : Option Inject := none
  capture : Option Capture := none
  reports : Nat := 0
  /-- id, iq and speed of each pair (Table LOOP-1). -/
  id : List Int := List.replicate 16 0
  iq : List Int := List.replicate 16 0
  speed : List Int := List.replicate 16 0
  /-- Drip in which LOOP last ran its slots and last wrote its outputs. -/
  ranAt : Option Nat := none
  wroteAt : Option Nat := none
  deriving DecidableEq, Repr

/-- The safety pairs beside their registers (R498 to R501): consecutive samples against the filtered state of STOP_A,
STOP_B, FOLD_A and FOLD_B; the discrepancy time of each pair and whether it has latched; DISC_NEAR times; the pulse
counter. -/
structure Safety where
  agree : List Nat := [0, 0, 0, 0]
  disc : List Nat := [0, 0]
  discDone : List Bool := [false, false]
  near : List (List Nat) := [[], []]
  pulse : Nat := 0
  deriving DecidableEq, Repr

/-- The agents MAIN loads (R20 to R27): released from reset or not, and the mismatches of each at this start (R26), LOOP,
GNSS core, RADIO core. -/
structure Agents where
  loop : Bool := false
  gnss : Bool := false
  radio : Bool := false
  tries : List Nat := [0, 0, 0]
  deriving DecidableEq, Repr

/-- An action of Table RAD-8 that has not begun (R417): a forward step in drips, or a slew in ns. -/
structure TimeAct where
  slew : Bool
  amount : Nat
  /-- The pool count at which it was decided, and whether the SYNC at whose SOF a slew begins has been queued. -/
  since : Nat
  armed : Bool := false
  deriving DecidableEq, Repr

/-- A slew in force (R418): the ns to lose, the drip at which it began, whether it began at a SYNC, and whether a SYNC
with SLEW clear has been queued. -/
structure Slew where
  need : Nat
  began : Nat
  bySync : Bool
  ending : Bool := false
  deriving DecidableEq, Repr

/-- TIME beside its registers (R416 to R424). -/
structure TimeCtl where
  act : Option TimeAct := none
  slew : Option Slew := none
  /-- Drips of the last record with TIME_VALID and of the last base sample, and the beacon period in s. -/
  gnssAt : Option Nat := none
  baseAt : Option Nat := none
  period : Nat := 0
  /-- The latest base sample taken outside the powered modes: its difference in ns (R411). -/
  held : Option Int := none
  /-- Consecutive base samples above 1 ms (R422). -/
  disagree : Nat := 0
  /-- What AON cycles leave of a drip, in 1/32,768. -/
  frac : Nat := 0
  deriving DecidableEq, Repr

/-- A received frame (R405): its decrypted PSDU without MIC and FCS, the link frame in it, its source, RSSI and SFD. -/
structure RadioRx where
  psdu : List Byte
  link : List Byte
  src : Nat
  rssi : Nat
  sfd : Nat
  deriving DecidableEq, Repr

/-- The transmission under way (R403): unicast, key slot, link frame type, MSEQ, retries so far. -/
structure RadioTx where
  uni : Bool
  key : Nat
  kind : Nat
  mseq : Nat
  tries : Nat := 0
  /-- The slot was erased under it (R106). -/
  keyLost : Bool := false
  deriving DecidableEq, Repr

/-- A schedule entry (R410); start in GPS seconds, duration in s. -/
structure SchedEntry where
  id : Nat
  kind : Nat
  chan : Nat
  start : Nat
  dur : Nat
  rate : Nat
  done : Bool := false
  deriving DecidableEq, Repr

/-- An incomplete batt (R407): index, fragments held, drip of the last one gained. -/
structure BattPart where
  index : Nat
  frags : List (Nat × List Byte)
  last : Nat
  deriving DecidableEq, Repr

/-- The radio link beside its registers (R396 to R415). -/
structure Radio where
  /-- The replay table: source address and highest frame counter, most recently used first (R401, AON). -/
  replay : List (Nat × Nat) := []
  /-- KS03 and KS04 have been rewritten since `FC` was last 0 (R400). -/
  new3 : Bool := false
  new4 : Bool := false
  /-- The hardware queue, and the frame the RADIO core took last and has not handled. -/
  queue : List RadioRx := []
  taken : Option RadioRx := none
  tx : Option RadioTx := none
  /-- Frames that wait in the core for a mode that allows them: PSDU, key index, and where a report goes (R404). -/
  waiting : List (List Byte × Nat × Nat) := []
  /-- MAC sequence number of the next new frame that the core builds itself. -/
  macSeq : Nat := 0
  /-- The last frames, at most 100, newest first: good or with a bad FCS (R421); consecutive MIC failures. -/
  frames : List Bool := []
  micRun : Nat := 0
  /-- The correction message under assembly: CSEQ, next fragment, bytes (R406). -/
  corr : Option (Nat × Nat × List Byte) := none
  /-- Wanted tag and map (R407), incomplete batts, and items that wait for mailbox 3: tag, length, pointer (R408). -/
  wantTag : Nat := 0
  wanted : Nat := 0
  parts : List BattPart := []
  items : List (Nat × Nat × Nat) := []
  /-- Last MSEQ of each source (R409). -/
  lastMsg : List (Nat × Nat) := []
  sched : List SchedEntry := []
  schedVer : Option Nat := none
  /-- Field-time drip at which QUIET_TX ends; channel, rate and end of LISTEN, to which the radio is tuned. -/
  quietTo : Nat := 0
  listen : Option (Nat × Nat × Nat) := none
  lastNeed : Option Nat := none
  /-- Ends of the beacon window and of the LISTEN window open in DARK; a batt has been stored in the latter. -/
  window : Option Nat := none
  listening : Option Nat := none
  stored : Bool := false
  /-- Drip and period in s of the last beacon, missed beacons, drip of the last long search; RA01 has been recorded. -/
  beaconAt : Nat := 0
  period : Nat := 60
  missed : Nat := 0
  searchAt : Option Nat := none
  ra01 : Bool := false
  deriving DecidableEq, Repr

/-- One entry of the transmit queue (R338 to R342): the identifier with IDE at bit 29 and RTR at bit 30, and whether
an abort waits for the attempt on the bus to end (R355). -/
structure TxEntry where
  id : Nat
  dlc : Nat
  limit : Nat
  tag : Nat
  d0 : Nat
  d1 : Nat
  attempts : Nat := 0
  abort : Bool := false
  /-- The LIP service's own mark on a frame whose end it waits for. -/
  mark : Nat := 0
  deriving DecidableEq, Repr

/-- One receive entry (Table CAN-3). -/
structure RxEntry where
  w0 : Nat
  w1 : Nat
  w2 : Nat
  w3 : Nat
  ts : Nat
  deriving DecidableEq, Repr

/-- The CAN controller beside its registers (R334 to R361). -/
structure Can where
  queue : List TxEntry := []
  /-- Completion reports, oldest first: the `TX_DONE` word and its timestamp. -/
  done : List (Nat × Nat) := []
  fifo : List RxEntry := []
  /-- Frames were dropped since the last stored one. -/
  gap : Bool := false
  /-- A disable waits for the bus to be idle (R357), and what follows it: a soft reset of the page, an enable. -/
  stopping : Bool := false
  resetDue : Bool := false
  again : Bool := false
  /-- Another node's frame is on the bus, as the last command told. -/
  other : Bool := false
  /-- Bit timing in force: `PROP`, `PS1`, `PS2`, `SJW`, `BRP` as stored (R336). -/
  timing : List Nat := [5, 6, 1, 1, 7]
  /-- Base and length exponent of the ring in force (R348). -/
  ringBase : Nat := 0x200C0000
  ringLog : Nat := 12
  deriving DecidableEq, Repr

/-- An assigned partner (R370 to R379, R382). -/
structure Partner where
  addr : Nat
  uid : Nat
  kind : Nat
  image : Bool
  seq0 : Nat
  confirmed : Bool := false
  /-- Consecutive epochs without a HEARTBEAT, and whether one has come in this epoch (R377). -/
  missed : Nat := 0
  heard : Bool := false
  /-- Epochs in which missed heartbeats are not counted (R377). -/
  grace : Nat := 0
  state : Nat := 0
  /-- Image loads that failed at this assignment (R379). -/
  failed : Nat := 0
  /-- Frames of steps 1 and 2 of R382 that remain, the one under way first, and the mark that they carry. -/
  resend : Option (List TxEntry) := none
  mark : Nat := 0
  /-- Drip of the ASSIGN (R372). -/
  since : Nat := 0
  /-- A node image has been loaded (R23). -/
  loaded : Bool := false
  deriving DecidableEq, Repr

/-- A block transfer that the part sends (R386 to R388): where its content lies, and how far it has come. -/
structure BtSend where
  peer : Nat
  content : Nat
  tag : Nat
  addr : Nat
  len : Nat
  block : Nat := 0
  /-- The answer to BT_OPEN, to a block or to BT_END is awaited: 0, 1, 2; 3 the transfer is paused. -/
  stage : Nat := 0
  timeouts : Nat := 0
  /-- The last frame posted has ended, in the pool that `since` counts, and the mark that it carries (R387). -/
  gone : Bool := false
  since : Nat := 0
  mark : Nat := 0
  /-- The receiver has answered READY to BT_OPEN; BT_HOLD has gone out in this epoch (R388). -/
  opened : Bool := false
  holdSent : Bool := false
  deriving DecidableEq, Repr

/-- A block transfer that the part receives. -/
structure BtRecv where
  peer : Nat
  content : Nat
  tag : Nat
  len : Nat
  block : Nat := 0
  /-- Content of the blocks that are whole, and the frames of the current block. -/
  data : List Byte := []
  frames : List (Nat × List Byte) := []
  since : Nat := 0
  deriving DecidableEq, Repr

/-- MAIN's LIP service (R362 to R394). -/
structure Lip where
  partners : List Partner := []
  /-- Bindings of UIDs to addresses (R370, R546), the kind that each UID announced, and the address of a "replace partner"
  that waits (R548); the last sequence number sent to each UID since the start (R373). -/
  bindings : List (Nat × Nat) := []
  kinds : List (Nat × Nat) := []
  replace : Option Nat := none
  lastSeq : List (Nat × Nat) := []
  /-- CFG_SET values held: UID, index, value (R382). -/
  cfg : List (Nat × Nat × Nat) := []
  /-- QUIET in force: address or 0xFF, `LIMIT`, and the pool count at which it ends; 0 for none (R384). -/
  quiet : List (Nat × Nat × Nat) := []
  /-- Frames that wait to be queued (R343). -/
  outbox : List TxEntry := []
  malformed : Nat := 0
  /-- A DISCOVER with RESET_ALL is owed (R374). -/
  discover : Bool := false
  /-- The last SYNC that ended SENT: `SEQ`, field time of its SOF, pool count (R366). -/
  syncSent : Option (Nat × Nat × Nat) := none
  /-- The last report of each partner's channel: address × 4 + channel, count or pressure, field time (R383). -/
  pulse : List (Nat × Nat × Nat) := []
  press : List (Nat × Nat × Nat) := []
  /-- Losses of each UID: UID and field time in drips (BU06). -/
  losses : List (Nat × Nat) := []
  send : List BtSend := []
  recv : List BtRecv := []
  /-- The last content received whole, as handed to MAIN: content code, tag, bytes. -/
  delivered : Option (Nat × Nat × List Byte) := none
  /-- A DISCOVER has gone out in this epoch while alone (R374). -/
  discovered : Bool := false
  /-- The node-table words in force since the last drip-9 or drip-90 latch (Table LIP-10). -/
  nodes : List Nat := List.replicate 64 0
  /-- Marks given so far. -/
  marks : Nat := 0
  deriving DecidableEq, Repr

/-- A copied boundary (R193): each polygon with whether it is an inclusion, and the figures of `BND_STAT`. -/
structure Boundary where
  polys : List (Bool × List (Int × Int)) := []
  xcount : Nat := 0
  emax : Nat := 0
  deriving DecidableEq, Repr

/-- The pose from which the gallery predicts (R197, R207): its field time in 1/128 drip, position in 2^-16 mm, speed in
mm/s, course and heading in 2^-32 turn, yaw rate in 0.01°/s, fore-aft deviation of ANT_B in mm. -/
structure Pose where
  t : Int
  e : Int
  n : Int
  v : Int
  chi : Nat
  th : Nat
  w : Int
  dxb : Int
  deriving DecidableEq, Repr

/-- A valve-delay observation (R204): class, section, direction, switch drip, whether it is a probe's, and what it has seen:
sums of 50 pressures in 0.1 kPa before the switch and at the end of the window, pulses of the 500 ms before each. -/
structure Obs where
  cls : Nat
  sec : Nat
  opening : Bool
  sw : Nat
  probe : Bool := false
  p0 : Option Int := none
  flow0 : Nat := 0
  resp : Option Nat := none
  tail : Option Int := none
  flow1 : Nat := 0
  deriving DecidableEq, Repr

/-- A running checkpoint (R210): tiles that remain, failed records, whether it is the forced one of R24, and whether that one
waits for this to end. -/
structure Ckpt where
  tiles : List Nat
  num : Nat
  fails : Nat := 0
  forced : Bool := false
  again : Bool := false
  deriving DecidableEq, Repr

/-- The gallery beside its registers (R187 to R221). -/
structure Gallery where
  /-- The GAL fields as latched at drip 9 (R51). -/
  conf : RegFile := []
  bndNew : Boundary := {}
  bnd : Boundary := {}
  /-- Sequence of the record last taken, its epoch if valid, and whether a valid one has come since pool 3. -/
  lastSeq : Option Nat := none
  lastEpoch : Option Nat := none
  fresh : Bool := false
  pose : Option Pose := none
  /-- Field time in drips at which a hold began; expired under FREEZE; expiries of the last 10 minutes. -/
  holdAt : Option Nat := none
  frozen : Bool := false
  expiries : List Nat := []
  /-- An input latch, and an evaluation, of this pool. -/
  latched : Bool := false
  evaluated : Bool := false
  /-- Transitions decided in this pool: section, due drip, late; and the commands latched: node, field-time drip, map. -/
  decided : List (Nat × Nat × Bool) := []
  /-- Sections that this pool's latch found unavailable while they were planned open (R188, R204). -/
  shut : List Nat := []
  cmds : List (Nat × Nat × Nat) := []
  /-- Effective switches to come: section, opening, drip of the model clock; sections open in this pool. -/
  events : List (Nat × Bool × Nat) := []
  wasOpen : List Nat := []
  dirty : List Nat := []
  ckpt : Option Ckpt := none
  /-- Pools in FIELD since a checkpoint last started; a checkpoint asked for by MAPCMD. -/
  ckptPools : Nat := 0
  /-- Next record sequence and journal slot. -/
  seq : Nat := 1
  slot : Nat := 0
  /-- Transitions so far and the late ones among the last 1,000 (SE08). -/
  trans : Nat := 0
  lates : List Nat := []
  obs : List Obs := []
  /-- Recent switches: class, section, drip. -/
  switched : List (Nat × Nat × Nat) := []
  /-- Consecutive rejected observations of each section; drip of the last accepted one of each section's delays. -/
  rejects : Store Nat := []
  accepted : List (Nat × Nat) := []
  /-- Probes under way: section, opening drip, closing drip; field times in drips of the last 60 minutes' probes. -/
  probes : List (Nat × Nat × Nat) := []
  probeTimes : List Nat := []
  /-- The last 50 samples of PRESS0 and PRESS1, and the last 51 latched counts of FLOW0, FLOW1 and the flow node,
  newest first. -/
  press : List (List Int) := [[], []]
  flow : List (List Nat) := [[], [], []]
  /-- Count, period and last edge of each pulse input as latched at drip 9 (R214). -/
  pulse : List (Nat × Nat × Option Nat) := []
  /-- The last two reports of the wheel-speed node: count and field time. -/
  wheel : List (Nat × Nat) := []
  /-- Node and output pairs already reported as shared (R218). -/
  dups : List Nat := []
  /-- Nodes whose `SVC_MAP` MAIN has written since the entry into SERVICE (R59). -/
  svcMaps : List Nat := []
  deriving DecidableEq, Repr

/-- The pulse inputs beside their registers (R214): the last accepted edge of each, in cycles of field time. -/
structure CapCtl where
  last : List (Option Nat) := [none, none, none, none]
  deriving DecidableEq, Repr

/-- A tracking channel as it runs (R237 to R239): its state by Table GNSS-4, whether the next latch shows SLIP, and the
drip at which it began to coast. -/
structure Chan where
  state : Nat := 0
  slip : Bool := false
  coastAt : Nat := 0
  deriving DecidableEq, Repr

/-- A search of the correlator bank (R233): enabled lanes, threshold and last drip. -/
structure Search where
  lanes : List Nat
  thr : Nat
  endAt : Nat
  deriving DecidableEq, Repr

/-- A job of the FFT engine (R235); of one that has not begun, the blocks asked for. -/
structure FftJob where
  src : Nat
  dst : Nat
  mask : Nat
  k : Nat
  blocks : Nat
  thr : Nat
  deriving DecidableEq, Repr

/-- A snapshot capture (R250 to R254): antenna, slot of the bank, samples requested, field time and era of the first
sample, and whether a cold start asked for it. -/
structure Grab where
  ant : Nat
  slot : Nat
  want : Nat
  ft : Nat
  era : Nat
  began : Nat
  cold : Bool
  deriving DecidableEq, Repr

/-- GPS time carried forward from a record with TIME_VALID (R253), and the last position and drift. -/
structure TimeRec where
  ft : Nat
  week : Nat
  tow : Nat
  lat : Int
  lon : Int
  height : Int
  drift : Int
  deriving DecidableEq, Repr

/-- The GNSS subsystem beside its registers (R223 to R260). -/
structure Gnss where
  /-- The most recently posted record that is neither LATE nor SNAP (R243), and its sequence. -/
  posted : List Byte := []
  postedSeq : Nat := 0
  /-- A receiver start is due; the kind of the last one (1 HOT, 2 WARM, 3 COLD), its drip, and whether it has had a fix;
  cold starts in a row without one within 35 s (GN04). -/
  startDue : Bool := false
  kind : Nat := 0
  startedAt : Nat := 0
  fixed : Bool := true
  coldFails : Nat := 0
  /-- Of each antenna: the noise floor in 0.25 dB, found open at the start, the drip of its short, pools within the limits
  while open, and pools at or above `HIGH`. -/
  floor : List Int := [0, 0]
  absent : List Bool := [false, false]
  shortAt : List (Option Nat) := [none, none]
  goodPools : List Nat := [0, 0]
  jamPools : List Nat := [0, 0]
  /-- Drip at which each notch engaged, and at which its peak fell below the threshold. -/
  notchAt : List Nat := List.replicate 8 0
  notchLow : List (Option Nat) := List.replicate 8 none
  chans : List Chan := List.replicate 48 {}
  coasted : Bool := false
  search : Option Search := none
  fft : Option FftJob := none
  /-- Slot and blocks of a cold start's job that waits for the engine (R236). -/
  coldJob : Option (Nat × Nat) := none
  /-- A job started while a cold capture has precedence (R236). -/
  fftHeld : Option FftJob := none
  /-- The slot of the last job that ended DONE. -/
  jobDone : Option Nat := none
  /-- The last epoch edge: field time, era, drip, whether ANT_B was out of use; whether its solution has been formed and its
  record posted; whether the record of the epoch before was left unposted, and had been counted as an overrun; whether this
  epoch has no baseline. -/
  edged : Bool := false
  epochFt : Nat := 0
  epochEra : Nat := 0
  solved : Bool := false
  epochAt : Nat := 0
  single : Bool := false
  recPosted : Bool := false
  unposted : Option Bool := none
  skip : Bool := false
  /-- Heading in 2^-32 turn and yaw rate in 2^-32 turn/s (R241); consecutive epochs with and without a z; era of the last
  record. -/
  theta : Nat := 0
  omega : Int := 0
  zRun : Nat := 0
  noZ : Nat := 0
  headValid : Bool := false
  headSet : Bool := false
  lastEra : Nat := 0
  /-- Baseline fixed (R244), consecutive epochs out of tolerance, drips of the last discards (R245). -/
  blFixed : Bool := false
  outTol : Nat := 0
  discards : List Nat := []
  /-- Assistance: navigation data by PRN, pages by SV ID, and the position notice. -/
  eph : List (Nat × List Byte) := []
  alm : List (Nat × List Byte) := []
  apos : List Byte := []
  /-- A navigation notice that a record overwrote (R232). -/
  repost : Option (Nat × Nat × Nat) := none
  /-- The station of the last 1005 and that message; the base epoch under assembly, the latest complete one and its time
  in ms of week (R247); a fix with a changed station is awaited. -/
  station : Option Nat := none
  refPos : List Byte := []
  obs : List (List Byte) := []
  baseObs : List (List Byte) := []
  baseTow : Option Nat := none
  newStation : Bool := false
  timeRec : Option TimeRec := none
  /-- Captures: the request that waits for the next pool edge (antennas, length code), a cold start's, those that run, the
  next slot of each antenna, and the drip of the last interval capture. -/
  request : Option (Nat × Nat) := none
  coldDue : Bool := false
  grabs : List Grab := []
  nextSlot : List Nat := [0, 0]
  snapAt : Nat := 0
  deriving DecidableEq, Repr

/-- The update controller beside its registers and STAGE (R431 to R451). -/
structure Update where
  /-- Batts whose wanted bit is clear in STAGE and that are wanted again (R438). -/
  again : List Nat := []
  /-- The tag of an update that opens when STAGE has been erased (R433). -/
  toOpen : Option Nat := none
  /-- Consecutive AUTH and KEY_EMPTY results (R432, Table UPD-7). -/
  auths : Nat := 0
  empties : Nat := 0
  /-- The not-before taken at ACTIVATE: drips and era. -/
  notBefore : Nat × Nat := (0, 0)
  /-- The pause of an activation has begun (step 2 of Table UPD-6). -/
  paused : Bool := false
  /-- A DIRECT update is complete and its manifest copied: a restart at the next pool edge (R443). -/
  restart : Bool := false
  deriving DecidableEq, Repr

/-- The block: everything but the queue. -/
structure Block where
  regs : RegFile := []
  /-- Flash, SRAM, OTP and tag memory, at their addresses (Table PAGE-1). -/
  mem : Memory := []
  /-- The stored codewords of SRAM words that are not their data's codeword: 39-bit differences (R554). -/
  flips : Store (BitVec 39) := []
  /-- Private RAMs of the GNSS core and the RADIO core, and LOOP's microcode RAM (Table RIG-3). -/
  ramGnss : Memory := []
  ramRadio : Memory := []
  ramLoop : Memory := []
  /-- Field time (R9). -/
  ft : Nat := 0
  /-- Drips since power-on, with or without an edge: the model's own clock for times the rules give. -/
  now : Nat := 0
  /-- Drip edges since power-on (R173). -/
  edges : Nat := 0
  /-- The model's count of open values drawn (assumption 3). -/
  free : Nat := 0
  resp : Resp := {}
  log : Recorder := {}
  test : TestCtl := {}
  md : ModeCtl := {}
  tick : TickCtl := {}
  sec : Security := {}
  dbg : Debug := {}
  cal : CalCtl := {}
  flash : FlashCtl := {}
  sram : Shared := {}
  /-- The held notice of each mailbox (R169). -/
  mbx : List (Option Notice) := List.replicate 16 none
  host : HostPort := {}
  drive : Drive := {}
  adc : AdcCtl := {}
  loop : LoopCtl := {}
  agents : Agents := {}
  safe : Safety := {}
  tag : TagCtl := {}
  radio : Radio := {}
  time : TimeCtl := {}
  can : Can := {}
  lip : Lip := {}
  gal : Gallery := {}
  cap : CapCtl := {}
  gnss : Gnss := {}
  upd : Update := {}
  /-- The clamp report, newest first (R130). -/
  clamps : List Clamp := []
  deriving DecidableEq, Repr

end Sys2Proof.Machine
end

