-- ==== Sys2Proof/Machine/State.lean ====
section
/-! DEFINITION. The machine's state: the block and the queue of waiting commands, and its value after reset. -/

namespace Sys2Proof.Machine

/-- No command stops the machine: the spec gives every row of its table an effect. -/
inductive Fault where
  deriving DecidableEq, Repr

/-- Why a command is refused by the model. -/
inductive Refusal where
  /-- Raised by the dispatch for a command without a meaning yet; safe. -/
  | notModelled (mnemonic : String)
  deriving DecidableEq, Repr

/-- The state: the block, and the commands that wait, first in, first out. -/
structure State where
  blk : Block
  pending : List Instr
  deriving DecidableEq, Repr

/-- Right after reset (R58, R552 and the reset columns of the page references): every register at its reset
value, nothing listed in memory, no command waiting. -/
def State.reset : State := { blk := {}, pending := [] }

end Sys2Proof.Machine
end

