-- ==== Sys2Proof/Machine/Ops.lean ====
section
/-! DEFINITION. The named operations over the register file that every family uses: reading and writing a field,
interrupts, field time, events, verdicts, errors and requests for targeted tests. -/

namespace Sys2Proof.Machine

/-- Verdict codes: area number (Table LOG-4) and two digits, in the encoding of R467. -/
def Verdict.code (area n : Nat) : Nat := area * 4096 + n / 10 * 16 + n % 10

def Verdict.pd := Verdict.code 1
def Verdict.se := Verdict.code 2
def Verdict.gn := Verdict.code 3
def Verdict.bu := Verdict.code 4
def Verdict.ra := Verdict.code 5
def Verdict.up := Verdict.code 6
def Verdict.tg := Verdict.code 7
def Verdict.sf := Verdict.code 8
def Verdict.pw := Verdict.code 9
def Verdict.me := Verdict.code 10
def Verdict.lp := Verdict.code 11
def Verdict.ca := Verdict.code 12

/-- CRC-16 of R134: polynomial 0x1021, initial value 0xFFFF, no reflection. -/
def crc16Bit (c : Nat) : Nat := if 0x8000 ≤ c then (c * 2 % 0x10000) ^^^ 0x1021 else c * 2

def crc16Byte (c : Nat) (d : Byte) : Nat :=
  (List.range 8).foldl (fun c _ => crc16Bit c) (c ^^^ (d.toNat * 256))

def crc16 (bs : List Byte) : Nat := bs.foldl crc16Byte 0xFFFF

/-- CRC-32 (IEEE 802.3), check value 0xCBF43926. -/
def crc32Bit (c : Nat) : Nat := if c % 2 = 1 then (c / 2) ^^^ 0xEDB88320 else c / 2

def crc32Byte (c : Nat) (d : Byte) : Nat := (List.range 8).foldl (fun c _ => crc32Bit c) (c ^^^ d.toNat)

def crc32 (bs : List Byte) : Nat := bs.foldl crc32Byte 0xFFFFFFFF ^^^ 0xFFFFFFFF

/-- CRC-24Q of RTCM 3 frames (R246). -/
def crc24q (bs : List Byte) : Nat :=
  bs.foldl (fun c d => (List.range 8).foldl (fun c _ =>
    if 0x800000 ≤ c then (c * 2 % 0x1000000) ^^^ 0x864CFB else c * 2) (c ^^^ (d.toNat * 65536))) 0

/-- Field time `n` SYS cycles later (R9). -/
def ftPlus (ft n : Nat) : Nat :=
  (ft / 65536 + (ft % 65536 + n) / 16368) * 65536 + (ft % 65536 + n) % 16368

/-- The meaning of a command that goes on: its effect on the block, the queue untouched. -/
def State.run (s : State) (f : Block → Block) : Host.Outcome State Fault Refusal :=
  .next { s with blk := f s.blk }

namespace Block

/-- The value of a register field. -/
def rd (b : Block) (f : Fld) : Nat := b.regs.get f

/-- A one-bit field as a Boolean. -/
def is (b : Block) (f : Fld) : Bool := b.rd f != 0

/-- The value of a two's complement field (R4). -/
def rdI (b : Block) (f : Fld) : Int := signedOf f.width (b.rd f)

/-- A field set by the part, whatever its access code. -/
def wr (f : Fld) (v : Nat) (b : Block) : Block := { b with regs := b.regs.set f v }

def wrB (f : Fld) (v : Bool) (b : Block) : Block := b.wr f (bit v)

def wrI (f : Fld) (v : Int) (b : Block) : Block := b.wr f (unsignedOf f.width v)

/-- A count, saturating at the field's width. -/
def inc (f : Fld) (b : Block) : Block := b.wr f (min (2 ^ f.width - 1) (b.rd f + 1))

/-- `n` added to a count, saturating. -/
def add (f : Fld) (n : Nat) (b : Block) : Block := b.wr f (min (2 ^ f.width - 1) (b.rd f + n))

/-- A count that wraps at the field's width. -/
def incWrap (f : Fld) (b : Block) : Block := b.wr f (b.rd f + 1)

/-- Conditional effect. -/
def cond (c : Bool) (f : Block → Block) (b : Block) : Block := if c then f b else b

/-- An effect for each element of a list, in order. -/
def each {α : Type} (l : List α) (f : α → Block → Block) (b : Block) : Block := l.foldl (fun b a => f a b) b

/-- Bit `n` of a field set to `v`. -/
def wrBit (f : Fld) (n : Nat) (v : Bool) (b : Block) : Block :=
  b.wr f (if v then b.rd f ||| 2 ^ n else b.rd f - (if (b.rd f).testBit n then 2 ^ n else 0))

/-- Bit `n` of the page's `IRQ_RAW` raised (R122). -/
def irq (page n : Nat) (b : Block) : Block := b.wrBit (Reg.HDR.IRQ_RAW page) n true

def mode (b : Block) : Mode := .ofCode (b.rd Reg.SYS.MODE_CUR)

/-- The effective debug level (R103): 0 CLOSED, 1 READ, 2 FULL. -/
def level (b : Block) : Nat := b.rd Reg.DBG.LEVEL_EFF

/-- The lifecycle code in force (Table SEC-1). -/
def lifecycle (b : Block) : Nat := b.rd Reg.SEC.LC_STATE

def era (b : Block) : Nat := b.rd Reg.TIME.TSTAT_ERA

/-- Field time in drips (R9). -/
def ftDrips (b : Block) : Nat := b.ft / 65536

def drip (b : Block) : Nat := b.rd Reg.TICK.POS_DRIP
def pool (b : Block) : Nat := b.rd Reg.TICK.POS_POOL

/-- SYS and with it the tick run (Table MODE-1). -/
def powered (b : Block) : Bool := b.mode.powered

/-- Clock domain `n` runs, in the bit order of `CLK.STAT.RUN` (Table MODE-1). -/
def running (b : Block) (n : Nat) : Bool := (b.rd Reg.CLK.CSTAT_RUN).testBit n

/-- SYS cycle `c` of a drip as `TICK.CYC` shows it: in fallback timing it follows the 32 MHz cycle at the same time (R57). -/
def cycle (b : Block) (c : Nat) : Nat :=
  if b.is Reg.HDR.TICK_FALLBACK then c * 3200 / 16368 * 16368 / 3200 else c

/-- What field time gains in the first `c` cycles of a drip: half of them under a slew (R418). -/
def ftCycles (b : Block) (c : Nat) : Nat := if b.time.slew.isSome then c / 2 else c

/-- The drip has come to cycle `c` of Table TICK-1, and field time with it (R9, R32). -/
def phase (c : Nat) (b : Block) : Block :=
  let at_ := b.cycle c
  { b with ft := ftPlus b.ft (b.ftCycles at_ - b.ftCycles (b.rd Reg.TICK.CYC_CYC)) } |>.wr Reg.TICK.CYC_CYC at_

/-- Field time at cycle `c` of the drip: while SYS runs it follows `CYC`, at half rate under a slew (R9, R32, R418). -/
def ftAt (b : Block) (c : Nat) : Nat :=
  if b.powered then ftPlus 0 (b.ft / 65536 * 16368 + b.ft % 65536 + b.ftCycles c - b.ftCycles (b.rd Reg.TICK.CYC_CYC))
  else b.ft / 65536 * 65536 + c

/-- The drip edge itself. -/
def atEdge (b : Block) : Bool := b.rd Reg.TICK.CYC_CYC = 0

/-- The drip has not gone past cycle `c`. -/
def notPast (b : Block) (c : Nat) : Bool := b.rd Reg.TICK.CYC_CYC ≤ b.cycle c

/-- The page of a field's key. -/
def pageOfKey (k : Nat) : Nat := k / 32 / 0x400

/-- The clock domain of a page, in the bit order of `CLK.STAT.RUN`. -/
def domainOf (page : Nat) : Nat :=
  if 0x1C ≤ page ∧ page ≤ 0x1F then 1 else if page = 0x14 then 2 else if 0x15 ≤ page ∧ page ≤ 0x1B then 3
  else if page = 0x24 then 4 else if page = 0x26 ∨ page = 0x27 then 5 else if page = 0x28 ∨ page = 0x29 then 6 else 0

def domainOn (b : Block) (page : Nat) : Bool := b.running (domainOf page)

/-- A free value drawn: the next open value of `Config`, each used once (assumption 3, DESIGN CHOICE). -/
def draw (n : Nat) (b : Block) : Block := { b with free := b.free + n }

/-- A queued event goes behind `e`: one of the same SYS cycle and of a higher source (R469). -/
def eventAfter (e x : Event) : Bool := x.time == e.time && x.era == e.era && decide (e.source < x.source)

/-- A queue with one event more, those of one SYS cycle by ascending source (R469). -/
def insertEvent (l : List Event) (e : Event) : List Event := l.filter (fun x => !eventAfter e x) ++ e :: l.filter (eventAfter e)

/-- An event raised: queued, or kept in the AON buffer where SYS is off (R471, R472), or counted as lost. -/
def raise (e : Event) (b : Block) : Block :=
  let e := { e with time := b.ft, era := b.era }
  if b.powered then
    if b.log.queue.length < 16 then
      { b with log := { b.log with queue := insertEvent b.log.queue e } }
    else
      let b := { b with log := { b.log with lost := b.log.lost + 1 } }
      b |>.inc Reg.LOG.LOST_COUNT |>.irq 0x0B 2
  else if b.log.aon.length < 8 then
    { b with log := { b.log with aon := insertEvent b.log.aon { e with aon := true } } }
  else
    let b := { b with log := { b.log with lost := b.log.lost + 1 } }
    b.inc Reg.LOG.LOST_COUNT

/-- A SYSTEM record of Table LOG-2. -/
def sysEvent (code source arg0 arg1 : Nat) (b : Block) : Block :=
  b.raise { code, source, arg0 := arg0 % 2 ^ 32, arg1 := arg1 % 2 ^ 32,
            severity := if code = 4 then 3 else if code = 0x10 ∨ code = 0x12 then 2 else 0 }

/-- A VERDICT record (R558), for a verdict raised outside a test result. -/
def verdict (v source : Nat) (b : Block) (sev : Nat := 2) (arg0 arg1 : Nat := 0) : Block :=
  b.raise { code := 0x14, source, severity := sev, verdict := v, arg0 := arg0 % 2 ^ 32, arg1 := arg1 % 2 ^ 32 }

/-- Pages with a targeted test (Table ERR-1). -/
def hasTest (page : Nat) : Bool := !(page = 0x00 || page = 0x06 || page = 0x0C || page = 0x2E)

/-- PWM pages keep FLT errors (bits 0 and 1) to the FLT test (R487). -/
def isFlt (page bit : Nat) : Bool := 0x1C ≤ page && page ≤ 0x1F && bit < 2

/-- The narrower part that stands for every address of an ECC class (R490). -/
def eccAll : Nat := 2 ^ 32

/-- A class covers another: itself, or an ECC bit's every address. -/
def covers (l c : ErrClass) : Bool := l == c || (l.page == 0x0A && l == { c with sub := eccAll })

def isLasting (b : Block) (c : ErrClass) : Bool := b.test.lasting.any fun l => covers l.cls c

/-- A page holds a LASTING class. -/
def pageLasting (b : Block) (page : Nat) : Bool := b.test.lasting.any (·.cls.page == page)

/-- A page holds a class that is LASTING by FAIL (R492). -/
def pageFailed (b : Block) (page : Nat) : Bool := b.test.lasting.any fun l => l.cls.page == page && !l.esc

/-- Bit `n` of a pair of 32-bit page maps. -/
def wrPageBit (f : Nat → Fld) (n : Nat) (v : Bool) (b : Block) : Block := b.wrBit (f (n / 32)) (n % 32) v

/-- `STEST.PEND` and `RUN` show requests and running tests (R487); the page's `TEST_BUSY` follows. -/
def showTests (page : Nat) (b : Block) : Block :=
  b |>.wrPageBit Reg.STEST.PEND_PAGES page (b.test.pend.any (·.page == page))
    |>.wrPageBit Reg.STEST.RUN_PAGES page (b.test.running.any (·.page == page))
    |>.wrB (Reg.HDR.TEST_BUSY page) (b.test.running.any (·.page == page))

/-- A test request (R487, R506): a test of the page that is pending or running takes the class along. -/
def askTest (page bit sub : Nat) (b : Block) : Block :=
  let c : ErrClass := ⟨page, bit, sub⟩
  let flt := isFlt page bit
  let here (t : Test) : Bool := t.page == page && t.flt == flt
  let join (t : Test) : Test :=
    if here t then
      { t with raised := if t.raised.contains c then t.raised else t.raised ++ [c], spared := t.spared.filter (· != c) }
    else t
  let b := if b.test.running.any here then
      { b with test := { b.test with running := b.test.running.map join } }
    else if b.test.pend.any here then
      { b with test := { b.test with pend := b.test.pend.map join } }
    else
      { b with test := { b.test with pend := b.test.pend ++ [{ page, flt, bit, raised := [c] }] } }
  b.showTests page

/-- An error (R485, R486, R123): bit `n` of the page's `ERR` set, counted, recorded, and its test requested. -/
def err (page n : Nat) (b : Block) (arg1 : Nat := 0) (sub : Nat := 0) : Block :=
  let b := b |>.wrBit (Reg.HDR.ERR page) n true |>.inc (Reg.HDR.ERR_CNT page)
  let b := b.raise { code := 0x2000 + n, source := page, severity := 1, arg0 := b.rd (Reg.HDR.ERR page), arg1 }
  if hasTest page && !b.isLasting ⟨page, n, sub⟩ then b.askTest page n sub else b

/-- The result of a register read, frame or answer. -/
def answer (w : Nat) (b : Block) : Block := { b with resp := { word := w % 2 ^ 32 } }
def answerBytes (bs : List Byte) (b : Block) : Block := { b with resp := { bytes := bs } }
def answerErr (b : Block) : Block := { b with resp := { err := true } }

end Block
end Sys2Proof.Machine
end

