-- ==== Sys2Proof/Machine/Memory.lean ====
section
/-! DEFINITION. The address space (05_pages_blocking_calibration.md, 06_shared_memory_mailboxes.md): regions,
what an unlisted byte reads as, the SRAM code, the fences, and the accesses the part's own masters make. -/

namespace Sys2Proof.Machine

/-! Regions of Tables PAGE-1 and PAGE-2. -/

def inRange (lo size a : Nat) : Bool := lo ≤ a && a < lo + size

def isFlash (a : Nat) : Bool := inRange 0x10000000 0x400000 a
def isSram (a : Nat) : Bool := inRange 0x20000000 0x200000 a
def isTag (a : Nat) : Bool := inRange 0x30000000 0x800 a
def isOtp (a : Nat) : Bool := inRange 0x38000000 0x2000 a
def isRom (a : Nat) : Bool := a < 0x8000
def isPage (a : Nat) : Bool := inRange 0x40000000 0xC000 a
def isMapped (a : Nat) : Bool := isRom a || isFlash a || isSram a || isTag a || isOtp a || isPage a

def imageBase : Nat := 0x10010000
def stageBase : Nat := 0x10210000
def calBase : Nat := 0x10310000
def confBase : Nat := 0x10314000
def logBase : Nat := 0x10320000
def mapsBase : Nat := 0x10340000
def otpBase : Nat := 0x38000000
def tagBase : Nat := 0x30000000

/-- The bank of an SRAM address (R114). -/
def bankOf (a : Nat) : Nat := (a - 0x20000000) / 0x40000 % 8

/-- The fixed bytes of the NDEF message (R455). -/
def ndefHead : List Nat := [0x03, 0xFF, 0x03, 0x0A, 0xC1, 0x01, 0x00, 0x00, 0x03, 0x03, 0x54, 0x02, 0x65, 0x6E]

/-- What an unlisted byte of tag memory reads as: the constants of Table TAG-2, R455 and R457, blank card
lines, and 0 elsewhere (assumption 5). -/
def tagDefault (o : Nat) : Nat :=
  if o = 3 then 0x88 else if o = 0xC then 0xE1 else if o = 0xD then 0x10 else if o = 0xE then 0x62 else if o = 0xF then 0x0F
  else if 0x10 ≤ o ∧ o < 0x1E then ndefHead.getD (o - 0x10) 0
  else if 0x1E ≤ o ∧ o < 0x31E then (if (o - 0x1E) % 32 = 31 then 0x0A else 0x20)
  else if o = 0x31E then 0xFE
  else if o = 0x323 then 0xA5
  else 0

/-- What an unlisted byte reads as: erased flash (assumption 5), cleared SRAM (R555), unprogrammed OTP (R557). -/
def memDefault (a : Nat) : BitVec 8 :=
  if isFlash a then 0xFF else if isTag a then BitVec.ofNat 8 (tagDefault (a - tagBase)) else 0

/-- Private RAMs read 0 before they are loaded (assumption 5). -/
def ramDefault (_ : Nat) : BitVec 8 := 0

def Memory.wf (m : Memory) : Bool := Store.wf memDefault m

/-! SECDED of R554. -/

/-- The codeword bit at a position 1 to 38, as the index in a 39-bit difference: 0 to 31 data, 32 to 37 the
check bits c0 to c5, 38 the parity bit p. -/
def eccIndex (pos : Nat) : Nat :=
  if pos = 1 then 32 else if pos = 2 then 33 else if pos = 4 then 34 else if pos = 8 then 35
  else if pos = 16 then 36 else if pos = 32 then 37
  else if pos = 3 then 0 else if pos ≤ 7 then pos - 4 else if pos ≤ 15 then pos - 5
  else if pos ≤ 31 then pos - 6 else pos - 7

/-- `s` of R554: the exclusive or of the positions of all differing bits. -/
def eccS (m : BitVec 39) : Nat :=
  (List.range 38).foldl (fun s k => if m.getLsbD (eccIndex (k + 1)) then s ^^^ (k + 1) else s) 0

/-- `e` of R554: the parity of all 39 differing bits. -/
def eccE (m : BitVec 39) : Bool := (List.range 39).foldl (fun e k => e != m.getLsbD k) false

/-- What a read of a stored codeword finds (R554). -/
inductive EccVerdict where
  | good
  | single (s : Nat)
  | double
  deriving DecidableEq, Repr

def eccJudge (m : BitVec 39) : EccVerdict :=
  let s := eccS m
  if eccE m then (if s ≤ 38 then .single s else .double) else if s = 0 then .good else .double

/-- The difference left after the bit at position `s` is corrected; position 0 is the bit p. -/
def eccFix (m : BitVec 39) (s : Nat) : BitVec 39 :=
  m ^^^ (1#39 <<< (if s = 0 then 38 else eccIndex s))

/-- The data part of a difference. -/
def eccData (m : BitVec 39) : Nat := (m.toNat % 2 ^ 32)

/-- Pages an agent reaches (R18); the GNSS core and the RADIO core read TIME and do not write it. -/
def pageAllowed (a : Actor) (p : Nat) (write : Bool) : Bool :=
  match a with
  | .main | .debug | .loader => true
  | .gnss => (0x14 ≤ p && p ≤ 0x1B) || p = 0x09 || (p = 0x2D && !write)
  | .radio => p = 0x28 || p = 0x29 || p = 0x09 || (p = 0x2D && !write)
  | .loop | .host => false

/-- The source of a record that names an agent by its code (Table LOG-1); LOOP and HOST are named by their pages
(assumption 16, DEDUCED). -/
def codeSource (c : Nat) : Nat := [0x30, 0x31, 0x32, 0x20, 0x2B].getD c 0x30

def agentSource (a : Actor) : Nat := if a = .loader then 0x33 else codeSource a.code

/-- The acting agent of a ledger master (Table SRAM-2), by agent code; the flash controller, 10, and the recorder mirror,
11, act for MAIN. -/
def masterAgent (m : Nat) : Nat :=
  if m = 0 then 3 else if m = 2 ∨ m = 6 then 1 else if m = 7 then 2 else if m = 9 then 4 else 0

namespace Block

/-- The access is recorded (R19, R116) (assumption 16, DEDUCED). -/
def accessEvent (a : Actor) (what : Nat) (b : Block) : Block := b.sysEvent 0x0C (agentSource a) what a.code

/-- An access to a page by its reader or writer: one outside the set of the GNSS core or the RADIO core returns 0 and is
recorded (R18, R19). -/
def reach (a : Actor) (page : Nat) (write : Bool) (f : Block → Block) (b : Block) : Block :=
  if pageAllowed a page write then f b
  else if a = .loop ∨ a = .host then b
  else b |>.accessEvent a page |>.answer 0

/-- An engine's access outside the map of Table PAGE-1 (R116): recorded with the engine's agent. It completes without effect,
and a read of it returns 0; MAIN alone takes a fault (`faults`). -/
def outside (master a : Nat) (b : Block) : Block :=
  let agent := masterAgent master
  b.cond (!isMapped a) (·.sysEvent 0x0C (codeSource agent) a agent)

/-- An access of a master outside SRAM fails: MAIN's own outside the map (R116), and any to what SRAM's masters do not
reach. -/
def faults (master a : Nat) : Bool := master = 5 || isMapped a

def byte (b : Block) (a : Nat) : Byte := Store.find memDefault b.mem a

def setByte (a : Nat) (v : Byte) (b : Block) : Block := { b with mem := Store.put memDefault a v b.mem }

/-- `n` bytes from `a`, as stored. -/
def bytes (b : Block) (a n : Nat) : List Byte := (List.range n).map fun i => b.byte (a + i)

def setBytes (a : Nat) (bs : List Byte) (b : Block) : Block :=
  (bs.zipIdx).foldl (fun b (v, i) => b.setByte (a + i) v) b

/-- The little-endian value of `n` bytes at `a` (R3). -/
def val (b : Block) (a n : Nat) : Nat := leValue (b.bytes a n)

def setVal (a n v : Nat) (b : Block) : Block := b.setBytes a (leBytes n v)

/-- A range of flash erased (R146). -/
def eraseFlash (a n : Nat) (b : Block) : Block := { b with mem := b.mem.filter fun e => !inRange a n e.1 }

/-- A program changes bits only from 1 to 0 (R146). -/
def programFlash (a : Nat) (bs : List Byte) (b : Block) : Block :=
  (bs.zipIdx).foldl (fun b (v, i) => b.setByte (a + i) (b.byte (a + i) &&& v)) b

/-- A range left undefined (R149): each byte a free value (assumption 69, DEDUCED). -/
def scramble (a n : Nat) (b : Block) : Block :=
  let k := b.free
  (List.range n).foldl (fun b i => b.setByte (a + i) (Config.freeByte k i)) (b.draw (n / 4 + 1))

/-! Turns at the flash controller (R146). -/

/-- A free controller serves the next requester in the order of R146; `FLASH.OWNER` shows it. A rewrite of the calibration
set that begins leaves its count and the REWRITE flag in AON (R150). -/
def flashServe (b : Block) : Block :=
  if b.rd Reg.FLASH.OWNER_OWNER ≠ 0 then b
  else match [1, 2, 3].find? b.flash.waiting.contains, b.cal.job with
    | some r, _ => b.wr Reg.FLASH.OWNER_OWNER r
    | none, some img =>
      { b with cal := { b.cal with rewrite := true, count := some (leValue ((img.drop 8).take 4)) } }
        |>.wr Reg.FLASH.OWNER_OWNER 4
    | none, none => b.cond b.flash.op.isSome fun b => b |>.wr Reg.FLASH.RES_RES 2 |>.wr Reg.FLASH.OWNER_OWNER 5

/-- The operation that had the controller has ended. -/
def flashFree (b : Block) : Block := b |>.wr Reg.FLASH.OWNER_OWNER 0 |>.flashServe

/-- A requester of 1 to 3 waits no more. -/
def flashGiveUp (r : Nat) (b : Block) : Block :=
  let owner := b.rd Reg.FLASH.OWNER_OWNER
  { b with flash := { b.flash with waiting := b.flash.waiting.filter (· != r) } } |>.cond (owner = r) flashFree

/-- An operation of a requester of 1 to 3: done when the controller is free or has come to the requester, which otherwise
waits (assumption 140, DESIGN CHOICE). -/
def flashTurn (r : Nat) (f : Block → Block) (b : Block) : Block :=
  if b.rd Reg.FLASH.OWNER_OWNER = 0 then f b
  else if b.rd Reg.FLASH.OWNER_OWNER = r then (f b).flashGiveUp r
  else if b.flash.waiting.contains r then b
  else { b with flash := { b.flash with waiting := b.flash.waiting ++ [r] } }

/-- The requester that flash work belongs to, 5 for MAIN's own. -/
def dueOwner : FlashDue → Nat
  | .head | .open_ _ => 1
  | .flush | .found => 2
  | .clear => 3
  | .bind => 5

/-- Flash work of the part's own: done when the controller is free or has come to its requester, otherwise at a later drip
edge (assumption 159, DESIGN CHOICE). -/
def flashOwn (d : FlashDue) (f : Block → Block) (b : Block) : Block :=
  let r := dueOwner d
  let owner := b.rd Reg.FLASH.OWNER_OWNER
  if owner = 0 then f b
  else if owner = r && r != 5 then (f b).flashGiveUp r
  else
    { b with flash := { b.flash with
        due := b.flash.due.filter (· != d) ++ [d]
        waiting := if r = 5 || b.flash.waiting.contains r then b.flash.waiting else b.flash.waiting ++ [r] } }

/-- The work of requester `r` that has waited is done where its turn has come; what waits without a place in the row takes
one. -/
def flashDueOf (work : FlashDue → Block → Block) (r : Nat) (b : Block) : Block :=
  let mine := b.flash.due.filter (dueOwner · = r)
  let owner := b.rd Reg.FLASH.OWNER_OWNER
  if mine.isEmpty then b
  else if owner = 0 || (owner = r && r != 5) then
    { b with flash := { b.flash with due := b.flash.due.filter fun d => dueOwner d != r } } |>.each mine work
      |>.cond (r != 5) (flashGiveUp r)
  else if r = 5 || b.flash.waiting.contains r then b
  else { b with flash := { b.flash with waiting := b.flash.waiting ++ [r] } }

/-! Fences (R159 to R162). -/

/-- Permission bits of an agent in a region's `PERM` word: R, W, X. -/
def permOf (perm agent : Nat) : Nat :=
  if agent = 0 then bitsOf 6 4 perm else if agent = 1 then bitsOf 10 8 perm
  else if agent = 2 then bitsOf 14 12 perm else if agent = 3 then bitsOf 17 16 perm else bitsOf 21 20 perm

/-- The lowest-numbered enabled region in force that contains the address. -/
def regionOf (a : Nat) : List (Nat × Nat × Nat) → Nat → Option (Nat × Nat)
  | [], _ => none
  | (base, limit, perm) :: t, i =>
    if perm % 2 = 1 ∧ base ≤ a ∧ a ≤ limit then some (i, perm) else regionOf a t (i + 1)

/-- Whether an access of `agent` (by code) to SRAM address `a` is allowed (R159); `kind` 0 read, 1 write,
2 execute. -/
def allowed (b : Block) (agent a kind : Nat) : Bool :=
  match regionOf a b.sram.rules 0 with
  | some (_, perm) => (permOf perm agent).testBit kind
  | none => agent = 0 && (kind < 2 || b.sram.bg = 1)

/-- Every 32-byte granule of a range lies in SRAM and is allowed (assumption 75, DEDUCED). -/
def allowedRange (b : Block) (agent a n kind : Nat) : Bool :=
  n = 0 || (isSram a && isSram (a + n - 1) &&
    (List.range ((a + n - 1) / 32 - a / 32 + 1)).all fun k => b.allowed agent ((a / 32 + k) * 32) kind)

/-- A denied access (R162): signalled, logged, recorded, and the FENCE test requested. -/
def violation (master a kind : Nat) (b : Block) : Block :=
  let agent := masterAgent master
  let r := regionOf a b.sram.rules 0
  b |>.wr Reg.FENCE.VIOL_ADDR_ADDR a |>.wr Reg.FENCE.VIOL_INFO_MASTER master
    |>.wr Reg.FENCE.VIOL_INFO_AGENT agent |>.wr Reg.FENCE.VIOL_INFO_TYPE kind
    |>.wr Reg.FENCE.VIOL_INFO_REGION (match r with | some (i, _) => i | none => 0x1F)
    |>.wrB Reg.FENCE.VIOL_INFO_BG r.isNone
    |>.irq 0x07 0 |>.err 0x07 0 (sub := agent)

/-- One granted beat: a credit of the master used if it has any (R164), and no request of it waits (R167). -/
def beat (master bank : Nat) (b : Block) : Block :=
  let k := master * 8 + bank
  let c := Store.find (fun _ => 0) b.sram.credit k
  let g := Store.find (fun _ => 0) b.sram.granted k
  { b with sram := { b.sram with
      credit := Store.put (fun _ => 0) k (c - 1) b.sram.credit
      granted := Store.put (fun _ => 0) k (g + 1) b.sram.granted
      wanted := Store.put (fun _ => 0) k 0 b.sram.wanted } }

/-- The beat of an ECC write-back, charged to the lowest-priority master other than LOOP that still holds credit
in the bank (R167). -/
def charge (bank : Nat) (b : Block) : Block :=
  let holders := ((List.range 10).reverse.filter fun m =>
    m != 0 && Store.find (fun _ => 0) b.sram.credit (m * 8 + bank) != 0)
  match holders with
  | [] => b
  | m :: _ =>
    let k := m * 8 + bank
    { b with sram := { b.sram with
        credit := Store.put (fun _ => 0) k (Store.find (fun _ => 0) b.sram.credit k - 1) b.sram.credit } }

/-! The stored word and its code (R156, R554). -/

def flipOf (b : Block) (a : Nat) : BitVec 39 := Store.find (fun _ => 0#39) b.flips (a / 4)

def setFlip (a : Nat) (m : BitVec 39) (b : Block) : Block :=
  { b with flips := Store.put (fun _ => 0#39) (a / 4) m b.flips }

/-- The single-bit log (R156). -/
def logSbe (master a s : Nat) (b : Block) : Block :=
  b |>.wr Reg.ECC.SBE_ADDR_ADDR a |>.wr Reg.ECC.SBE_INFO_SYNDROME (s + 64) |>.wr Reg.ECC.SBE_INFO_BANK (bankOf a)
    |>.wr Reg.ECC.SBE_INFO_MASTER master |>.inc Reg.ECC.COUNT_SBE |>.irq 0x0A 0 |>.err 0x0A 0 (sub := a)

def logDed (a : Nat) (b : Block) : Block :=
  b |>.wr Reg.ECC.DED_ADDR_ADDR a |>.inc Reg.ECC.COUNT_DED |>.irq 0x0A 1 |>.err 0x0A 1 (sub := a)

/-- A read of the SRAM word at word-aligned `a` (R156): the corrected word, or none after a double-bit error. -/
def readWord (master a : Nat) (b : Block) : Block × Option Nat :=
  let m := b.flipOf a
  let raw := b.val a 4
  match eccJudge m with
  | .good => (b, some (raw ^^^ eccData m))
  | .single s =>
    let v := raw ^^^ eccData (eccFix m s)
    (b |>.setVal a 4 v |>.setFlip a 0 |>.charge (bankOf a) |>.logSbe master a s, some v)
  | .double => (b.logDed a, none)

/-- A whole word written: good check bits, but for a pending injection on this word (ECC INJ). -/
def writeWord (a v : Nat) (b : Block) : Block :=
  let b := b.setVal a 4 v
  match b.sram.inject with
  | some (w, mask) =>
    if w = a / 4 then
      { b.setFlip a (BitVec.ofNat 39 mask) with sram := { b.sram with inject := none } }
    else b.setFlip a 0
  | none => b.setFlip a 0

/-- A byte or a half-word written through a read-modify-write of its word (R154); a double-bit error drops the write and is
signalled (R156). -/
def writePart (master a : Nat) (bs : List Byte) (b : Block) : Block × Bool :=
  let w := a / 4 * 4
  match b.readWord master w with
  | (b, none) => (b, false)
  | (b, some x) =>
    let old := leBytes 4 x
    ((b.beat master (bankOf a)).writeWord w (leValue (old.take (a - w) ++ bs ++ old.drop (a - w + bs.length))), true)

/-- One word of a fetch: none once a word is denied or lost. A denied access has used its beat (assumption 131, DESIGN
CHOICE). -/
def fetchWord (master : Nat) (fenced : Bool) (w0 : Nat) (acc : Block × Option (List Byte)) (k : Nat) :
    Block × Option (List Byte) :=
  match acc with
  | (b, none) => (b, none)
  | (b, some bs) =>
    let w := (w0 + k) * 4
    if !isSram w then (b.outside master w, if faults master w then none else some (bs ++ leBytes 4 0))
    else
      let b := b.beat master (bankOf w)
      if !fenced || b.allowed (masterAgent master) w 0 then
        match b.readWord master w with
        | (b, none) => (b, none)
        | (b, some v) => (b, some (bs ++ leBytes 4 v))
      else (b.violation master w 0, none)

/-- A word read with its beat, 0 if it is lost. -/
def fetchWordAt (master w : Nat) (b : Block) : Block × Nat :=
  if !isSram w then (b.outside master w, 0)
  else match (b.beat master (bankOf w)).readWord master w with
    | (b, some v) => (b, v)
    | (b, none) => (b, 0)

/-- `n` bytes fetched from SRAM by a master, word by word under the fences (R155): none if any word is denied or
lost. -/
def fetch (master a n : Nat) (b : Block) (fenced : Bool := true) : Block × Option (List Byte) :=
  let w0 := a / 4
  let words := if n = 0 then 0 else (a + n - 1) / 4 - w0 + 1
  match (List.range words).foldl (fetchWord master fenced w0) (b, some []) with
  | (b, some bs) => (b, some ((bs.drop (a - w0 * 4)).take n))
  | (b, none) => (b, none)

/-- `n` bytes read from SRAM word by word, a lost word as 0 (R156), by a reader that the fences do not stop: the flash
controller and the recorder mirror (assumption 135, DEDUCED). -/
def readRange (master a n : Nat) (b : Block) : Block × List Byte :=
  let w0 := a / 4
  let words := if n = 0 then 0 else (a + n - 1) / 4 - w0 + 1
  let one (acc : Block × List Byte) (k : Nat) : Block × List Byte :=
    match acc.1.fetchWordAt master ((w0 + k) * 4) with
    | (b, v) => (b, acc.2 ++ leBytes 4 v)
  match (List.range words).foldl one (b, []) with
  | (b, bs) => (b, (bs.drop (a - w0 * 4)).take n)

/-- One byte of a store, or the whole word or half-word that it begins; false once a word is denied or lost. -/
def storeByte (master : Nat) (fenced : Bool) (a : Nat) (bs : List Byte) (acc : Block × Bool) (e : Byte × Nat) : Block × Bool :=
  match acc with
  | (b, false) => (b, false)
  | (b, true) =>
    let x := a + e.2
    let begun (n : Nat) : Bool := x % n != 0 && a ≤ x - x % n && x - x % n + n ≤ a + bs.length
    if begun 4 || begun 2 then (b, true)
    else if !isSram x then (b.outside master x, !faults master x)
    else
      let b := b.beat master (bankOf x)
      if !fenced || b.allowed (masterAgent master) x 1 then
        if x % 4 = 0 ∧ e.2 + 4 ≤ bs.length then (b.writeWord x (leValue ((bs.drop e.2).take 4)), true)
        else b.writePart master x ((bs.drop e.2).take (if x % 2 = 0 ∧ e.2 + 2 ≤ bs.length then 2 else 1))
      else (b.violation master x 1, false)

/-- Bytes stored to SRAM by a master; false when a word is denied or lost, and the rest is then not
stored (R163). With
`fenced` false the rules are not asked (R183). -/
def store (master a : Nat) (bs : List Byte) (b : Block) (fenced : Bool := true) : Block × Bool :=
  bs.zipIdx.foldl (storeByte master fenced a bs) (b, true)

/-- The SRAM banks cleared to 0 with good check bits (R555) (assumption 39, DEDUCED). -/
def clearBanks (banks : List Nat) (b : Block) : Block :=
  { b with
    mem := b.mem.filter fun e => !(isSram e.1 && banks.contains (bankOf e.1))
    flips := b.flips.filter fun e => !banks.contains (bankOf (e.1 * 4)) }

end Block
end Sys2Proof.Machine
end

