-- ==== Sys2Proof/Machine/Mailbox.lean ====
section
/-! DEFINITION. Mailboxes (R169 to R174, R182, R186). -/

namespace Sys2Proof.Machine
namespace Block

/-- The receiver, by agent code, is known to be off (R172, R179). -/
def receiverOff (b : Block) (agent : Nat) : Bool :=
  if agent = 0 then b.is Reg.DBG.HALT_MAIN
  else if agent = 1 then !b.agents.gnss || !b.running 3
  else if agent = 2 then !b.agents.radio || !b.running 6
  else if agent = 4 then !b.is Reg.HOST.HSTAT_ALIVE
  else false

def mbxSender (b : Block) (n : Nat) : Nat := b.rd (Reg.MBX.CFG_SENDER n)
def mbxReceiver (b : Block) (n : Nat) : Nat := b.rd (Reg.MBX.CFG_RECEIVER n)

/-- TMO, COLL and DROP reach MAIN's page line only where MAIN is sender or receiver (Table MBX-2). -/
def mbxMain (b : Block) (n : Nat) : Bool := b.mbxSender n = 0 || b.mbxReceiver n = 0

def heldNotice (b : Block) (n : Nat) : Option Notice := (b.mbx.getD n none)

/-- The mailbox holds `v` and its registers show it (R170). -/
def hold (n : Nat) (v : Option Notice) (b : Block) : Block :=
  let b := { b with mbx := b.mbx.set n v }
  match v with
  | some x =>
    b |>.wr (Reg.MBX.MSTAT_FULL n) 1 |>.wr (Reg.MBX.RX_PTR_PTR n) x.ptr |>.wr (Reg.MBX.RX_HDR_LEN n) x.len
      |>.wr (Reg.MBX.RX_HDR_TAG n) x.tag |>.wr (Reg.MBX.RX_HDR_SENDER n) x.sender
  | none =>
    b |>.wr (Reg.MBX.MSTAT_FULL n) 0 |>.wr (Reg.MBX.RX_PTR_PTR n) 0 |>.wr (Reg.MBX.RX_HDR_LEN n) 0
      |>.wr (Reg.MBX.RX_HDR_TAG n) 0 |>.wr (Reg.MBX.RX_HDR_SENDER n) 0

/-- A notice discarded because its receiver is off (R172). -/
def mbxDrop (n : Nat) (b : Block) : Block :=
  b |>.hold n none |>.wr (Reg.MBX.MSTAT_TMO n) 1 |>.wr (Reg.MBX.MSTAT_DROP n) 1
    |>.cond (b.mbxMain n) (·.irq 0x09 n)

/-- A post becomes visible to the receiver (R170 to R172) (assumption 71, DEDUCED). -/
def postNow (n sender ptr len tag : Nat) (b : Block) : Block :=
  if b.receiverOff (b.mbxReceiver n) then b.mbxDrop n
  else
    let full := b.is (Reg.MBX.MSTAT_FULL n)
    b |>.hold n (some { ptr := ptr / 4 * 4, len, tag, sender, posted := b.edges })
      |>.cond full (·.wr (Reg.MBX.MSTAT_COLL n) 1)
      |>.cond (full && b.mbxMain n) (·.irq 0x09 (16 + n))

/-- A master's writes are under way: a write burst has beats to come, or a write has been put off. -/
def writing (b : Block) (m : Nat) : Bool :=
  b.sram.bursts.any (fun (x : Nat × Nat × Nat × Nat) => x.1 == m && x.2.2.1 == 1)
    || (List.range 8).any fun k => Store.find (fun _ => 0) b.sram.wanted (m * 8 + k) == 2

/-- A post by the agent with code `sender`: visible once the writes that it issued before have completed (R170). -/
def mbxPost (n sender ptr len tag : Nat) (b : Block) : Block :=
  if b.mbxSender n ≠ sender then b.err 0x09 0
  else
    match (List.range 10).filter fun m => masterAgent m = sender && b.writing m with
    | [] => b.postNow n sender ptr len tag
    | waits => { b with sram := { b.sram with posts := b.sram.posts ++ [{ mbx := Fin.ofNat 16 n, sender, ptr, len, tag, waits }] } }

/-- Posts whose sender's writes have completed (R170). -/
def postsDue (b : Block) : Block :=
  let wait (p : Post) : Bool := p.waits.any b.writing
  { b with sram := { b.sram with posts := b.sram.posts.filter wait } }
    |>.each (b.sram.posts.filter fun p => !wait p) fun p => postNow p.mbx p.sender p.ptr p.len p.tag

/-- `RX_OFF` of every mailbox shows its receiver, and a notice toward a receiver that is off is discarded
(R172). -/
def mbxSweep (b : Block) : Block :=
  b.each (List.range 16) fun n b =>
    let off := b.receiverOff (b.mbxReceiver n)
    b |>.wrB (Reg.MBX.MSTAT_RX_OFF n) off |>.cond (off && (b.heldNotice n).isSome) (·.mbxDrop n)

/-- Every held notice, and every post that waits, discarded without TMO or DROP (R186). -/
def mbxClear (b : Block) : Block :=
  { b with sram := { b.sram with posts := [] } } |>.each (List.range 16) fun n => hold n none

end Block

/-- The MBX page serves: SYS runs, the debug port reads it from READ and writes it at FULL (R170, Table DBG-1), and LOOP and
HOST reach no page (R18): LOOP posts by its datapath, HOST by MBX_SEND. -/
def Block.mbxServes (b : Block) (actor : Actor) (write : Bool) : Bool :=
  b.powered && pageAllowed actor 0x09 write && (actor != .debug || (if write then 2 else 1) ≤ b.level)

/-- MBX_POST (R170): `actor` writes `TX_HDR` of mailbox `n`; `TX_PTR` holds the pointer. -/
def execMbxPost (actor : Actor) (n : Fin 16) (hdr : Word) (s : State) : Host.Outcome State Fault Refusal :=
  s.run fun b => b.cond (b.mbxServes actor true)
    (·.mbxPost n actor.code (b.rd (Reg.MBX.TX_PTR_PTR n)) (bitsOf 15 0 hdr.toNat) (bitsOf 23 16 hdr.toNat))

/-- RX_HDR_TAKE (R170, R182): a read of `RX_HDR`; only the configured receiver's own read takes the notice
(assumption 70, DEDUCED). -/
def Block.rxHdrTake (actor : Actor) (n : Nat) (b : Block) : Block :=
  let w := b.rd (Reg.MBX.RX_HDR_LEN n) + b.rd (Reg.MBX.RX_HDR_TAG n) * 0x10000
    + b.rd (Reg.MBX.RX_HDR_SENDER n) * 0x1000000
  b.cond (b.mbxServes actor false) fun b => b |>.answer w |>.cond (actor != .debug && actor.code = b.mbxReceiver n) (Block.hold n none)

def execRxHdrTake (actor : Actor) (n : Fin 16) (s : State) : Host.Outcome State Fault Refusal :=
  s.run (Block.rxHdrTake actor n)

/-- MBX_TIMEOUT (R173): `CFG.TMO` drip edges have passed since the post of a notice that is still held. -/
def execMbxTimeout (n : Fin 16) (s : State) : Host.Outcome State Fault Refusal :=
  s.run fun b =>
    match b.heldNotice n with
    | some x =>
      if x.timed ∨ b.edges < x.posted + b.rd (Reg.MBX.CFG_TMO n) ∨ b.receiverOff (b.mbxReceiver n) then b
      else
        { b with mbx := b.mbx.set n (some { x with timed := true }) }
          |>.wr (Reg.MBX.MSTAT_TMO n) 1 |>.cond (b.mbxMain n) (·.irq 0x09 n)
    | none => b

/-- MBX_RECEIVER_OFF (R172): the receiver of mailbox `n` is off while a notice is held. -/
def execMbxReceiverOff (n : Fin 16) (s : State) : Host.Outcome State Fault Refusal :=
  s.run fun b =>
    if b.receiverOff (b.mbxReceiver n) then
      b |>.wr (Reg.MBX.MSTAT_RX_OFF n) 1 |>.cond (b.heldNotice n).isSome (Block.mbxDrop n)
    else b

end Sys2Proof.Machine
end

