-- ==== Sys2Proof/Machine/Pwm.lean ====
section
/-! DEFINITION. The pump drive (09_pump_drive_pwm.md): frequencies and transfers, forcing and release, fault
latches, dead time, bootstrap refresh, commutation and the counter's events. -/

namespace Sys2Proof.Machine

def pwmPage (m : Nat) : Nat := 0x1C + m

/-- Legs of each module (Table PWM-1); AUX modules have one single output. -/
def pwmLegs (m : Nat) : Nat := if m = 0 then 3 else if m = 1 then 2 else 0

/-- Duty registers of each module: its legs, or its single output. -/
def pwmDuties (m : Nat) : Nat := if m = 0 then 3 else if m = 1 then 2 else 1

/-- The nearest member of the tick-locked set, the lower on a tie (R36, R263). -/
def lockedFreq (f : Nat) : Nat :=
  if f ≤ 300 then 200 else if f ≤ 500 then 400 else if f ≤ 700 then 600 else 800

/-- R263: the period in PWM cycles at `f` × 100 Hz. -/
def pwmPeriod (f : Nat) : Nat := 2 * ((327360000 + f * 100) / (2 * (f * 100)))

/-- R265: the reference on-time in taps. -/
def onTime (duty per : Nat) : Nat := (min duty 0x100000 * per * 32 + 0x80000) / 0x100000

/-- R265: the reference's rising and falling edge, in taps from the zero event: the on-time is centred on the period event,
and an odd tap goes to the falling edge. -/
def refEdges (on per : Nat) : Nat × Nat := (per * 16 - on / 2, per * 16 + (on + 1) / 2)

/-- R276: the switches of a leg, high and low, at `t` taps from the zero event of a period of `total` taps: each comes on
with its dead time after the reference's edge, and a pulse or gap shorter than that gives none. -/
def legSwitches (edges : Nat × Nat) (total rise fall t : Nat) : Bool × Bool :=
  let on := edges.2 - edges.1
  let off := (t + total - edges.2) % max 1 total
  (on = total || (edges.1 + rise ≤ t && t < edges.2), on = 0 || (fall ≤ off && off < total - on))

namespace Block

def pwm (b : Block) (m : Nat) : PwmMod := b.drive.mods.getD m {}

def setPwm (m : Nat) (f : PwmMod → PwmMod) (b : Block) : Block :=
  { b with drive := { b.drive with mods := b.drive.mods.modify m f } }

/-- The shadow frequency at its effective value (R128, R264). -/
def pwmFreq (b : Block) (m : Nat) : Nat :=
  let f := b.rd (Reg.PWM.FREQ_F m)
  if b.is (Reg.PWM.CFG_TLOCK m) then lockedFreq f else f

/-- A STOP or FOLD safe action is in force (R499). -/
def safeActing (b : Block) : Bool := b.is (Reg.SAFE.PSTAT_ACT 0) || b.is (Reg.SAFE.PSTAT_ACT 1)

/-- A source of Table PWM-2 forces module `m`. -/
def pwmSource (b : Block) (m : Nat) : Bool :=
  b.is (Reg.HDR.PWM_FLT_LAT m 0) || b.is (Reg.HDR.PWM_FLT_LAT m 1)
  || (m < 2 && b.safeActing)
  || !(b.mode == .pump || b.mode == .field || b.mode == .service)
  || b.is Reg.DBG.HALT_MAIN || b.drive.clockLoss || b.drive.mainReset || b.upd.paused
  || b.md.leaving.any (fun l => !l.atEdge) || b.drive.svcHold.getD m false
  || (b.is Reg.HDR.TICK_FROZEN && b.is (Reg.PWM.CFG_TLOCK m))
  || b.is (Reg.HDR.FREEZE (pwmPage m)) || !b.is (Reg.HDR.EN (pwmPage m))
  || (m = 0 && (b.rd (Reg.HDR.ERR 0x1C)).testBit 5)

/-- Every module with a forcing source goes to its safe levels and stays there (R271, R272); `STOP` shows a safe
action. -/
def pwmForce (b : Block) : Block :=
  b.each (List.range 4) fun m b =>
    b |>.cond (b.pwmSource m) (·.wr (Reg.HDR.PWM_FORCED m) 1)
      |>.wrB (Reg.HDR.PWM_STOP m) (m < 2 && b.safeActing)
      |>.wrB (Reg.HDR.PWM_RUN m) (b.is (Reg.HDR.EN (pwmPage m)) && !b.is (Reg.HDR.FREEZE (pwmPage m)))

/-- `DT_MAX` in effect (R128, R277). -/
def dtMax (b : Block) (m : Nat) : Nat := max (b.rd (Reg.PWM.DT_DT_MIN m)) (b.rd (Reg.PWM.DT_DT_MAX m))

/-- Every leg's dead time restarts at `DT_MAX`, when a stopped counter restarts and when the outputs leave their safe levels
(R272, R276) (assumption 144, DEDUCED). -/
def dtRestart (m : Nat) (b : Block) : Block :=
  let t := b.dtMax m * 32
  let b := b |>.setPwm m (fun p => { p with
      rise := [t, t, t], fall := [t, t, t], inBand := [0, 0, 0], periods := [0, 0, 0], noOff := [0, 0, 0], refresh := [] })
    |>.wr (Reg.PWM.CNT_CNT m) 0 |>.wr (Reg.PWM.CNT_DOWN m) 0
  b.each (List.range (pwmLegs m)) fun l b =>
    b |>.wr (Reg.PWM.DT_STAT_RISE m l) (t / 32) |>.wr (Reg.PWM.DT_STAT_FALL m l) (t / 32)
      |>.wr (Reg.PWM.DT_STAT_CONV m l) 0 |>.wr (Reg.PWM.DT_STAT_SLOW m l) 0

/-- A counter that was stopped restarts at zero (R272): a tick-locked module's at the next drip edge, any other at once. -/
def counterRestart (m : Nat) (b : Block) : Block :=
  b |>.setPwm m (fun p => { p with startAt := if b.is (Reg.PWM.CFG_TLOCK m) then b.now + 1 else 0 }) |>.dtRestart m

/-- With `ADAPT` 0 both dead times of every leg stand at `DT_MAX` (R277). -/
def dtHold (m : Nat) (b : Block) : Block :=
  let t := b.dtMax m * 32
  b.cond (!b.is (Reg.PWM.DTCFG_ADAPT m)) fun b =>
    b |>.setPwm m (fun p => { p with rise := [t, t, t], fall := [t, t, t] })
      |>.each (List.range (pwmLegs m)) fun l b =>
        b |>.wr (Reg.PWM.DT_STAT_RISE m l) (t / 32) |>.wr (Reg.PWM.DT_STAT_FALL m l) (t / 32)

/-- A request for a transfer (R267): a tick-locked module's falls due at cycle 8,184 of this drip, or of the next
when that moment has come. -/
def loadAll (m : Nat) (b : Block) : Block :=
  let from_ := if b.rd Reg.TICK.CYC_CYC < b.cycle 8184 then b.now else b.now + 1
  if b.is (Reg.HDR.PWM_LD_PEND m) then b
  else b |>.wr (Reg.HDR.PWM_LD_PEND m) 1 |>.setPwm m fun p => { p with ldFrom := from_ }

/-- MAIN commands the module in SERVICE (R59): the hold from the entry into the mode ends. -/
def svcCommand (m : Nat) (b : Block) : Block :=
  { b with drive := { b.drive with svcHold := b.drive.svcHold.set m false } }

/-- MAIN's own request for a transfer. -/
def loadCommand (m : Nat) (b : Block) : Block := b |>.svcCommand m |>.loadAll m

/-- The PWM domain runs (Table MODE-1) and the module counts, a tick-locked one from the drip edge after it was stopped
(R272). -/
def pwmCounts (b : Block) (m : Nat) : Bool :=
  b.running 1 && b.is (Reg.HDR.EN (pwmPage m)) && !b.is (Reg.HDR.FREEZE (pwmPage m)) && (b.pwm m).startAt ≤ b.now

/-- The transfer point of a tick-locked module is cycle 8,184 of the drip (R36). -/
def transferDue (b : Block) (m : Nat) : Bool :=
  b.is (Reg.HDR.PWM_LD_PEND m) && b.pwmCounts m
    && (!b.is (Reg.PWM.CFG_TLOCK m) ||
      (!b.is Reg.HDR.TICK_FROZEN && (b.pwm m).ldFrom ≤ b.now && b.notPast 8184))

/-- The leg's state in the current commutation step (R281): 0 OFF, 1 PWM, 2 LOW. -/
def commLeg (b : Block) (l : Nat) : Nat :=
  let step := match b.rd (Reg.PWM.COMM_STAT_STEP 0) with
    | 0 => b.rd (Reg.PWM.COMM_TAB0_STEP0 0)
    | 1 => b.rd (Reg.PWM.COMM_TAB0_STEP1 0)
    | 2 => b.rd (Reg.PWM.COMM_TAB0_STEP2 0)
    | 3 => b.rd (Reg.PWM.COMM_TAB1_STEP3 0)
    | 4 => b.rd (Reg.PWM.COMM_TAB1_STEP4 0)
    | _ => b.rd (Reg.PWM.COMM_TAB1_STEP5 0)
  step / 4 ^ l % 4

/-- What the commutation mask makes of a leg: with the mask off, its reference drives it. -/
def commState (b : Block) (l : Nat) : Nat := if b.is (Reg.HDR.PWM_COMM_ON 0) then b.commLeg l else 1

/-- Taps of the module's counter from its zero event, as its last event left it. -/
def pwmTaps (b : Block) (m : Nat) : Nat :=
  let per := b.rd (Reg.PWM.PER_PER m)
  let c := b.rd (Reg.PWM.CNT_CNT m)
  (if b.is (Reg.PWM.CNT_DOWN m) then per - c else c) * 32

/-- After a change of the mask, by which the legs stood as in `old`: the dead times of the legs that turn on start
(R282) (assumption 163, DEDUCED). -/
def legsTurn (old : List Nat) (b : Block) : Block :=
  let ls := (List.range 3).filter fun l => b.commState l != 0 && b.commState l != old.getD l 0
  { b with drive := { b.drive with
      turned := (b.drive.turned.filter fun t => !ls.contains t.1) ++ ls.map fun l => (l, b.pwmTaps 0) } }

/-- A change of the mask. -/
def remask (f : Block → Block) (b : Block) : Block := (f b).legsTurn ((List.range 3).map b.commState)

/-- The transfer (R267, R268, R270, R284, R290 to R292): shadow values become active together, and the outputs
are released when nothing forces them (R272). -/
def transfer (m : Nat) (b : Block) : Block :=
  if b.transferDue m then
    let per := pwmPeriod (b.pwmFreq m)
    let b := b.cond (b.is (Reg.PWM.CFG_TLOCK m)) (phase 8184)
    let old := onTime ((b.pwm m).duty.getD 1 0) (b.rd (Reg.PWM.PER_PER m))
    let pulse := (old / 2, (onTime (b.rd (Reg.PWM.DUTY_DUTY m 1)) per + 1) / 2)
    let b := b.cond (m = 1) fun b => { b with drive := { b.drive with bbPulse := some pulse } }
    let b := b.setPwm m fun p => { p with
      freq := b.pwmFreq m
      duty := [b.rd (Reg.PWM.DUTY_DUTY m 0), b.rd (Reg.PWM.DUTY_DUTY m 1), b.rd (Reg.PWM.DUTY_DUTY m 2)]
      cmpA := b.rd (Reg.PWM.CMPA_CMP m), cmpB := b.rd (Reg.PWM.CMPB_CMP m) }
    let b := b |>.wr (Reg.PWM.PER_PER m) per |>.wr (Reg.HDR.PWM_LD_PEND m) 0
      |>.wr (Reg.PWM.CNT_CNT m) 0 |>.wr (Reg.PWM.CNT_DOWN m) 0
    let b := if m = 0 ∧ b.drive.commOff then
        { b with drive := { b.drive with commOff := false } }.remask (wr (Reg.HDR.PWM_COMM_ON 0) 0)
      else b
    if b.pwmSource m then b
    else if b.is (Reg.HDR.PWM_FORCED m) then b |>.wr (Reg.HDR.PWM_FORCED m) 0 |>.dtRestart m
    else b
  else b

/-- A fault latched in module `m` (R273). -/
def faultLatch (input m : Nat) (b : Block) : Block :=
  { b with drive := { b.drive with latched := b.drive.latched.set m true } }
    |>.wr (Reg.HDR.PWM_FLT_LAT m input) 1 |>.irq (pwmPage m) 4 |>.err (pwmPage m) input |>.pwmForce

def fltEnabled (b : Block) (m input : Nat) : Bool :=
  if input = 0 then b.is (Reg.PWM.CFG_FLT0_EN m) else b.is (Reg.PWM.CFG_FLT1_EN m)

/-- The active level of the input in module `m`: 0 low, 1 high. -/
def fltActive (b : Block) (m input : Nat) (level : Bool) : Bool :=
  level == (if input = 0 then b.is (Reg.PWM.CFG_FLT0_POL m) else b.is (Reg.PWM.CFG_FLT1_POL m))

/-- A pulse of `ns` nanoseconds at `level` on a fault ball, which then stays there or returns (R273). Between 5 and
20 ns a free value decides. -/
def faultInput (input : Nat) (level : Bool) (ns : Nat) (stays : Bool) (b : Block) : Block :=
  let latches := 20 ≤ ns || (5 ≤ ns && (Config.freeWord b.free).getLsbD 0)
  let b := b.cond (5 ≤ ns && ns < 20) (·.draw 1)
  let b := { b with drive := { b.drive with flt := b.drive.flt.set input (if stays then level else !level) } }
  if latches then
    b.each (List.range 4) fun m b =>
      b.cond (b.fltEnabled m input && b.fltActive m input level) (·.faultLatch input m)
  else b

/-- A write of 1 to `FLTCLR.CLRn` (R273, R492). -/
def faultClear (m input : Nat) (b : Block) : Block :=
  if b.fltActive m input (b.drive.flt.getD input true) || b.isLasting ⟨pwmPage m, input, 0⟩ then b.err (pwmPage m) 2
  else b.wr (Reg.HDR.PWM_FLT_LAT m input) 0

/-- One transition's dead time moved (R278): measured time and dead time in taps, `none` for no crossing. The new
dead time, whether it is slow, and whether it lies within one PWM cycle of its target. -/
def dtMove (lo hi margin dt : Nat) (m : Option Nat) : Nat × Bool × Bool :=
  let target := match m with
    | some t => if t ≤ dt then min hi (max lo (t + margin)) else lo
    | none => lo
  let slow := match m with
    | some t => t ≤ dt && hi < t + margin
    | none => false
  let step := fun (d : Nat) => if d = 0 then 0 else max 1 (d / 4)
  let dt' := if target < dt then dt - step (dt - target) else dt + step (target - dt)
  (dt', slow, dt' ≤ target + 32 && target ≤ dt' + 32)

/-- One period of a leg: both transitions measured (R278, R279). -/
def deadTime (m l : Nat) (rise fall : Option Nat) (b : Block) : Block :=
  if pwmLegs m ≤ l || b.is (Reg.HDR.PWM_FORCED m) || !b.is (Reg.PWM.DTCFG_ADAPT m) || !b.pwmCounts m then b
  else
    let p := b.pwm m
    let lo := b.rd (Reg.PWM.DT_DT_MIN m) * 32
    let hi := b.dtMax m * 32
    let margin := b.rd (Reg.PWM.DTCFG_MARGIN m) * 32
    let (r, slowR, inR) := dtMove lo hi margin (p.rise.getD l 0) rise
    let (f, slowF, inF) := dtMove lo hi margin (p.fall.getD l 0) fall
    let n := if inR && inF then p.inBand.getD l 0 + 1 else 0
    let conv := 4 ≤ n
    let was := b.is (Reg.PWM.DT_STAT_CONV m l)
    let slowWas := b.is (Reg.PWM.DT_STAT_SLOW m l)
    b |>.setPwm m (fun p => { p with
          rise := p.rise.set l r, fall := p.fall.set l f, inBand := p.inBand.set l n
          periods := p.periods.set l (p.periods.getD l 0 + 1) })
      |>.wr (Reg.PWM.DT_STAT_RISE m l) (r / 32) |>.wr (Reg.PWM.DT_STAT_FALL m l) (f / 32)
      |>.wrB (Reg.PWM.DT_STAT_CONV m l) conv
      |>.cond (conv && !was) (·.irq (pwmPage m) 6)
      |>.cond (slowR || slowF) (·.wr (Reg.PWM.DT_STAT_SLOW m l) 1)
      |>.cond ((slowR || slowF) && !slowWas) (·.err (pwmPage m) 4)

/-- The single leg that is OFF in the step, if there is one (R282). -/
def offLeg (b : Block) : Option Nat :=
  match (List.range 3).filter fun l => b.commLeg l = 0 with
  | [l] => some l
  | _ => none

/-- The step advances (R281, R282): 0 to 5 and back to 0, `LAST` holding the interval that ended. -/
def commAdvance (us : Nat) (b : Block) : Block :=
  { b with drive := { b.drive with zcEdge := none, waited := 0 } }
    |>.remask (wr (Reg.PWM.COMM_STAT_STEP 0) ((b.rd (Reg.PWM.COMM_STAT_STEP 0) + 1) % 6))
    |>.wr (Reg.PWM.COMM_STAT_LAST 0) (min us 65535) |>.irq 0x1C 5

/-- A miss, and the loss of commutation after six in a row (R282, R283). -/
def commMiss (b : Block) : Block :=
  let n := b.drive.misses + 1
  let b := { b with drive := { b.drive with misses := n, waited := b.drive.waited + 1 } } |>.inc (Reg.PWM.COMM_STAT_MISS 0)
  if n = 6 then b |>.err 0x1C 5 |>.pwmForce else b

/-- A write of `COMM` (R284): OFF takes the mask away at the next transfer, another new mode acts at once from
step `START`; 6 and 7 read as 5. -/
def commWrite (w : Nat) (b : Block) : Block :=
  let mode := bitsOf 1 0 w
  let start := min 5 (bitsOf 6 4 w)
  let old := b.rd (Reg.PWM.COMM_MODE 0)
  let b := b |>.wr (Reg.PWM.COMM_MODE 0) mode |>.wr (Reg.PWM.COMM_DIR 0) (bitsOf 2 2 w)
    |>.wr (Reg.PWM.COMM_START 0) start
  if mode = 0 then
    b.cond (b.is (Reg.HDR.PWM_COMM_ON 0)) fun b => { b with drive := { b.drive with commOff := true } }
  else if mode ≠ old then
    { b with drive := { b.drive with commOff := false, misses := 0, waited := 0, zcEdge := none } }
      |>.remask fun b => b |>.wr (Reg.HDR.PWM_COMM_ON 0) 1 |>.wr (Reg.PWM.COMM_STAT_STEP 0) start
  else b

/-! The balls (R262, R265, R268, R271, R276, R280, R281). -/

/-- Taps from the zero event of the leg's reference counter; leg BB runs half a period behind BA (R266). -/
def legTaps (b : Block) (m l : Nat) : Nat :=
  let per := b.rd (Reg.PWM.PER_PER m)
  let t := b.pwmTaps m
  if m = 1 ∧ l = 1 then (t + per * 16) % max 1 (per * 32) else t

/-- What a refresh pulse allows the high side and gives the low side of a leg (R280), before and after its zero event, which
is the module's (R266) (assumption 162, DEDUCED). -/
def refreshSwitches (b : Block) (m l : Nat) : Bool × Bool :=
  let p := b.pwm m
  let total := b.rd (Reg.PWM.PER_PER m) * 32
  let half := b.rd (Reg.PWM.BOOT_BOOT_PW m) * 16
  let t := b.pwmTaps m
  match p.refresh.find? (·.1 == l) with
  | some (_, false) => (t < total - half - p.fall.getD l 0, total - half ≤ t)
  | some (_, true) => (half + p.rise.getD l 0 ≤ t, t < half)
  | none => (true, false)

/-- Taps since the change of the mask at the taps `t0`. -/
def turnTaps (b : Block) (t0 : Nat) : Nat :=
  let total := b.rd (Reg.PWM.PER_PER 0) * 32
  (b.pwmTaps 0 + total - t0) % max 1 total

/-- What the dead times leave of a leg's switches after a change of the mask turned it on (R282). -/
def turnAllows (b : Block) (m l : Nat) : Bool × Bool :=
  match if m = 0 then b.drive.turned.find? (·.1 == l) else none with
  | some (_, t0) => ((b.pwm 0).rise.getD l 0 ≤ b.turnTaps t0, (b.pwm 0).fall.getD l 0 ≤ b.turnTaps t0)
  | none => (true, true)

/-- Edges of the reference of leg or output `l`; a pulse of BB that a transfer found in progress keeps its rising edge. -/
def legEdges (b : Block) (m l : Nat) : Nat × Nat :=
  let per := b.rd (Reg.PWM.PER_PER m)
  match if m = 1 ∧ l = 1 then b.drive.bbPulse else none with
  | some (before, after) => (per * 16 - before, per * 16 + after)
  | none => refEdges (onTime ((b.pwm m).duty.getD l 0) per) per

/-- Whether the switch of output `n` of module `m` (in the order of Table PWM-1) is on where nothing forces it. -/
def switchOn (b : Block) (m n : Nat) : Bool :=
  let p := b.pwm m
  if pwmLegs m = 0 then
    let (up, down) := b.legEdges m 0
    let t := b.legTaps m 0
    up ≤ t && t < down
  else
    let l := n / 2
    let comm := if m = 0 then b.commState l else 1
    let pair := if comm = 0 then (false, false) else if comm = 2 then (false, true)
      else
        let (hi, lo) :=
          legSwitches (b.legEdges m l) (b.rd (Reg.PWM.PER_PER m) * 32) (p.rise.getD l 0) (p.fall.getD l 0) (b.legTaps m l)
        let (may, also) := b.refreshSwitches m l
        (hi && may, lo || also)
    let (mayHi, mayLo) := b.turnAllows m l
    if n % 2 = 0 then pair.1 && mayHi else pair.2 && mayLo

def safeOut (m n : Nat) : Fld :=
  [Reg.PWM.SAFE_OUT0 m, Reg.PWM.SAFE_OUT1 m, Reg.PWM.SAFE_OUT2 m, Reg.PWM.SAFE_OUT3 m, Reg.PWM.SAFE_OUT4 m].getD n
    (Reg.PWM.SAFE_OUT5 m)

def polOut (m n : Nat) : Fld :=
  [Reg.PWM.POL_OUT0 m, Reg.PWM.POL_OUT1 m, Reg.PWM.POL_OUT2 m, Reg.PWM.POL_OUT3 m, Reg.PWM.POL_OUT4 m].getD n
    (Reg.PWM.POL_OUT5 m)

/-- The ball of output `n` of module `m`: 0 LOW, 1 HIGH, 2 RELEASED. A forced module shows its safe levels, which hold at the
ball; a switch that is on shows high with `POL` 0 and low with `POL` 1 (R262, R271). Before reset is released it is at high
impedance (R517). -/
def ball (b : Block) (m n : Nat) : Nat :=
  if !b.powered then 2
  else if b.is (Reg.HDR.PWM_FORCED m) then b.rd (safeOut m n)
  else bit (b.switchOn m n != b.is (polOut m n))

end Block

/-- What a module's counter reaches (R263, R285) (assumption 22, DESIGN CHOICE). -/
def Block.counterEvent (m : Nat) (kind : Fin 4) (b : Block) : Block :=
  let half := b.rd (Reg.PWM.PER_PER m) / 2
  let p := b.pwm m
  let cmp := if kind = 2 then p.cmpA else p.cmpB
  if !b.pwmCounts m || (2 ≤ kind.val && half < cmp) then b
  else
    let n := p.events.getD kind.val 0 + 1
    let due := b.rd (Reg.PWM.IRQ_PS m) < n
    let b := b |>.wr (Reg.PWM.CNT_CNT m) (if kind = 0 then 0 else if kind = 1 then half else cmp)
      |>.wrB (Reg.PWM.CNT_DOWN m) (kind == 1)
    let b := b.setPwm m fun p => { p with
      events := p.events.set kind.val (if due then 0 else n)
      refresh := if kind = 0 then p.refresh.map fun r => (r.1, true)
        else if kind = 1 then p.refresh.filter (!·.2) else p.refresh }
    let past (r : Nat × Nat) : Bool :=
      max ((b.pwm 0).rise.getD r.1 0) ((b.pwm 0).fall.getD r.1 0) ≤ b.turnTaps r.2
    let b := b.cond (m = 0) fun b => { b with drive := { b.drive with turned := b.drive.turned.filter (!past ·) } }
    let b := b.cond (m = 1 && kind == 1) fun b => { b with drive := { b.drive with bbPulse := none } }
    let full (b : Block) (l : Nat) : Bool :=
      onTime ((b.pwm m).duty.getD l 0) (b.rd (Reg.PWM.PER_PER m)) = b.rd (Reg.PWM.PER_PER m) * 32
    let masked (b : Block) (l : Nat) : Bool := m = 0 && b.commState l != 1
    let b := if kind = 0 then
        b.setPwm m fun p => { p with
          noOff := (List.range 3).map fun l =>
            if p.refresh.any (·.1 == l) then 0
            else if masked b l then p.noOff.getD l 0 else if full b l then p.noOff.getD l 0 + 1 else 0 }
      else b
    b.cond due (·.irq (pwmPage m) kind.val)

/-- PWM_TRANSFER (R267): the transfer point of module `m`. -/
def execPwmTransfer (m : Fin 4) (s : State) : Host.Outcome State Fault Refusal := s.run (Block.transfer m)

/-- LDALL (R267): a write of 1 to `CTRL.LDALL` of module `m`. -/
def execLdall (m : Fin 4) (s : State) : Host.Outcome State Fault Refusal := s.run (Block.loadCommand m)

/-- PWM_COUNTER_EVENT (R285): ZERO, PERIOD, CMPA or CMPB of module `m`. -/
def execPwmCounterEvent (m : Fin 4) (kind : Fin 4) (s : State) : Host.Outcome State Fault Refusal :=
  s.run (Block.counterEvent m kind)

/-- FAULT_INPUT (R273). -/
def execFaultInput (input : Fin 2) (level : Bool) (ns : Nat) (stays : Bool) (s : State) :
    Host.Outcome State Fault Refusal :=
  s.run (Block.faultInput input level ns stays)

/-- FLTCLR (R273): a write of 1 to `CLRn` of module `m`. -/
def execFltclr (m : Fin 4) (input : Fin 2) (s : State) : Host.Outcome State Fault Refusal :=
  s.run (Block.faultClear m input)

/-- DEAD_TIME_UPDATE (R278): the times to the first crossing of a leg's two transitions in one period, in taps. -/
def execDeadTimeUpdate (m : Fin 4) (leg : Fin 3) (rise fall : Option Nat) (s : State) :
    Host.Outcome State Fault Refusal :=
  s.run (Block.deadTime m leg rise fall)

/-- DT_CONV_TIMEOUT (R279): a leg without `CONV` after 64 periods. -/
def execDtConvTimeout (m : Fin 4) (leg : Fin 3) (s : State) : Host.Outcome State Fault Refusal :=
  s.run fun b =>
    if leg.val < pwmLegs m ∧ 64 ≤ (b.pwm m).periods.getD leg 0 ∧ ¬ b.is (Reg.PWM.DT_STAT_CONV m leg) then
      b.err (pwmPage m) 4
    else b

/-- BOOTSTRAP_REFRESH (R280): a refresh pulse about the next zero event on a leg without an off interval for `BOOT_MAX`
periods (assumption 162, DEDUCED). -/
def execBootstrapRefresh (m : Fin 4) (leg : Fin 3) (s : State) : Host.Outcome State Fault Refusal :=
  s.run fun b =>
    if leg.val < pwmLegs m ∧ b.is (Reg.PWM.BOOT_EN m) ∧ ¬ b.is (Reg.HDR.PWM_FORCED m)
        ∧ b.pwmCounts m ∧ b.rd (Reg.PWM.BOOT_BOOT_MAX m) ≤ (b.pwm m).noOff.getD leg 0 then
      b |>.setPwm m (fun p => { p with noOff := p.noOff.set leg 0, refresh := (leg.val, false) :: p.refresh.filter (·.1 != leg.val) }) |>.irq (pwmPage m) 7
    else b

/-- COMM_MODE_WRITE (R284): a write of `PWM0.COMM`. -/
def execCommModeWrite (w : Word) (s : State) : Host.Outcome State Fault Refusal := s.run (Block.commWrite w.toNat)

/-- COMM_TIMER (R282, R283): `us` microseconds since the last commutation, when they reach `TMR`. -/
def execCommTimer (us : Nat) (s : State) : Host.Outcome State Fault Refusal :=
  s.run fun b =>
    let mode := b.rd (Reg.PWM.COMM_MODE 0)
    if mode = 0 ∨ us < b.rd (Reg.PWM.COMM_T_TMR 0) * (b.drive.waited + 1) ∨ b.drive.zcEdge.isSome then b
    else if mode = 1 ∨ b.offLeg = none then b.commAdvance us
    else if mode = 2 then b.commMiss
    else b |>.commMiss |>.commAdvance us

/-- ZC_EDGE (R282, R294): an edge of a ZC comparator, `us` microseconds after the last commutation. -/
def execZcEdge (leg : Fin 3) (rising : Bool) (us : Nat) (s : State) : Host.Outcome State Fault Refusal :=
  s.run fun b =>
    let mode := b.rd (Reg.PWM.COMM_MODE 0)
    let even := b.rd (Reg.PWM.COMM_STAT_STEP 0) % 2 = 0
    let want := even != b.is (Reg.PWM.COMM_DIR 0)
    if 2 ≤ mode ∧ b.offLeg = some leg.val ∧ rising = want ∧ b.rd (Reg.PWM.COMM_T_BLANK 0) ≤ us
        ∧ b.drive.zcEdge = none then
      { b with drive := { b.drive with zcEdge := some us, misses := 0 } }
    else b

/-- COMM_STEP_ADVANCE (R282): `us` microseconds after the last commutation, `DLY`/256 of the last interval after
the accepted edge. -/
def execCommStepAdvance (us : Nat) (s : State) : Host.Outcome State Fault Refusal :=
  s.run fun b =>
    match b.drive.zcEdge with
    | some t =>
      if (t * 256 + b.rd (Reg.PWM.COMM_T_DLY 0) * b.rd (Reg.PWM.COMM_STAT_LAST 0)) ≤ us * 256 then b.commAdvance us
      else b
    | none => b

end Sys2Proof.Machine
end

