-- ==== Sys2Proof/Machine/Trig.lean ====
section
/-! DEFINITION. Sine, cosine, square root and arc tangent in integers, for the transforms of the loop engine and
the gallery's geometry. The spec gives real formulas; the precision is the model's choice (assumption 9). -/

namespace Sys2Proof.Machine

/-- Taylor series of sine (`k0` = 1) or cosine (`k0` = 0) at `x` in 2^-60 radians, in 2^-60
(assumption 9, DESIGN CHOICE). -/
def trigSeries (k0 : Nat) (x : Int) : Int :=
  let x2 := x * x / 2 ^ 60
  let t0 : Int := if k0 = 0 then 2 ^ 60 else x
  ((List.range 12).foldl (fun (acc : Int × Int) i =>
    let k := 2 * i + k0
    let t := -(acc.2 * x2 / 2 ^ 60) / (((k + 1) * (k + 2) : Nat) : Int)
    (acc.1 + t, t)) (t0, t0)).1

/-- Sine of `n` / 2^32 turns, in 2^-40. -/
def sinTurn (n : Nat) : Int :=
  let n := n % 2 ^ 32
  let q := n / 2 ^ 30
  let x : Int := (n % 2 ^ 30 * 1811004864519280711 / 2 ^ 30 : Nat)
  let v := if q % 2 = 0 then trigSeries 1 x else trigSeries 0 x
  roundDiv (if q < 2 then v else -v) (2 ^ 20)

def cosTurn (n : Nat) : Int := sinTurn (n + 2 ^ 30)

/-- Integer square root by bisection on bits, for values below 2^128 (assumption 9, DESIGN CHOICE). -/
def isqrt (n : Nat) : Nat :=
  (List.range 64).foldl (fun r i =>
    let c := r + 2 ^ (63 - i)
    if c * c ≤ n then c else r) 0

/-- A product with a number in 2^-40, rounded. -/
def mulQ40 (a c : Int) : Int := roundDiv (a * c) (2 ^ 40)

/-- The direction of (x, y) in 2^-32 turns, counted from x toward y: by bisection on the angle
(assumption 9, DESIGN CHOICE). -/
def atanTurn (x y : Int) : Nat :=
  if x = 0 ∧ y = 0 then 0
  else
    -- the first-quadrant angle a with tan a = |y| / |x|
    let ax := x.natAbs
    let ay := y.natAbs
    let a := (List.range 30).foldl (fun r i =>
      let c := r + 2 ^ (29 - i)
      if sinTurn c * (ax : Int) ≤ cosTurn c * (ay : Int) then c else r) 0
    if 0 ≤ x then (if 0 ≤ y then a else (2 ^ 32 - a) % 2 ^ 32)
    else (if 0 ≤ y then 2 ^ 31 - a else 2 ^ 31 + a)

end Sys2Proof.Machine
end

