-- ==== Sys2Proof/Machine/Loop.lean ====
section
/-! DEFINITION. The loop engine (10_loop_engine.md): schedule, signals, the path through a slot, the transform
pair, modes and transfers, injection, capture and supervision. -/

namespace Sys2Proof.Machine

/-- The register of slot `s` on its page (R298). -/
abbrev ofSlot (f : Nat → Nat → Fld) (s : Nat) : Fld := f (s / 8) (s % 8)

def slotPage (s : Nat) : Nat := 0x20 + s / 8

/-- Saturation to a Q8 word (R300) and to the 48-bit accumulator (R308). -/
def sat32 (x : Int) : Int := clampInt (-2 ^ 31) (2 ^ 31 - 1) x
def sat48 (x : Int) : Int := clampInt (-(2 ^ 47 - 1)) (2 ^ 47 - 1) x

/-- Right shift with rounding to nearest, halves up (R308). -/
def roundShift (x : Int) (sh : Nat) : Int := if sh = 0 then x else (x + 2 ^ (sh - 1)).fdiv (2 ^ sh)

/-- A stage's sum of products (R308 FIX32, R309 BFLOAT), those of `minus` taken away: (coefficient, shift, operand). -/
def stageSum (fmt : Bool) (e : Nat) (plus : List (Int × Nat × Int)) (minus : List (Int × Nat × Int) := []) : Int :=
  if fmt then roundShift (minus.foldl (fun a t => a - t.1 * t.2.2) (plus.foldl (fun a t => a + t.1 * t.2.2) 0)) e
  else minus.foldl (fun a t => sat48 (a - roundShift (t.1 * t.2.2) t.2.1))
    (plus.foldl (fun a t => sat48 (a + roundShift (t.1 * t.2.2) t.2.1)) 0)

/-- Period of the schedule in drips (Table LOOP-6). -/
def ratePeriod (r : Nat) : Nat := [1, 2, 5, 10, 100].getD r 100

/-- The listed source codes of Table LOOP-1. -/
def isSource (c : Nat) : Bool :=
  c = 0 || c = 1 || (0x10 ≤ c && c < 0x40) || (0x40 ≤ c && c < 0x44) || (0x60 ≤ c && c < 0xA0 && c % 4 < 3)

namespace Block

def slot (b : Block) (s : Nat) : Slot := b.loop.slots.getD s {}

def setSlot (s : Nat) (f : Slot → Slot) (b : Block) : Block :=
  { b with loop := { b.loop with slots := b.loop.slots.modify s f } }

/-- Current mode of a slot: 0 DISABLED, 1 MAN, 2 AUTO. -/
def slotCur (b : Block) (s : Nat) : Nat := b.rd (ofSlot Reg.LOOP.LSTAT_CUR s)

def isPair (b : Block) (k : Nat) : Bool := b.is (Reg.LW.CFG_XFORM (2 * k))

/-- Period of slot `s` in drips, by the schedule in force (R326); a transform pair runs in every drip (R310). -/
def slotPeriod (b : Block) (s : Nat) : Nat := if b.isPair (s / 2) then 1 else ratePeriod (b.slot s).rate

/-- The drip edge takes a new schedule into force (R326). -/
def latchRates (b : Block) : Block :=
  b.each (List.range 32) fun s b =>
    b.setSlot s fun z => { z with rate := b.rd (Reg.LW.CFG_RATE s), phase := b.rd (Reg.LW.CFG_PHASE s) }

/-- The target a slot acts with (R307, R310). -/
def slotTarget (b : Block) (s : Nat) : Nat :=
  if b.isPair (s / 2) then (if s % 2 = 0 then 0 else 8)
  else
    let t := b.rd (Reg.LW.SEL_TGT s)
    if t = 8 then 0 else t

/-- The (module, leg) pairs a target code drives. -/
def targetLegs (t : Nat) : List (Nat × Nat) :=
  if t = 0 then [] else if t ≤ 3 then [(0, t - 1)] else if t ≤ 5 then [(1, t - 4)] else if t = 6 then [(2, 0)]
  else if t = 7 then [(3, 0)] else [(0, 0), (0, 1), (0, 2)]

/-- An enabled slot other than `except_` owns leg `l` of module `m` (R269, R307). -/
def legOwned (b : Block) (except_ : Nat) (m l : Nat) : Bool :=
  (List.range 32).any fun s => s != except_ && b.slotCur s != 0 && (targetLegs (b.slotTarget s)).contains (m, l)

/-- An enabled slot's target is owned by another (R307). -/
def targetClash (b : Block) (s : Nat) : Bool :=
  b.slotCur s != 0 && (targetLegs (b.slotTarget s)).any fun e => b.legOwned s e.1 e.2

/-- Two slots' targets drive a common module with a fault latched (R312). -/
def slotFaulted (b : Block) (s : Nat) : Bool :=
  let t := if b.isPair (s / 2) then 8 else b.slotTarget s
  (targetLegs t).any fun e => b.is (Reg.HDR.PWM_FLT_LAT e.1 0) || b.is (Reg.HDR.PWM_FLT_LAT e.1 1)

/-- R313: a slot's group in a mode. -/
def groupAllowed (b : Block) (mode : Mode) (s : Nat) : Bool :=
  match b.rd (Reg.LW.CFG_GROUP s) with
  | 0 => true
  | 1 => mode == .pump || mode == .field || mode == .service
  | _ => mode == .field || mode == .service

/-- A slot takes a source from PRESS0 or PRESS1; the feedback source of a pair's slot is not used (R310). -/
def usesPressure (b : Block) (s : Nat) : Bool :=
  let fb := if b.isPair (s / 2) then [] else [b.rd (Reg.LW.SEL_FB_SRC s)]
  ([b.rd (Reg.LW.SEL_SP_SRC s), b.rd (Reg.LW.SEL_FF_SRC s)] ++ fb).any fun c => c = 0x18 || c = 0x19

/-- The cause on which a request for `mode` is refused (R312, in the order of `STAT.REFUSE`); 0 none. -/
def refuseCause (b : Block) (s mode : Nat) : Nat :=
  if (targetLegs (b.slotTarget s)).any fun e => b.legOwned s e.1 e.2 then 1
  else if !b.groupAllowed b.mode s then 2
  else if mode = 2 ∧ b.is (ofSlot Reg.LOOP.LSTAT_SUPV_FAIL s) then 3
  else if mode = 2 ∧ b.slotFaulted s then 4
  else if mode = 2 ∧ b.usesPressure s ∧ b.cal.press = [] then 5
  else 0

/-- A refused request (R312): the mode stays, the cause is named. -/
def refuseMode (s cause : Nat) (b : Block) : Block :=
  b |>.wr (ofSlot Reg.LOOP.MODE_MODE s) (b.slotCur s) |>.wr (ofSlot Reg.LOOP.LSTAT_REFUSE s) cause
    |>.err (slotPage s) 2

/-- An injection on slot `s` ends with `res` (R318). -/
def endInjection (res : Nat) (b : Block) : Block :=
  match b.loop.inject with
  | some i =>
    { b with loop := { b.loop with inject := none } }
      |>.wr (ofSlot Reg.LOOP.LSTAT_INJ i.slot) 0 |>.wr Reg.LOOP0.INJ_STAT_RES res |>.irq 0x20 17
  | none => b

def injectsOn (b : Block) (s : Nat) (setpointOnly : Bool) : Bool :=
  match b.loop.inject with
  | some i => i.slot = s && (!setpointOnly || i.point = 0)
  | none => false

/-- The transfer from AUTO to MAN (R315): `MAN_OUT` takes the last AUTO output. -/
def autoToMan (s : Nat) (b : Block) : Block :=
  b |>.wr (ofSlot Reg.LOOP.MAN_OUT_OUT s) (b.rd (ofSlot Reg.LOOP.OUT_OUT s))
    |>.wr (ofSlot Reg.LOOP.LSTAT_CUR s) 1 |>.wr (ofSlot Reg.LOOP.MODE_MODE s) 1
    |>.wr (ofSlot Reg.LOOP.LSTAT_WIDE s) 0
    |>.cond (b.injectsOn s true) (·.endInjection 3)

/-- A transfer the part imposes (R274, R313, R315, R499): an AUTO slot goes to MAN with MODE_CHG raised, and a
pending AUTO request falls. -/
def imposeMan (s : Nat) (b : Block) : Block :=
  if b.slotCur s = 2 then b |>.autoToMan s |>.irq (slotPage s) (8 + s % 8)
  else b.cond (b.rd (ofSlot Reg.LOOP.MODE_MODE s) = 2) (·.wr (ofSlot Reg.LOOP.MODE_MODE s) (b.slotCur s))

/-- DISABLED takes effect at once (R312). -/
def disableSlot (s : Nat) (b : Block) : Block :=
  b |>.wr (ofSlot Reg.LOOP.LSTAT_CUR s) 0 |>.wr (ofSlot Reg.LOOP.MODE_MODE s) 0
    |>.wr (ofSlot Reg.LOOP.LSTAT_WIDE s) 0
    |>.setSlot s (fun x => { x with model := false, past := [] })
    |>.cond (b.injectsOn s false) (·.endInjection 3)

/-- Slots that a mode no longer allows go to MAN (R313). -/
def imposeGroups (b : Block) : Block :=
  b.each (List.range 32) fun s b => b.cond (b.slotCur s = 2 && !b.groupAllowed b.mode s) (·.imposeMan s)

/-- Every slot whose target lies in module `m`, and both slots of its pair, to MAN (R274, R324, R499). -/
def modulesToMan (ms : List Nat) (fault : Bool) (b : Block) : Block :=
  b.each (List.range 32) fun s b =>
    let t := if b.isPair (s / 2) then 8 else b.slotTarget s
    if (targetLegs t).any fun e => ms.contains e.1 then
      let pend := b.rd (ofSlot Reg.LOOP.MODE_MODE s) = 2 && b.slotCur s != 2
      if fault && pend then b.refuseMode s 4 else b.imposeMan s
    else b

/-! Signals (Table LOOP-1). -/

/-- ADC channel `n` as a signal: (CORR − 2,048 × BIP) × 256. -/
def adcSignal (b : Block) (n : Nat) : Int :=
  sat32 ((signedOf 16 (b.rd (Reg.ADC.RESN_CORR n)) -
    (if (b.rd Reg.ADC.BIP_MASK).testBit n then 2048 else 0)) * 256)

def signal (b : Block) (s c : Nat) : Int :=
  if c = 1 then b.rdI (ofSlot Reg.LOOP.SP_SP s)
  else if 0x10 ≤ c ∧ c < 0x20 then b.adcSignal (c - 0x10)
  else if 0x20 ≤ c ∧ c < 0x40 then
    (if b.slotCur (c - 0x20) = 0 then 0 else signedOf 32 (b.rd (ofSlot Reg.LOOP.OUT_OUT (c - 0x20))))
  else if 0x40 ≤ c ∧ c < 0x44 then
    let p := b.rd (Reg.CAP.PERIOD_US (c - 0x40))
    if p = 0xFFFFFF then 0 else sat32 ((10 ^ 8 * 256 / max p 1 : Nat) : Int)
  else if 0x60 ≤ c ∧ c < 0xA0 then
    let k := (c - 0x60) / 4
    if c % 4 = 0 then b.loop.id.getD k 0 else if c % 4 = 1 then b.loop.iq.getD k 0 else b.loop.speed.getD k 0
  else 0

/-- The source is an ADC channel marked stale in the drip (R302). -/
def staleSource (b : Block) (c : Nat) : Bool := 0x10 ≤ c && c < 0x20 && b.is (Reg.ADC.RESN_STALE (c - 0x10))

/-! Coefficients at their effective values (R128, R308, R309). -/

def fmt (b : Block) (s : Nat) : Bool := b.is (Reg.LW.CFG_FMT s)

def coef (b : Block) (s : Nat) (f : Fld) : Int :=
  let c := signedOf 32 (b.rd f)
  if b.fmt s then clampInt (-2 ^ 23) (2 ^ 23 - 1) c else c

def shift (b : Block) (s : Nat) (f : Fld) : Nat := if b.fmt s then b.rd f else min 31 (b.rd f)

/-- A biquad stage run on `x` (R305). -/
def runBiquad (b : Block) (s : Nat) (second : Bool) (q : Biquad) (x : Int) : Int × Biquad :=
  let c (i : Nat) := b.coef s (if second then Reg.LW.BQ1_C s i else Reg.LW.BQ0_C s i)
  let sh0 := if second then
      [Reg.LW.BQ_SH1_B0 s, Reg.LW.BQ_SH1_B1 s, Reg.LW.BQ_SH1_B2 s, Reg.LW.BQ_SH1_A1 s, Reg.LW.BQ_SH1_A2 s]
    else [Reg.LW.BQ_SH0_B0 s, Reg.LW.BQ_SH0_B1 s, Reg.LW.BQ_SH0_B2 s, Reg.LW.BQ_SH0_A1 s, Reg.LW.BQ_SH0_A2 s]
  let sh (i : Nat) := b.shift s (sh0.getD i (Reg.LW.BQ_SH0_B0 s))
  let y := sat32 (stageSum (b.fmt s) (sh 0)
    [(c 0, sh 0, x), (c 1, sh 1, q.x1), (c 2, sh 2, q.x2)] [(c 3, sh 3, q.y1), (c 4, sh 4, q.y2)])
  (y, { x1 := x, x2 := q.x1, y1 := y, y2 := q.y1 })

def steady (v : Int) : Biquad := { x1 := v, x2 := v, y1 := v, y2 := v }

/-- The two stages in order, those whose position is `pos`. -/
def runStages (s pos : Nat) (x : Int) (b : Block) : Int × Block :=
  let p0 := b.rd (Reg.LW.CFG_BQ0_POS s)
  let p1 := b.rd (Reg.LW.CFG_BQ1_POS s)
  let (x, b) := if p0 = pos then
      let (y, q) := b.runBiquad s false (b.slot s).bq0 x
      (y, b.setSlot s fun z => { z with bq0 := q })
    else (x, b)
  if p1 = pos then
    let (y, q) := b.runBiquad s true (b.slot s).bq1 x
    (y, b.setSlot s fun z => { z with bq1 := q })
  else (x, b)

/-- Stages at position `pos` preset to a steady value; a bypassed stage keeps 0 (R305, R314). -/
def presetStages (s pos : Nat) (v : Int) (b : Block) : Block :=
  b.setSlot s fun z => { z with
    bq0 := if b.rd (Reg.LW.CFG_BQ0_POS s) = pos then steady v else if b.rd (Reg.LW.CFG_BQ0_POS s) = 0 then {} else z.bq0
    bq1 := if b.rd (Reg.LW.CFG_BQ1_POS s) = pos then steady v else if b.rd (Reg.LW.CFG_BQ1_POS s) = 0 then {} else z.bq1 }

def outMin (b : Block) (s : Nat) : Int := signedOf 32 (b.rd (Reg.LW.OUT_MIN_MIN s))
def outMax (b : Block) (s : Nat) : Int := max (b.outMin s) (signedOf 32 (b.rd (Reg.LW.OUT_MAX_MAX s)))

/-- `OPEN_OUT` in effect between the limits (R128, R330). -/
def openOut (b : Block) (s : Nat) : Int := clampInt (b.outMin s) (b.outMax s) (signedOf 32 (b.rd (Reg.LW.OPEN_OUT_OUT s)))

/-- The injected signal at this run (R318). -/
def injectValue (i : Inject) : Int :=
  if i.kind = 0 then i.amp
  else if i.kind = 3 then mulQ40 i.amp (sinTurn (i.run * 2 ^ 32 / max 4 i.hold))
  else if (i.lfsr.testBit (if i.kind = 1 then 8 else 10)) then i.amp else -i.amp

/-- The generator after a run: each bit is held `HOLD` runs. -/
def injectNext (i : Inject) : Inject :=
  let n := i.run + 1
  let hold := max 1 i.hold
  let lfsr := if n % hold = 0 then
      (if i.kind = 1 then (i.lfsr * 2 + bit (i.lfsr.testBit 8 != i.lfsr.testBit 4)) % 512
       else (i.lfsr * 2 + bit (i.lfsr.testBit 10 != i.lfsr.testBit 8)) % 2048)
    else i.lfsr
  { i with run := n, lfsr }

/-- The injection at a point of slot `s` in this run; 0 elsewhere. -/
def injected (b : Block) (s point : Nat) : Int :=
  match b.loop.inject with
  | some i => if i.slot = s ∧ i.point = point then injectValue i else 0
  | none => 0

/-- The output limit (R306). -/
def limitOut (s : Nat) (u : Int) (b : Block) : Int × Block :=
  let lo := b.outMin s
  let hi := b.outMax s
  let b := b |>.wrB (ofSlot Reg.LOOP.LSTAT_LIM_HI s) (hi < u) |>.wrB (ofSlot Reg.LOOP.LSTAT_LIM_LO s) (hi ≥ u && u < lo)
  (clampInt lo hi u, b)

/-- One run of an AUTO slot up to the output limit (R303 to R306, R314). `first` marks the first run in AUTO, at which the
integrator stands at its preset, so that the output is `last`, the one before it (assumption 164, DEDUCED). -/
def autoRun (s : Nat) (first : Bool) (last : Int) (rawFb : Int) (b : Block) : Int × Block :=
  let f := b.fmt s
  let e0 := b.shift s (Reg.LW.PID_SH_KP s)
  let ff := b.signal s (b.rd (Reg.LW.SEL_FF_SRC s))
  let r := b.signal s (b.rd (Reg.LW.SEL_SP_SRC s))
  let b := b.cond first fun b => (b.presetStages s 1 rawFb).presetStages s 2 last
  let (y, b) := b.runStages s 1 rawFb
  let rate : Int := b.rd (Reg.LW.SP_RATE_RATE s)
  let from_ := if first then y else (b.slot s).eff
  let eff := if rate = 0 then r else if from_ < r then min r (from_ + rate) else max r (from_ - rate)
  let spt := sat32 (eff + b.injected s 0)
  let e := sat32 (if b.is (Reg.LW.CFG_INV s) then y - spt else spt - y)
  let x := if b.is (Reg.LW.CFG_DMEAS s) then -y else e
  let kp := b.coef s (Reg.LW.KP_C s)
  let ki := b.coef s (Reg.LW.KI_C s)
  let kd := b.coef s (Reg.LW.KD_C s)
  let kdfSh := b.shift s (Reg.LW.PID_SH_KDF s)
  let kdf := clampInt 0 (2 ^ (if f then e0 else kdfSh) - 1) (b.coef s (Reg.LW.KDF_C s))
  let kff := b.coef s (Reg.LW.KFF_C s)
  let tP := (kp, e0, e)
  let tF := (kff, b.shift s (Reg.LW.PID_SH_KFF s), ff)
  let xPrev := if first then x else (b.slot s).xPrev
  let dPrev := if first then 0 else (b.slot s).dPrev
  let tD := [(kd, b.shift s (Reg.LW.PID_SH_KD s), x - xPrev), (kdf, kdfSh, dPrev)]
  let d := sat32 (stageSum f e0 tD)
  let lim (v : Int) := clampInt (b.outMin s) (b.outMax s) v
  let iPrev := if first then lim (last - sat32 (stageSum f e0 [tP, tF]))
    else signedOf 32 (b.rd (ofSlot Reg.LOOP.INTEG_I s))
  let hold := (b.is (ofSlot Reg.LOOP.LSTAT_LIM_HI s) && 0 < e * ki) ||
    (b.is (ofSlot Reg.LOOP.LSTAT_LIM_LO s) && e * ki < 0)
  let i := lim (if first || hold then iPrev
    else iPrev + stageSum f e0 [(ki, b.shift s (Reg.LW.PID_SH_KI s), e)])
  let u := if f then sat32 (stageSum f e0 ([tP, tF] ++ tD) + i) else sat32 (sat48 (stageSum f e0 [tP, tF] + i + d))
  let (u, b) := b.runStages s 2 u
  let b := b |>.wrI (ofSlot Reg.LOOP.INTEG_I s) i
    |>.setSlot s fun z => { z with eff, spt, fb := y, xPrev := x, dPrev := d }
  (sat32 (u + b.injected s 1), b)

/-- The first 2 s of an AUTO, in which the band is four times as wide (R321). -/
def autoNew (b : Block) (s : Nat) : Bool := b.slotCur s = 2 && b.now < (b.slot s).autoFrom + 20000

/-- The model of R320, the sample count of R321 and the watch of a targeted test (R322), on the feedback `y` and the applied
output `u`. A slot enabled in MAN takes its start values at its first run there (assumption 165, DESIGN CHOICE). -/
def supervise (s : Nat) (entry : Bool) (stale : Bool) (y u : Int) (b : Block) : Block :=
  let wide := b.autoNew s
  let b := b.wrB (ofSlot Reg.LOOP.LSTAT_WIDE s) wide
  if b.rd (Reg.LW.CFG_ACTION s) = 0 then b.setSlot s fun z => { z with model := false, past := [] }
  else
    let b := b.cond (entry || !(b.slot s).model) (·.setSlot s fun z => { z with
      model := true, y0 := y, u0 := u, yhat := y * 65536, bad := 0, good := 0 })
    let z := b.slot s
    let per := b.slotPeriod s
    let tau := b.rd (Reg.LW.SUPV_T_TAU s)
    let m := ceilDiv (b.rd (Reg.LW.SUPV_T_DEAD s)) per
    let past := (u :: z.past).take 256
    let um := past.getD m z.u0
    let k := signedOf 32 (b.rd (Reg.LW.SUPV_K_C s))
    let drive := roundShift (k * (um - z.u0) * 65536) (min 31 (b.rd (Reg.LW.SUPV_T_K_SH s)))
    let goal := z.y0 * 65536 + drive - z.yhat
    let yhat := z.yhat + (if tau ≤ per then goal else roundDiv (goal * per) tau)
    let resid := sat32 (y - roundShift yhat 16)
    let band := b.rd (Reg.LW.SUPV_B_BAND s) * (if wide then 4 else 1)
    let out := band < resid.natAbs
    b |>.wrI (ofSlot Reg.LOOP.RESID_R s) resid
      |>.setSlot s fun z => { z with
          yhat, past
          bad := if stale then z.bad else if out then z.bad + 1 else 0
          good := if stale then z.good else if out then 0 else z.good + 1
          watch := if stale then z.watch else z.watch - 1
          watchBad := z.watchBad || (!stale && 0 < z.watch && 2 * band < resid.natAbs) }

/-- `DUTY` of a Q8 output (R307). -/
def dutyOf (u : Int) : Nat := (clampInt 0 0x100000 (roundShift u 8)).toNat

/-- A slot's run (R299, R303): the mode request that takes effect, the output, its target and its supervision. -/
def runSlot (s : Nat) (b : Block) : Block :=
  let req := b.rd (ofSlot Reg.LOOP.MODE_MODE s)
  let cur := b.slotCur s
  let cause := if req = cur ∨ req = 0 then 0 else b.refuseCause s req
  let b := if cause ≠ 0 then b.refuseMode s cause else b
  let req := if cause ≠ 0 then cur else req
  if req = 0 then b
  else
    let last : Int := if cur = 0 then clampInt (b.outMin s) (b.outMax s) (signedOf 32 (b.rd (ofSlot Reg.LOOP.MAN_OUT_OUT s)))
      else signedOf 32 (b.rd (ofSlot Reg.LOOP.OUT_OUT s))
    let first := req = 2 && cur != 2
    let b := if req = 1 ∧ cur = 2 then b.autoToMan s else b.wr (ofSlot Reg.LOOP.LSTAT_CUR s) req
    let b := b.cond first (·.setSlot s fun z => { z with autoFrom := b.now })
    let pair := b.isPair (s / 2)
    let rawFb := if pair then (if s % 2 = 0 then b.loop.id.getD (s / 2) 0 else b.loop.iq.getD (s / 2) 0)
      else b.signal s (b.rd (Reg.LW.SEL_FB_SRC s))
    let stale := b.staleSource (b.rd (Reg.LW.SEL_SP_SRC s)) || b.staleSource (b.rd (Reg.LW.SEL_FF_SRC s)) ||
      (if pair then (List.range 3).any fun n => b.is (Reg.ADC.RESN_STALE n) else b.staleSource (b.rd (Reg.LW.SEL_FB_SRC s)))
    let b := b.wrB (ofSlot Reg.LOOP.LSTAT_STALE_IN s) stale
    let (u, b) := if req = 2 then b.autoRun s first last rawFb
      else
        let b := b.setSlot s fun z => { z with fb := rawFb }
        (sat32 (signedOf 32 (b.rd (ofSlot Reg.LOOP.MAN_OUT_OUT s)) + b.injected s 1), b)
    let (u, b) := b.limitOut s u
    let b := b |>.wrI (ofSlot Reg.LOOP.OUT_OUT s) u |>.setSlot s (fun z => { z with ran := true })
      |>.wrB (ofSlot Reg.LOOP.LSTAT_INJ s) (b.injectsOn s false)
    let t := b.slotTarget s
    let b := if 1 ≤ t ∧ t ≤ 7 then
        { b with loop := { b.loop with duties := b.loop.duties ++ (targetLegs t).map fun e => (e.1, e.2, dutyOf u) } }
      else b
    b.supervise s first stale (b.slot s).fb u

/-- The pair's transform before its slots run (R311): id and iq from the phase currents. -/
def pairIn (k : Nat) (b : Block) : Block :=
  let th := b.rd (Reg.LOOP.ANGLE_TH (k / 4) (2 * k % 8))
  let iu := b.adcSignal 0
  let iv := b.adcSignal 1
  let iw := b.adcSignal 2
  let c := cosTurn th
  let sn := sinTurn th
  let a := 2 * iu - iv - iw          -- 3 ia
  let q := 3 * (iv - iw) * 634803334274  -- 3 ib, in 2^-40
  let id := roundDiv (a * 2 ^ 40 * c + q * sn) (3 * 2 ^ 80)
  let iq := roundDiv (-(a * 2 ^ 40 * sn) + q * c) (3 * 2 ^ 80)
  { b with loop := { b.loop with id := b.loop.id.set k (sat32 id), iq := b.loop.iq.set k (sat32 iq) } }

/-- The pair's transform after its slots ran (R311): three duties and the angle's advance. -/
def pairOut (k : Nat) (b : Block) : Block :=
  let th := b.rd (Reg.LOOP.ANGLE_TH (k / 4) (2 * k % 8))
  let src := b.signal (2 * k) (b.rd (Reg.LW.ANG_ASRC (2 * k)))
  let dth := roundShift (src * signedOf 32 (b.rd (Reg.LW.AK_C (2 * k)))) (min 31 (b.rd (Reg.LW.ANG_AK_SH (2 * k))))
  let ph := ((th + dth) % 2 ^ 32).toNat
  let out (s : Nat) : Int := if b.slotCur s = 0 then 0 else signedOf 32 (b.rd (ofSlot Reg.LOOP.OUT_OUT s))
  let vd := out (2 * k)
  let vq := out (2 * k + 1)
  let c := cosTurn ph
  let sn := sinTurn ph
  let va := vd * c - vq * sn           -- 2^-40
  let vb := vd * sn + vq * c
  let h := mulQ40 vb 1904410002821     -- sqrt 3 times vb
  let vu := 2 * va
  let vv := -va + h
  let vw := -va - h
  let off := max vu (max vv vw) + min vu (min vv vw)   -- -4 off
  let raw (v : Int) : Int := 0x80000 + roundDiv (2 * v - off) (4 * 256 * 2 ^ 40)
  let duty (v : Int) : Nat := (clampInt 0 0x100000 (raw v)).toNat
  let cut := [vu, vv, vw].any fun v => raw v < 0 || 0x100000 < raw v
  let b := if b.slotCur (2 * k + 1) = 0 then b
    else
      { b with loop := { b.loop with duties := b.loop.duties ++ [(0, 0, duty vu), (0, 1, duty vv), (0, 2, duty vw)] } }
  let b := if cut then
      b.each [2 * k, 2 * k + 1] fun s b =>
        if 0 ≤ vq then b.wr (ofSlot Reg.LOOP.LSTAT_LIM_HI s) 1 else b.wr (ofSlot Reg.LOOP.LSTAT_LIM_LO s) 1
    else b
  { b with loop := { b.loop with speed := b.loop.speed.set k (sat32 (dth.fdiv 256)) } }
    |>.wr (Reg.LOOP.ANGLE_TH (k / 4) (2 * k % 8)) ph

/-- A slot is due in this drip (R299, R310, R326, R331). -/
def slotDue (b : Block) (s : Nat) : Bool :=
  !b.is (Reg.HDR.FREEZE (slotPage s)) &&
  (b.isPair (s / 2) ||
    let per := b.slotPeriod s
    b.drip % per = min (b.slot s).phase (per - 1)) &&
  (b.slotCur s != 0 || b.rd (ofSlot Reg.LOOP.MODE_MODE s) != 0)

/-- A slot of pair `k` runs in the drip. -/
def pairRuns (b : Block) (k : Nat) : Bool :=
  !b.is (Reg.HDR.FREEZE (slotPage (2 * k))) && (b.slotCur (2 * k) != 0 || b.slotCur (2 * k + 1) != 0)

/-- The header of a capture, written last (R319, Table LOOP-3), and the notice on mailbox 6. -/
def endCapture (res : Nat) (b : Block) : Block :=
  match b.loop.capture with
  | some c =>
    let flags := (if res = 3 then 1 else 0) + (if res = 4 then 2 else 0) + (if c.inj then 4 else 0)
      + (if b.fmt c.slot then 8 else 0)
    let head := leBytes 2 0x4C43 ++ leBytes 1 c.slot ++ leBytes 1 flags ++ leBytes 2 c.count ++ leBytes 1 (c.dec + 1)
      ++ leBytes 1 (b.slotPeriod c.slot) ++ leBytes 8 c.first
    let b := { b with loop := { b.loop with capture := none } }
    let b := (b.store 0 c.addr head).1
    b |>.wr Reg.LOOP0.CAP_STAT_RES res |>.wr Reg.LOOP0.CAP_STAT_COUNT c.count
      |>.mbxPost 6 3 c.addr (16 + 12 * c.count) 0x60 |>.irq 0x20 16
      |>.cond (res = 3) (·.err 0x20 4)
  | none => b

/-- The capture's sample that waits is written, where no request of LOOP in its bank has been put off
(assumption 167, DESIGN CHOICE). -/
def captureDue (b : Block) : Block :=
  match b.loop.capture with
  | some c =>
    let a := c.addr + 16 + 12 * c.count
    match c.held with
    | some smp =>
      if Store.find (fun _ => 0) b.sram.wanted (bankOf a) != 0 then b
      else
        let (b, ok) := b.store 0 a smp
        let n := if ok then c.count + 1 else c.count
        let b := { b with loop := { b.loop with capture := some { c with held := none, count := n } } }
          |>.wr Reg.LOOP0.CAP_STAT_COUNT n
        if !ok then b.endCapture 3 else if n = c.n then b.endCapture 2 else b
    | none => b
  | none => b

/-- The drip has ended with its sample unwritten (R319). -/
def captureLate (b : Block) : Block := b.cond (b.loop.capture.any (·.held.isSome)) (endCapture 3)

/-- The capture's sample at a run of its slot (R319). -/
def captureRun (s : Nat) (b : Block) : Block :=
  match b.loop.capture with
  | some c =>
    if c.slot = s ∧ (b.slot s).ran ∧ (c.started ∨ ¬ c.trig ∨ b.injectsOn s false) then
      let c := { c with started := true, runs := c.runs + 1, inj := c.inj || b.injectsOn s false }
      if (c.runs - 1) % (c.dec + 1) = 0 then
        let z := b.slot s
        let smp := leBytes 4 (unsignedOf 32 z.spt) ++ leBytes 4 (unsignedOf 32 z.fb)
          ++ leBytes 4 (b.rd (ofSlot Reg.LOOP.OUT_OUT s))
        let c := { c with first := if c.count = 0 then b.ftDrips * 65536 else c.first }
        { b with loop := { b.loop with capture := some { c with held := some smp } } }.captureDue
      else { b with loop := { b.loop with capture := some c } }
    else b
  | none => b

/-- The ADC's group of the drip is in place, or none is due (R33). -/
def adcSettled (b : Block) : Bool :=
  b.adc.done || !b.running 4 || !b.is (Reg.HDR.EN 0x24) || b.is (Reg.HDR.FREEZE 0x24)

/-- LOOP's drip (R298, R299): every slot due, in ascending order, from cycle 655, when the ADC's results are in place
(assumption 21, DESIGN CHOICE). -/
def loopRun (b : Block) : Block :=
  if !b.agents.loop || !b.powered || b.is Reg.HDR.TICK_FROZEN || b.loop.ranAt == some b.now || !b.notPast 655
      || !b.adcSettled then b
  else
    let idle : List Slot := b.loop.slots.map fun (z : Slot) => { z with ran := false }
    let b := { b with loop := { b.loop with ranAt := some b.now, duties := [], slots := idle } }
      |>.phase 655
    let b := b.each (List.range 32) fun s b =>
      let pair := b.isPair (s / 2)
      let b := b.cond (pair && s % 2 = 0 && (b.slotDue s || b.slotDue (s + 1))) (·.pairIn (s / 2))
      let b := if b.slotDue s then
        let b := b.runSlot s
        let b := match b.loop.inject with
          | some i => if i.slot = s ∧ (b.slot s).ran then
              { b with loop := { b.loop with inject := some (injectNext i) } } else b
          | none => b
        b.captureRun s
      else b
      b.cond (pair && s % 2 = 1 && (b.pairRuns (s / 2))) (·.pairOut (s / 2))
    let mppt := b.rd Reg.PWR.MPPT_SLOT
    { b with md := { b.md with limitNow := b.is (ofSlot Reg.LOOP.LSTAT_LIM_HI mppt) } }

/-- The outputs written at cycle 3,274 (R34, R269, R307) (assumption 21, DESIGN CHOICE). -/
def loopWrite (b : Block) : Block :=
  if b.loop.ranAt == some b.now && b.loop.wroteAt != some b.now && b.notPast 3274 then
    let ds := b.loop.duties
    let b := { b with loop := { b.loop with wroteAt := some b.now, duties := [] } } |>.phase 3274
    let b := b.each ds fun d => wr (Reg.PWM.DUTY_DUTY d.1 d.2.1) d.2.2
    b.each (List.range 4) fun m => cond (ds.any fun d => d.1 = m) (loadAll m)
  else b

/-- A supervision report (R323): 16 bytes in the ring at `SUPV_ADDR` and a notice on mailbox 7. -/
def supvReport (s kind : Nat) (b : Block) : Block :=
  let band := b.rd (Reg.LW.SUPV_B_BAND s) * (if b.autoNew s then 4 else 1)
  let a := b.rd Reg.LOOP0.SUPV_ADDR_ADDR + 16 * (b.loop.reports % 8)
  let bs := leBytes 1 s ++ leBytes 1 kind ++ leBytes 1 (b.rd (Reg.LW.CFG_ACTION s)) ++ leBytes 1 0
    ++ leBytes 4 (b.rd (ofSlot Reg.LOOP.RESID_R s)) ++ leBytes 4 band ++ leBytes 4 (b.ft / 65536)
  let b := (b.store 0 a bs).1
  { b with loop := { b.loop with reports := b.loop.reports + 1 } } |>.mbxPost 7 3 a 16 0x61

/-- A mode request (R312): DISABLED at once, MAN and AUTO at the slot's next run; 3 is ignored. In SERVICE it is MAIN's explicit
command for the slot's modules (R59) (assumption 155, DEDUCED). -/
def modeRequest (s mode : Nat) (b : Block) : Block :=
  if 3 ≤ mode then b
  else if b.is (Reg.HDR.FREEZE (slotPage s)) then b.err (slotPage s) 2
  else if mode = 0 then b.disableSlot s
  else
    let cause := b.refuseCause s mode
    if cause ≠ 0 then b.refuseMode s cause
    else b |>.wr (ofSlot Reg.LOOP.MODE_MODE s) mode |>.wr (ofSlot Reg.LOOP.LSTAT_REFUSE s) 0
      -- MAIN's command for the modules that the slot drives (R59)
      |>.each ((targetLegs (b.slotTarget s)).map (·.1)).eraseDups svcCommand

end Block

/-- LOOP_RUN (R299). -/
def execLoopRun (s : State) : Host.Outcome State Fault Refusal := s.run Block.loopRun

/-- LOOP_OUTPUT_WRITE (R34). -/
def execLoopOutputWrite (s : State) : Host.Outcome State Fault Refusal := s.run Block.loopWrite

/-- LOOP_MODE_REQUEST (R312): a write of `mode` to the slot's `MODE`. -/
def execLoopModeRequest (slot : Fin 32) (mode : Fin 4) (s : State) : Host.Outcome State Fault Refusal :=
  s.run (Block.modeRequest slot mode)

/-- FAULT_SLOT_MAN (R274, R324): the drip edge after a latch. -/
def execFaultSlotMan (s : State) : Host.Outcome State Fault Refusal :=
  s.run fun b =>
    let ms := (List.range 4).filter fun m => b.drive.latched.getD m false
    { b.modulesToMan ms true with drive := { b.drive with latched := [false, false, false, false] } }

/-- INJECTION_START (R318): a write of 1 to `INJ_CTRL.START`, honoured only in SERVICE. -/
def Block.injectStart (b : Block) : Block :=
  let slot := b.rd Reg.LOOP0.INJ_CFG_SLOT
  let kind := b.rd Reg.LOOP0.INJ_CFG_KIND
  let point := b.rd Reg.LOOP0.INJ_CFG_POINT
  if b.mode != .service || (point = 0 && b.slotCur slot != 2) then b.wr Reg.LOOP0.INJ_STAT_RES 4
  else
    { b with loop := { b.loop with inject := some {
        slot, point, kind, hold := b.rd Reg.LOOP0.INJ_CFG_HOLD, amp := b.rdI Reg.LOOP0.INJ_AMP_AMP
        lfsr := if kind = 1 then 511 else 2047 } } }
      |>.wr Reg.LOOP0.INJ_STAT_RES 1

def execInjectionStart (s : State) : Host.Outcome State Fault Refusal := s.run Block.injectStart

/-- INJECTION_STOP (R318). -/
def execInjectionStop (s : State) : Host.Outcome State Fault Refusal := s.run (Block.endInjection 2)

/-- CAP_CTRL_START (R319); a start while a capture runs is ignored. -/
def Block.captureStart (b : Block) : Block :=
  if b.loop.capture.isSome then b
  else
    { b with loop := { b.loop with capture := some {
        slot := b.rd Reg.LOOP0.CAP_CFG_SLOT, addr := b.rd Reg.LOOP0.CAP_ADDR_ADDR
        n := min 4096 (max 1 (b.rd Reg.LOOP0.CAP_CFG_N)), dec := b.rd Reg.LOOP0.CAP_CFG_DEC
        trig := b.is Reg.LOOP0.CAP_CFG_TRIG } } }
      |>.wr Reg.LOOP0.CAP_STAT_RES 1 |>.wr Reg.LOOP0.CAP_STAT_COUNT 0

def execCapCtrlStart (s : State) : Host.Outcome State Fault Refusal := s.run Block.captureStart

/-- CAP_CTRL_ABORT (R319); ignored once the last sample has been written. -/
def execCapCtrlAbort (s : State) : Host.Outcome State Fault Refusal := s.run (Block.endCapture 4)

/-- SUPERVISION_FAIL (R321): `N` consecutive samples out of band. -/
def Block.supvFail (s : Nat) (b : Block) : Block :=
  if b.rd (Reg.LW.SUPV_N_N s) ≤ (b.slot s).bad ∧ b.slotCur s ≠ 0 ∧ ¬ b.is (ofSlot Reg.LOOP.LSTAT_SUPV_FAIL s) then
    let act := b.rd (Reg.LW.CFG_ACTION s)
    let b := b |>.wr (ofSlot Reg.LOOP.LSTAT_SUPV_FAIL s) 1 |>.irq (slotPage s) (s % 8)
      |>.err (slotPage s) 1 (sub := s % 8) |>.supvReport s 0 |>.imposeMan s
    b.cond (2 ≤ act) (·.wrI (ofSlot Reg.LOOP.MAN_OUT_OUT s) (b.openOut s))
  else b

def execSupervisionFail (slot : Fin 32) (s : State) : Host.Outcome State Fault Refusal :=
  s.run (Block.supvFail slot)

/-- SUPERVISION_RECOVER (R321): `N` consecutive samples within the band. -/
def Block.supvRecover (s : Nat) (b : Block) : Block :=
  if b.rd (Reg.LW.SUPV_N_N s) ≤ (b.slot s).good ∧ b.is (ofSlot Reg.LOOP.LSTAT_SUPV_FAIL s) then
    b |>.wr (ofSlot Reg.LOOP.LSTAT_SUPV_FAIL s) 0 |>.supvReport s 1
  else b

def execSupervisionRecover (slot : Fin 32) (s : State) : Host.Outcome State Fault Refusal :=
  s.run (Block.supvRecover slot)

end Sys2Proof.Machine
end

