-- ==== Sys2Proof/Machine/Time.lean ====
section
/-! DEFINITION. Field time (13_coop_radio.md, R416 to R424): sources, steps, slews and era steps. -/

namespace Sys2Proof.Machine
namespace Block

def sat32i (i : Int) : Int := clampInt (-2147483648) 2147483647 i

def eraOfs (b : Block) : Int := signedOf 64 (b.rd (Reg.TIME.ERA_OFS_OFS 0) + b.rd (Reg.TIME.ERA_OFS_OFS 1) * 2 ^ 32)

/-- A field time in ns. -/
def ftNs (ft : Nat) : Int := (ft / 65536 * 100000 + ft % 65536 * 100000 / 16368 : Nat)

/-- R417: the difference T − F in ns of a sample of GPS time at a known field time. -/
def timeDelta (b : Block) (sec ns ft : Nat) : Int := (sec * 1000000000 + ns : Nat) + b.eraOfs * 100000 - ftNs ft

def gnssValid (b : Block) : Bool := b.time.gnssAt.any fun t => b.now ≤ t + b.rd Reg.TIME.CFG_GNSS_TO * 1000

def baseValid (b : Block) : Bool :=
  b.time.baseAt.any fun t => b.now ≤ t + b.rd Reg.TIME.CFG_BASE_MISS * b.time.period * 10000

/-- `STAT.SRC`: the highest source that is valid (R416). -/
def showSource (b : Block) : Block :=
  let s := if b.gnssValid then 2 else if b.baseValid then 1 else 0
  b |>.cond (s != b.rd Reg.TIME.TSTAT_SRC) (·.irq 0x2D 2) |>.wr Reg.TIME.TSTAT_SRC s

/-- Larger than `CFG.DEFER` in FIELD (R417). -/
def timeDefers (b : Block) (a : TimeAct) : Bool :=
  b.mode == .field && b.rd Reg.TIME.CFG_DEFER < (if a.slew then ceilDiv a.amount 100000 else a.amount)

def setAct (a : Option TimeAct) (b : Block) : Block :=
  { b with time := { b.time with act := a } } |>.wrB Reg.TIME.TSTAT_DEFER (a.any b.timeDefers)

/-- What a slew in force still has to lose, judged anew (R418) (assumption 109, DEDUCED). -/
def renewSlew (need : Nat) (b : Block) : Block :=
  let renew (s : Slew) : Slew := { s with need, began := b.now }
  { b with time := { b.time with slew := b.time.slew.map renew } }

/-- Table RAD-8: `d` ns, from a base sample or not (assumption 109, DEDUCED). -/
def timeJudge (d : Int) (base : Bool) (b : Block) : Block :=
  let b := b.wrI Reg.TIME.RESID_NS (sat32i d)
  if !b.powered then b
  else
    let b := b.setAct none
    let act (slew : Bool) (amount : Nat) : TimeAct := { slew, amount, since := b.tick.pools }
    if d.natAbs < 100000 then b.renewSlew (-d).toNat
    else if 0 < d then b |>.renewSlew 0 |>.setAct (some (act false (d.toNat / 100000)))
    else if -2000000000 ≤ d then
      if b.time.slew.isSome then b.renewSlew d.natAbs else b.setAct (some (act true d.natAbs))
    else
      let n : Int := roundDiv (-d) 100000
      let o := unsignedOf 64 (b.eraOfs + n)
      b |>.renewSlew 0 |>.wr (Reg.TIME.ERA_OFS_OFS 0) (o % 2 ^ 32) |>.wr (Reg.TIME.ERA_OFS_OFS 1) (o / 2 ^ 32)
        |>.incWrap Reg.TIME.TSTAT_ERA |>.inc Reg.TIME.STEPS_BACK |>.irq 0x2D 3
        |> fun b => b |>.sysEvent 6 0x2D (unsignedOf 32 (sat32i (-n))) b.era
          |>.cond base (·.verdict (Verdict.ra 5) 0x2D)

/-- A sample of GNSS (R242, R416) (assumption 111, DEDUCED). -/
def gnssSample (d : Int) (b : Block) : Block :=
  { b with time := { b.time with gnssAt := some b.now } } |>.showSource |>.timeJudge d false

/-- A base time sample (R411, R416, R422) (assumption 110, DEDUCED). -/
def baseSample (d : Int) (b : Block) : Block :=
  let us := sat32i (roundDiv d 1000)
  let b := { b with time := { b.time with baseAt := some b.now } } |>.showSource |>.wrI Reg.TIME.BASE_RESID_US us
  if b.rd Reg.TIME.TSTAT_SRC = 2 then
    let n := if 1000 < us.natAbs then b.time.disagree + 1 else 0
    { b with time := { b.time with disagree := if 10 ≤ n then 0 else n } }
      |>.cond (10 ≤ n) (·.sysEvent 0x0E 0x2D (unsignedOf 32 us) 0)
  else if b.powered then b.timeJudge d true
  else { b with time := { b.time with held := some d } } |>.wrI Reg.TIME.RESID_NS (sat32i d)

/-- A sample given in GPS time at a field time. -/
def timeSample (gnss : Bool) (sec ns ft : Nat) (b : Block) : Block :=
  let d := b.timeDelta sec ns ft
  if gnss then b.gnssSample d else b.baseSample d

/-- The pool edge's part: the base sample of a DARK window is judged in the next powered mode (R411); what waited for
FIELD to be left waits no more. -/
def timePool (b : Block) : Block :=
  let b := b.setAct b.time.act
  match b.time.held with
  | some d =>
    { b with time := { b.time with held := none } } |>.cond (b.baseValid && !b.gnssValid) (·.timeJudge d true)
  | none => b

/-- FIELD_TIME_STEP: the forward step at a pool edge after its sample. -/
def timeStep (b : Block) : Block :=
  match b.time.act with
  | some a =>
    if !a.slew && b.drip = 0 && a.since < b.tick.pools && b.powered && !b.timeDefers a then
      { b with ft := b.ft + a.amount * 65536 } |>.setAct none |>.inc Reg.TIME.STEPS_FWD |>.irq 0x2D 0
    else b
  | none => b

/-- The CAN controller runs, so that slews go by SYNC (R418). -/
def bySync (b : Block) : Bool := b.is Reg.HDR.CAN_RUN

/-- SLEW_START: the SOF of the SYNC queued with SLEW, or a pool edge while the CAN controller is disabled. -/
def slewStart (b : Block) : Block :=
  match b.time.act with
  | some a =>
    if a.slew && b.powered && !b.timeDefers a && (if b.bySync then a.armed else b.drip = 0) then
      { b with time := { b.time with slew := some { need := a.amount, began := b.now, bySync := b.bySync } } }
        |>.setAct none |>.wr Reg.TIME.TSTAT_SLEW 1 |>.inc Reg.TIME.STEPS_BACK
    else b
  | none => b

/-- SLEW as the SYNC queued now carries it (R418). -/
def syncSlew (b : Block) : Block × Bool :=
  match b.time.slew, b.time.act with
  | some s, _ =>
    let done := decide (2 * s.need ≤ (b.now - s.began) * 100000)
    let s' : Slew := { s with ending := done }
    ({ b with time := { b.time with slew := some s' } }, !done)
  | none, some a =>
    if a.slew && !b.timeDefers a then
      let a' : TimeAct := { a with armed := true }
      ({ b with time := { b.time with act := some a' } }, true)
    else (b, false)
  | none, none => (b, false)

/-- A slew ends; what it lost too much is stepped forward at the next pool edge (assumption 109, DEDUCED). -/
def slewStop (b : Block) : Block :=
  match b.time.slew with
  | some s =>
    let excess := ((b.now - s.began) * 50000 - s.need) / 100000
    let step : TimeAct := { slew := false, amount := excess, since := b.tick.pools }
    { b with time := { b.time with slew := none } } |>.wr Reg.TIME.TSTAT_SLEW 0 |>.irq 0x2D 1
      |>.cond (0 < excess && b.time.act.isNone) (·.setAct (some step))
  | none => b

/-- SLEW_END: the SOF of a SYNC with SLEW clear, or the end of a timed slew (R418). -/
def slewEnd (b : Block) : Block :=
  match b.time.slew with
  | some s =>
    let due := s.began + 2 * ceilDiv s.need 100000
    if s.bySync && b.bySync then b.cond s.ending slewStop
    -- a slew that a SYNC began ends without one at its time, or at the first pool edge after it
    else b.cond (decide (due ≤ b.now) && (!s.bySync || decide (b.now = due) || b.drip = 0)) slewStop
  | none => b

/-- The powered modes are left: pending actions are dropped and a slew ends without its overshoot step (R417). -/
def timeOff (b : Block) : Block :=
  { b with time := { b.time with act := none, slew := none } } |>.wr Reg.TIME.TSTAT_SLEW 0 |>.wr Reg.TIME.TSTAT_DEFER 0

/-- Field time at a drip edge: the rest of the drip, half as much under a slew, and realigned forward to the edge after an
action (R9, R32, R417, R418) (assumption 108, DEDUCED). -/
def timeEdge (b : Block) : Block :=
  let ft := ftPlus b.ft (b.ftCycles 16368 - b.ftCycles (b.rd Reg.TICK.CYC_CYC))
  { b with
    ft := if b.time.slew.isSome || ft % 65536 = 0 then ft else (ft / 65536 + 1) * 65536
    now := b.now + 1 }

/-- A drip's time while the tick is frozen: no edge, and field time goes on in TIME (R56). -/
def timePass (b : Block) : Block := { b with ft := ftPlus b.ft (b.ftCycles 16368), now := b.now + 1 }

/-- Time that passes on the AON clock while SYS is off (R417) (assumption 44, DEDUCED). -/
def doze (cycles : Nat) (b : Block) : Block :=
  if b.powered then b
  else
    let t := b.time.frac + cycles * 10000
    { b with
      ft := b.ft + t / 32768 * 65536, now := b.now + t / 32768, time := { b.time with frac := t % 32768 } }

/-- A write of `SEED.HI` (R419). The era is kept: the AON loss took it from the recorder (assumption 112, DEDUCED). -/
def seed (hi : Nat) (b : Block) : Block :=
  let v := (b.rd (Reg.TIME.SEED_FT 0) + hi * 2 ^ 32) / 65536
  if b.rd Reg.TIME.TSTAT_SRC = 0 ∧ b.is Reg.TIME.TSTAT_AON_LOST ∧ ¬ b.is Reg.TIME.TSTAT_SEED_USED ∧ b.ftDrips < v then
    let step : TimeAct := { slew := false, amount := v - b.ftDrips, since := b.tick.pools }
    b |>.wr Reg.TIME.TSTAT_SEED_USED 1 |>.setAct (some step)
  else b

end Block

/-- TIME_SAMPLE (R416, R417): GPS time at a field time, from GNSS or from the base. -/
def execTimeSample (gnss : Bool) (sec : Word) (ns : BitVec 30) (ft : BitVec 64) (s : State) :
    Host.Outcome State Fault Refusal := s.run (Block.timeSample gnss sec.toNat ns.toNat ft.toNat)

/-- FIELD_TIME_STEP (R417). -/
def execFieldTimeStep (s : State) : Host.Outcome State Fault Refusal := s.run Block.timeStep

/-- SLEW_START (R418). -/
def execSlewStart (s : State) : Host.Outcome State Fault Refusal := s.run Block.slewStart

/-- SLEW_END (R418). -/
def execSlewEnd (s : State) : Host.Outcome State Fault Refusal := s.run Block.slewEnd

/-- TIME_SOURCE_TIMEOUT (R416). -/
def execTimeSourceTimeout (s : State) : Host.Outcome State Fault Refusal := s.run Block.showSource

/-- SEED (R419): MAIN writes `TIME.SEED` HI. -/
def execSeed (hi : Word) (s : State) : Host.Outcome State Fault Refusal := s.run (Block.seed hi.toNat)

end Sys2Proof.Machine
end

