-- ==== Sys2Proof/Machine/Modes.lean ====
section
/-! DEFINITION. The debug level (R103 to R111), entering a mode and SAFE (R58, R59, R63, R64), the evaluation of
drip 99, the ladder, and the requests to the mode controller (03_sun_following_modes.md). -/

namespace Sys2Proof.Machine
namespace Block

/-! Debug levels (Tables SEC-1 and DBG-3). -/

/-- Default level by lifecycle code. -/
def levelDefault (lc : Nat) : Nat := [2, 1, 0, 1].getD lc 1

/-- Cell maximum by lifecycle code and mode; 0 where the port is unpowered. -/
def levelMax (lc : Nat) (m : Mode) : Nat :=
  match m with
  | .shelf | .dark | .snapshot => 0
  | .pump | .field => 1
  | .service => 2
  | .wake | .safe => if lc = 2 then 1 else 2

/-- `KEY.SLOT_STAT`: EMPTY, VALID or PENDING of each slot; S00 shows EMPTY (assumption 125, DESIGN CHOICE). -/
def showSlots (b : Block) : Block :=
  b.wr Reg.KEY.SLOT_STAT_S ((List.range 16).foldl (fun a n =>
    a + 4 ^ n * (if b.sec.pending.any (·.1 == n) then 2 else if (b.sec.slots.getD n none).isSome then 1 else 0)) 0)

/-- The replay table empties when a radio key is rewritten or erased (R401). -/
def radioKeyTouched (n : Nat) (b : Block) : Block :=
  if n = 3 ∨ n = 4 then { b with radio := { b.radio with replay := [] } } else b

/-- A key slot erased (R106): the slot reads EMPTY, a pending rewrite falls, work that holds it is lost. What `OP_STAT` and
`KEY_PENDING` show of a rewrite that falls so stands (assumption 173, DESIGN CHOICE). -/
def zeroSlot (n : Nat) (b : Block) : Block :=
  let lose (t : RadioTx) : RadioTx := if t.key = n then { t with keyLost := true } else t
  let b := { b with radio := { b.radio with tx := b.radio.tx.map lose } }
  showSlots <| radioKeyTouched n { b with sec := { b.sec with
      slots := b.sec.slots.set n none
      pending := b.sec.pending.filter (·.1 != n)
      job := b.sec.job.map fun (j : Job) => if j.slot = n ∧ j.op ≠ 6 then { j with keyLost := true } else j
      keyOp := b.sec.keyOp.map fun (k : KeyOp) => if k.slot = n then { k with keyLost := true } else k } }

/-- Halted agents resume and breakpoints clear (R111). -/
def resumeAll (b : Block) : Block :=
  { b with dbg := { b.dbg with breakpoints := [] } }
    |>.wr Reg.DBG.HALT_MAIN 0 |>.wr Reg.DBG.HALT_GNSS 0 |>.wr Reg.DBG.HALT_RADIO 0 |>.mbxSweep

/-- The effective level recomputed (R103), with the entry actions of Table DBG-4 (R105, R110, R111). -/
def relevel (b : Block) : Block :=
  let lc := b.lifecycle
  let auth := if b.powered then max (levelDefault lc) b.dbg.won else 0
  let top := levelMax lc b.mode
  let eff := min auth (min top (b.rd Reg.DBG.LEVEL_CEIL))
  let old := b.level
  let b := b.cond (old = 2 && eff < 2) resumeAll
  let b := if eff = 2 ∧ old < 2 ∧ lc = 2 then
      b |>.zeroSlot 2 |>.zeroSlot 3 |>.zeroSlot 4 |>.verdict (Verdict.ra 10) 0x06
    else b
  let b := b |>.wr Reg.DBG.LEVEL_EFF eff |>.wr Reg.DBG.LEVEL_AUTH auth |>.wr Reg.DBG.LEVEL_MAX top
    |>.wrB Reg.DBG.LEVEL_PORT_PWR b.powered |>.cond (old != eff) (·.irq 0x06 0)
  let stat := b.rd Reg.DBG.CHAL_STAT_RES
  b.cond (b.dbg.won != 0 && (stat = 1 || stat = 2)) (·.wr Reg.DBG.CHAL_STAT_RES (if eff = auth then 1 else 2))

/-- The authorization won by a challenge ends (R103, R110). -/
def endAuth (b : Block) : Block :=
  let won := b.dbg.won != 0
  { b with dbg := { b.dbg with won := 0, wonEnd := none } }
    |>.cond won (fun b => b |>.wr Reg.DBG.CHAL_STAT_RES 0 |>.wr Reg.DBG.REMAIN_MIN 0)

/-! Domains and modes. -/

/-- The domains of Table MODE-1, in the bit order of `CLK.STAT.RUN`, NFC apart. -/
def modeDomains : Mode → Nat
  | .shelf | .dark | .snapshot => 0x80
  | .wake => 0xFD
  | .pump | .field | .service => 0xFF
  | .safe => 0xF1

/-- The registers of a page that only show what its block holds: read-only ones, and counts that a read clears. Those that AON
holds, what follows from the stored bit timing, and the snapshot slots, which go with their banks (R255), are not the domain's
own. -/
def statusFields (p : Nat) : List Fld :=
  (Reg.allFields (Reg.blockRows p)).filter fun f =>
    (f.acc == .ro || f.acc == .rc)
      && !([Reg.RADSEC.FC_FC, Reg.CAN.BITRATE_RATE, Reg.CAN.BITRATE_SP, Reg.GSNAP.SLOTS_S].contains f) && !(p = 0x29 && 0x050 ≤ f.off)

/-- The status registers of the pages of a domain at their reset values. -/
def clearStatus (n : Nat) (b : Block) : Block :=
  { b with regs := b.regs.filter fun e =>
      !(domainOf (pageOfKey e.1) = n && ((statusFields (pageOfKey e.1)).map Fld.key).contains e.1) }

/-- What a domain of the radio, the CAN controller or the receiver loses as soon as it is gated, and shows when it runs again
(R58, R334). -/
def canGate (b : Block) : Block :=
  { b.clearStatus 5 with can := { ringBase := b.can.ringBase, ringLog := b.can.ringLog } } |>.wr Reg.CANRX.RING_TAIL_IDX 0
    |>.wr (Reg.HDR.EN 0x26) 0 |>.wr Reg.HDR.CAN_RUN 0 |>.wr (Reg.HDR.FREEZE 0x26) 0

/-- A domain runs again: the state of its blocks is as at reset, and the receiver starts anew; the configuration
registers of the pages stand, so that what the loader replays in WAKE is in force in PUMP (R58, R133)
(assumption 36, DEDUCED). -/
def domainStart (n : Nat) (b : Block) : Block :=
  if n = 1 then
    let b := b.clearStatus 1
    let mode := b.rd (Reg.PWM.COMM_MODE 0)
    { b with drive := { b.drive with commOff := false, misses := 0, waited := 0, zcEdge := none, bbPulse := none, turned := [] } }
      |>.wrB (Reg.HDR.PWM_COMM_ON 0) (mode != 0) |>.wr (Reg.PWM.COMM_STAT_STEP 0) (if mode = 0 then 0 else b.rd (Reg.PWM.COMM_START 0))
      |>.each (List.range 4) fun m b =>
        -- within a drip, a tick-locked counter waits for the next edge (R272)
        let from_ := if b.is (Reg.PWM.CFG_TLOCK m) && !b.atEdge then b.now + 1 else 0
        b |>.setPwm m (fun _ => { freq := b.pwmFreq m, startAt := from_ }) |>.wr (Reg.HDR.PWM_LD_PEND m) 0
          |>.wr (Reg.PWM.PER_PER m) (pwmPeriod (b.pwmFreq m)) |>.dtRestart m
  else if n = 2 then
    { b.clearStatus 2 with gnss := { b.gnss with
        floor := [0, 0], goodPools := [0, 0], jamPools := [0, 0], startDue := true } }
      |>.each (List.range 8) fun k b => b |>.wr (Reg.GNOTCH.NSTAT_ACTIVE k) 0 |>.wr (Reg.GNOTCH.NSTAT_CONV k) 0
        |>.wr (Reg.GNOTCH.NSTAT_CUR k) 0
  else if n = 3 then
    { b.clearStatus 3 with gnss := { b.gnss with
        chans := List.replicate 48 {}, search := none, fft := none, coldJob := none, fftHeld := none, jobDone := none, edged := false, startDue := true } }
  else if n = 4 then { b.clearStatus 4 with adc := {} }
  else if n = 5 then b.canGate
  else if n = 6 then
    { b.clearStatus 6 with radio := { b.radio with queue := [], tx := none, frames := [], micRun := 0 } }
  else if n = 8 then
    { b with tag := { b.tag with state := .idle, sector := 0, judged := false } }
      |>.wr Reg.TAG.FSTAT_AUTH 0 |>.wr Reg.TAG.FSTAT_ACTIVE 0
  else b

/-- What runs in a mode at times: RAD in a DARK window, SYS and GSMP at a capture of SNAPSHOT, NFC in a reader's field
(Table MODE-1). -/
def timedDomain (b : Block) (n : Nat) : Bool :=
  if n = 6 then b.mode == .dark && (b.radio.window.any (b.now ≤ ·) || b.radio.listening.any (b.now ≤ ·))
  else if n = 0 || n = 2 then b.mode == .snapshot && !b.gnss.grabs.isEmpty
  else n = 8 && b.is Reg.TAG.FSTAT_FIELD

/-- `CLK.STAT.RUN` for the current mode: gates of SERVICE and the domains fallback timing leaves off (R57)
(assumption 36, DEDUCED). -/
def showDomains (b : Block) : Block :=
  let gate := if b.mode == .service then b.rd Reg.CLK.SVC_GATE_FORCE_OFF else 0
  let off := if b.is Reg.HDR.TICK_FALLBACK then gate ||| 0x0E else gate
  let on := (List.range 9).filter fun n =>
    ((modeDomains b.mode).testBit n || b.timedDomain n) && (n = 0 || n = 7 || !off.testBit n)
  let old := b.rd Reg.CLK.CSTAT_RUN
  -- R334: the controller stops as its domain is gated
  let b := b.cond (old.testBit 5 && !on.contains 5) canGate
  let b := b.each (on.filter fun n => !old.testBit n) domainStart
  b.wr Reg.CLK.CSTAT_RUN (on.foldl (fun a n => a + 2 ^ n) 0)

/-- A test that runs or waits ends ABORTED (R489). -/
def abortTest (t : Test) (b : Block) : Block :=
  let drop (l : List Test) := l.filter fun x => !(x.page == t.page && x.flt == t.flt)
  { b with test := { b.test with running := drop b.test.running } }
    |>.showTests t.page |>.wr (Reg.HDR.TEST_RES t.page) 3
    |>.wr Reg.STEST.LAST_PAGE t.page |>.wr Reg.STEST.LAST_RES 3 |>.wr Reg.STEST.LAST_CLASS 0
    |>.wr Reg.STEST.LAST_ESC 0 |>.wr Reg.STEST.LAST_BIT t.bit |>.inc Reg.STEST.COUNTS_ABORT
    |>.cond t.retest (·.wr Reg.STEST.RETEST_RES_RES 4) |>.irq 0x2E 0
    |>.raise { code := 0x4003, source := t.page, severity := 1 }
    -- R503: the SAFE test that follows a latch starts again
    |>.cond (t.page = 0x25 && [0, 1].any fun p =>
        b.is (Reg.SAFE.PSTAT_DISC p) || b.is (Reg.SAFE.PSTAT_PULSE p) || b.is (Reg.SAFE.PSTAT_CROSS p))
      (fun b => { b with test := { b.test with pend := b.test.pend ++ [{ t with began := 0 }] } } |>.showTests t.page)

/-- Running tests of pages whose domain is off end ABORTED (R489). -/
def abortOff (b : Block) : Block :=
  b.each b.test.running fun t b => b.cond (!b.domainOn t.page) (·.abortTest t)

/-- Every running test ends ABORTED (R489). -/
def abortAll (b : Block) : Block := b.each b.test.running abortTest

/-- The running tests of a page end ABORTED (R489, R108). -/
def abortPage (page : Nat) (b : Block) : Block := b.each (b.test.running.filter (·.page == page)) abortTest

/-- The ADC is enabled: it converts again from the next drip edge (R559). -/
def adcOn (b : Block) : Block :=
  b |>.cond (!b.is (Reg.HDR.EN 0x24)) (fun b => { b with adc := { b.adc with done := true } }) |>.wr (Reg.HDR.EN 0x24) 1

/-- What ends on leaving SERVICE: gates (Table CLK-1), a pending injection (Table ECC-1), the LED override (R479), a
disabled ADC (R559), test injection (R318), and what held the outputs (R59). -/
def leaveService (b : Block) : Block :=
  { b with sram := { b.sram with inject := none }, drive := { b.drive with svcHold := [false, false, false, false] } }
    |>.wr Reg.CLK.SVC_GATE_FORCE_OFF 0 |>.wr Reg.GPIO.LED_OVR_EN 0 |>.adcOn |>.endInjection 3

/-- The modes in which the receiver runs (R223). -/
def rxMode (m : Mode) : Bool := m == .wake || m == .pump || m == .field || m == .service

/-- Entry into a mode (R58, R59, R63, R83, R103, R186, R223, R313): the codes, the MODE record, the domains, the debug level,
the outputs, the section map and the loop slots. -/
def enterMode (m : Mode) (cause : Nat) (b : Block) : Block :=
  let old := b.mode
  let b := b.cond (old == .service && m != .service) leaveService
  let b := { b with md := { b.md with wakeAt := if m == Mode.wake then b.now else b.md.wakeAt } }
    |>.wr Reg.SYS.MODE_PREV old.code |>.wr Reg.SYS.MODE_CUR m.code |>.wr Reg.SYS.MODE_CAUSE cause
    |>.sysEvent 3 0x00 m.code cause
  let wait := m == Mode.pump && old == Mode.field && b.is Reg.SYS.STANDING_FIELD_REQ
  let b := b |>.cond (m != Mode.pump || old == Mode.field) (·.wrB Reg.SYS.MODE_FIELD_WAIT wait) |>.showDomains |>.abortOff
  let below := if m == Mode.pump || m == Mode.field then b.md.below else [0, 0, 0, 0, 0, 0, 0]
  let b := { b with dbg := { b.dbg with nonce := none }, md := { b.md with next := none, follow := none, above := 0, below, vocPools := 0 } }
  let b := b |>.cond (!m.powered) (fun b => b |>.endAuth |>.mbxClear |>.timeOff) |>.relevel
  let b := { b with gnss := { b.gnss with startDue := b.gnss.startDue || rxMode m } }
  let b := b |>.cond (m == Mode.service) fun b =>
    { b with gal := { b.gal with svcMaps := [] }, drive := { b.drive with svcHold := [true, true, true, true] } }
  b |>.pwmForce |>.imposeGroups |>.mbxSweep

/-- FIELD has been left at once (R75, R86): the gallery closes its sections and writes its checkpoint, no mode following. A
forced checkpoint that runs stays, and a descent that has begun completes (R80). -/
def leaveFrom (field : Bool) (b : Block) : Option Leave :=
  match b.md.leaving with
  | some l => some (if !l.atEdge then l else if field && l.stage < 3 then { goal := none } else { l with goal := none })
  | none => if field then some { goal := none } else none

/-- SAFE entered (R63, R67): the latch, its cause, the record, outputs safe at once; FIELD is left by R75. -/
def enterSafe (code page v cause : Nat) (b : Block) : Block :=
  if !b.powered || b.mode == .safe then b
  else
    let field := b.mode == .field
    let b := { b with md := { b.md with
        safeLatch := true, safeCode := code, safePage := page, safeVerdict := v, step := none, follow := none
        leaving := b.leaveFrom field } }
      |>.wr Reg.SYS.SAFE_CAUSE_CODE code |>.wr Reg.SYS.SAFE_CAUSE_PAGE page
      |>.sysEvent 4 0x00 code page |>.enterMode .safe cause
    b.cond field (·.wr Reg.SYS.MODE_LEAVING 1)

/-! What caps the mode. -/

/-- Mode capped at PUMP: a failed GNSS load, a second coordinator, and the LASTING states of Table ERR-1. -/
def cappedPump (b : Block) : Bool :=
  b.md.gnssFailed || b.md.coordConflict
  || b.test.lasting.any fun l =>
      (!l.esc && 0x10 ≤ l.cls.page && l.cls.page ≤ 0x13 && !(l.cls.page = 0x10 && l.cls.bit = 0))
      || (!l.esc && 0x14 ≤ l.cls.page && l.cls.page ≤ 0x1B && !(l.cls.page = 0x14 && l.cls.bit < 2))
      || (!l.esc && (l.cls.page = 0x26 || l.cls.page = 0x27))

/-- Mode capped at WAKE: calibration section 1, 2 or 3 is invalid (Table CAL-3). -/
def cappedWake (b : Block) : Bool := b.rd Reg.CAL.VALID_SECT % 8 != 7

/-- A LASTING class whose state is SAFE (Table ERR-1, R26, R162, R322). The classes of FENCE are narrowed by agent and those
of a LOOP slot's supervision by slot, which is how the verdicts name them (assumption 137, DEDUCED). -/
def safeClass (b : Block) (l : Lasting) : Bool :=
  let p := l.cls.page
  (p = 0x01 && l.cls.bit != 2)
  || (p = 0x02 && l.cls.bit = 3 && !l.esc)
  || (p = 0x03 && l.cls.bit = 0 && l.cls.sub = 1)
  || (p = 0x07 && (l.cls.sub = 0 || l.cls.sub = 3))
  || ((p = 0x08 || p = 0x09) && !l.esc)
  || (p = 0x0A && !l.esc)
  || (0x1C ≤ p && p ≤ 0x1F && l.cls.bit != 0 && l.cls.bit != 1 && l.cls.bit != 5)
  || (0x20 ≤ p && p ≤ 0x23 && (l.cls.bit = 3 ||
    (l.cls.bit = 1 && b.rd (Reg.LW.CFG_ACTION ((p - 0x20) * 8 + l.cls.sub)) = 3)))
  || p = 0x24 || p = 0x2D

/-- The cause of SAFE is still present (R494); loader-only state ends only at a start (R442). -/
def safeCausePresent (b : Block) : Bool :=
  b.test.lasting.any b.safeClass || b.md.loopFailed || b.is Reg.UPD.USTAT_LOADER_ONLY
  || [0, 1].any fun p => b.is (Reg.SAFE.PSTAT_DISC p) || b.is (Reg.SAFE.PSTAT_PULSE p) || b.is (Reg.SAFE.PSTAT_CROSS p)

/-! Power figures. -/

/-- Array voltage in 0.1 V from the VPV result (R61): 2.5 V over 4,096 codes, times the divider of CAL. -/
def vpvOf (b : Block) : Int :=
  roundDiv (signedOf 16 (b.rd (Reg.ADC.RESN_CORR 4)) * 25 * (b.cal.div.getD 0 2621440 : Nat)) (4096 * 65536)

/-- The unit of `sumPower`: W × this. -/
def powerUnit : Nat := 4096 * 65536 * 10 * 1000000

/-- Power of one sample: VPV × IPV (R61, R287). -/
def powerOf (b : Block) : Int :=
  signedOf 16 (b.rd (Reg.ADC.RESN_CORR 4)) * 25 * (b.cal.div.getD 0 2621440 : Nat)
    * ((signedOf 16 (b.rd (Reg.ADC.RESN_CORR 5)) - (if (b.rd Reg.ADC.BIP_MASK).testBit 5 then 2048 else 0))
      * (b.cal.current.getD 3 1000 : Nat))

/-- The PV samples of a drip enter `VOLT.VPV` and the pool's sums (R61); stale channels and a disabled ADC are left
out (R48, R559). -/
def samplePv (b : Block) : Block :=
  if b.is (Reg.ADC.RESN_STALE 4) || b.is (Reg.ADC.RESN_STALE 5) then b
  else
    let v := (clampInt 0 65535 b.vpvOf).toNat
    { b with md := { b.md with
        sumVpv := b.md.sumVpv + v, sumPower := b.md.sumPower + b.powerOf, samples := b.md.samples + 1 } }
      |>.wr Reg.PWR.VOLT_VPV v

/-- The pool's figures at drip 99 (R61, R62, R79), of a pool at whose end the ADC is enabled (R559). -/
def poolPower (b : Block) : Block :=
  let n := if b.is (Reg.HDR.EN 0x24) then b.md.samples else 0
  let b := if n = 0 then b
    else b.wr Reg.PWR.PPV_PPV (clampInt 0 65535 (roundDiv b.md.sumPower (n * powerUnit))).toNat
  let b := b.wrB Reg.PWR.PPV_SURPLUS (b.md.limited && b.md.limitNow)
  let b := if b.mode == .wake ∧ n ≠ 0 then
      let voc := (b.md.sumVpv * 2 + n) / (2 * n)
      { b with md := { b.md with
          vocPools := if b.rd Reg.PWR.PUMP_VON_VON ≤ voc then b.md.vocPools + 1 else 0 } }
        |>.wr Reg.PWR.VOLT_VOC voc
    else b
  { b with md := { b.md with sumVpv := 0, sumPower := 0, samples := 0 } }

/-! The ladder (R69 to R74). -/

def ladder (b : Block) : Nat := b.rd Reg.PWR.PPV_LEVEL

/-- The class of an antenna as `ANT_STAT.DET` shows it (R226). -/
def antDet (b : Block) (a : Nat) : Nat := b.rd (Reg.GFE.ANT_STAT_DET a)

/-- ANT_B takes part (R226, R227, R228). -/
def antBUse (b : Block) : Bool := b.antDet 1 = 1 && !b.gnss.absent.getD 1 false && b.ladder < 4 && !b.cal.ant.isEmpty

/-- `SHEDk` as stored, k from 1 to 7. -/
def shedField (k : Nat) : Fld :=
  [Reg.PWR.SHED1_P, Reg.PWR.SHED2_P, Reg.PWR.SHED3_P, Reg.PWR.SHED4_P, Reg.PWR.SHED5_P, Reg.PWR.SHED6_P,
    Reg.PWR.SHED7_P].getD (k - 1) Reg.PWR.SHED1_P

/-- The effective `SHEDk` (R72). -/
def shedEff (b : Block) (k : Nat) : Nat :=
  (List.range k).foldl (fun a i => min a (b.rd (shedField (i + 1)))) 0xFFFF

/-- The counts of the evaluation and the step it decides (R70, R71). -/
def ladderEval (b : Block) : Block :=
  if b.mode == .pump || b.mode == .field then
    let ppv := b.rd Reg.PWR.PPV_PPV
    let sur := b.is Reg.PWR.PPV_SURPLUS
    let below := (List.range 7).map fun i =>
      if ppv < b.shedEff (i + 1) ∧ ¬ sur then b.md.below.getD i 0 + 1 else 0
    let l := b.ladder
    let above := if 1 ≤ l ∧ l ≤ 6 ∧ (b.shedEff l + b.rd Reg.PWR.HYST_HYST ≤ ppv ∨ sur) then b.md.above + 1 else 0
    let step := if l < 7 ∧ b.rd Reg.PWR.TIMING_SHED_T ≤ below.getD l 0 then some true
      else if 1 ≤ l ∧ l ≤ 6 ∧ b.rd Reg.PWR.TIMING_RESTORE_T ≤ above then some false
      else none
    { b with md := { b.md with below, above, step } }
  else b

/-- The ladder level after the decided step. -/
def ladderNext (b : Block) : Nat :=
  match b.md.step with
  | some true => b.ladder + 1
  | some false => b.ladder - 1
  | none => b.ladder

/-! Evaluation (R63, R64, R83). -/

def reqStat (res cmd : Nat) (b : Block) : Block := b |>.wr Reg.SYS.REQ_STAT_RES res |>.wr Reg.SYS.REQ_STAT_CMD cmd

/-- FIELD may be entered but for `FIELD_REQ` (Table MODE-2). -/
def fieldOk (b : Block) : Bool := b.ladderNext < 6 && b.agents.gnss && b.level < 2 && !b.cappedPump && !b.cappedWake

/-- FIELD is to be left for a mode (R75). -/
def decideLeave (m : Mode) (cause : Nat) (b : Block) : Block :=
  { b with md := { b.md with leaving := some { goal := some (m, cause) } } }

/-- The transition that power, standing requests and faults decide (Table MODE-2). -/
def decide1 (b : Block) : Block :=
  match b.mode with
  | .wake =>
    if b.is Reg.SYS.STANDING_READY && b.is Reg.SYS.STANDING_PUMP_EN && !b.md.safeLatch && b.md.leaving.isNone
        && b.rd Reg.PWR.TIMING_RESTORE_T ≤ b.md.vocPools && b.md.retryLeft = 0 && !b.cappedWake then
      if b.level = 2 then b.reqStat 3 0 else { b with md := { b.md with next := some (.pump, 8) } }
    else b
  | .pump =>
    if 7 ≤ b.ladderNext then { b with md := { b.md with next := some (.wake, 6) } }
    else if ¬ b.is Reg.SYS.STANDING_PUMP_EN then { b with md := { b.md with next := some (.wake, 9) } }
    else if b.cappedWake then { b with md := { b.md with next := some (.wake, 0xA) } }
    else if b.is Reg.SYS.STANDING_FIELD_REQ then
      let b := b.cond (b.level = 2) (·.reqStat 3 0)
      if b.fieldOk then
        { b with md := { b.md with next := some (.field, if b.md.step = some false ∧ b.ladder = 6 then 7 else 9) } }
          |>.wr Reg.SYS.MODE_FIELD_WAIT 0
      else b.wr Reg.SYS.MODE_FIELD_WAIT 1
    else b.wr Reg.SYS.MODE_FIELD_WAIT 0
  | .field =>
    if b.md.leaving.isSome then b
    else if 6 ≤ b.ladderNext then b.decideLeave .pump 5
    else if ¬ b.is Reg.SYS.STANDING_FIELD_REQ then b.decideLeave .pump 9
    else if b.cappedPump || !b.agents.gnss then b.decideLeave .pump 0xA
    else b
  | _ => b

/-- The mode that the evaluation leads to (R83). -/
def resultMode (b : Block) : Mode :=
  match b.md.next, b.md.leaving with
  | some (m, _), _ => m
  | none, some { goal := some (m, _), .. } => m
  | none, _ => b.mode

/-- A granted request: decided itself, or to follow what the evaluation has decided already (R83). -/
def grant (m : Mode) (b : Block) : Block :=
  if b.md.next.isSome || b.md.leaving.any (·.goal.isSome) then { b with md := { b.md with follow := some (m, 9) } }
  else if b.mode == .field then b.decideLeave m 9
  else { b with md := { b.md with next := some (m, 9) } }

/-- A descent has begun, or the way to SHELF. -/
def goingDown (b : Block) : Bool := b.md.leaving.any fun l => !l.atEdge || l.goal.any (·.1 == Mode.shelf)

/-- The request judged from the resulting mode (R83, R494) (assumption 24, DEDUCED). -/
def judgeRequest (b : Block) : Block :=
  let cmd := b.md.request
  let r := b.resultMode
  let go (m : Mode) (b : Block) : Block := b |>.grant m |>.reqStat 1 cmd
  let b := { b with md := { b.md with request := 0 } }
  if cmd = 0 then b
  else if b.goingDown ∨ b.is Reg.UPD.USTAT_LOADER_ONLY then b.reqStat (if cmd = 4 then 5 else 2) cmd
  else if cmd = 1 ∧ (r == .wake || r == .pump || r == .field || r == .safe) then b |> go .service
  else if cmd = 2 ∧ r == .service then b |> go .wake
  else if cmd = 4 ∧ r == .safe then (if b.safeCausePresent then b.reqStat 5 cmd else b |> go .wake)
  else if cmd = 5 ∧ (r == .wake || r == .service) then b |> go .shelf
  else b.reqStat 2 cmd

/-- The evaluation of drip 99 (R63, R83): power first, then requests (assumption 24, DEDUCED). -/
def evaluate (b : Block) : Block :=
  if b.drip = 99 ∧ b.powered then
    b |>.poolPower |>.ladderEval |>.decide1 |>.judgeRequest
  else b

/-- A step-7 shed (R74): the retry wait, its doubling within 10 minutes of the one before, and PW01 at a third within 10
minutes. A wait that has not returned to `RETRY_MIN` stays. -/
def shed7 (b : Block) : Block :=
  let now := b.md.pools
  let recent := b.md.sheds7.filter fun t => now < t + 60000
  let wait := if b.md.retryWait = 0 then b.rd Reg.PWR.RETRY_RETRY_MIN
    else if recent = [] then b.md.retryWait else min 60000 (2 * b.md.retryWait)
  let sheds := now :: recent
  { b with md := { b.md with retryLeft := wait, retryWait := wait, since7 := 0, sheds7 := sheds } }
    |>.cond (3 ≤ sheds.length) (·.verdict (Verdict.pw 1) 0x02 3)

/-- The MPPT slot's start at the entry into PUMP (R79): 0.76 × `VOC` as its setpoint in VPV LSB and Q8, then AUTO. -/
def startMppt (b : Block) : Block :=
  let s := b.rd Reg.PWR.MPPT_SLOT
  let code := roundDiv ((b.rd Reg.PWR.VOLT_VOC * 76 * 4096 * 65536 * 256 : Nat) : Int)
    (100 * 25 * max 1 (b.cal.div.getD 0 2621440))
  b |>.wrI (ofSlot Reg.LOOP.SP_SP s) (sat32 code) |>.modeRequest s 2

/-- The start-up self-tests, which MAIN started before `READY`, are requested again (Table MODE-2)
(assumption 124, DEDUCED). -/
def startUpTests (b : Block) : Block :=
  b.each b.test.startUp fun p b =>
    b.cond (!(b.test.pend.any (·.page == p)) && !(b.test.running.any (·.page == p))) fun b =>
      { b with test := { b.test with pend := b.test.pend ++ [({ page := p, diag := true } : Test)] } }
        |>.showTests p

/-- A decided transition takes effect (Table MODE-2, R73). -/
def applyMode (m : Mode) (cause : Nat) (b : Block) : Block :=
  let old := b.mode
  let b := b.enterMode m cause
  match m, old with
  | .pump, .wake =>
    b |>.cond (b.ladder = 7) (·.wr Reg.PWR.PPV_LEVEL 6) |>.startMppt
  | .wake, .pump =>
    b.each (List.range 32) fun s b => b.cond (b.rd (Reg.LW.CFG_GROUP s) = 1) (·.imposeMan s)
  | .wake, .safe =>
    { b with md := { b.md with safeLatch := false, safeVerdict := 0 } } |>.sysEvent 5 0x00 0 0 |>.startUpTests
  | _, _ => b

end Block

/-! Requests to the mode controller (Table SYS-1 `REQ`). -/

/-- SERVICE_REQUEST (R64): judged at the next evaluation (R83) (assumption 24, DEDUCED). -/
def Block.request (cmd : Nat) (b : Block) : Block :=
  if cmd = 3 then
    if b.powered && b.mode != .safe then b |>.enterSafe 0 0 0 9 |>.reqStat 1 3 else b.reqStat 2 3
  else if 1 ≤ cmd ∧ cmd ≤ 5 then
    if b.powered then { b with md := { b.md with request := cmd } } else b.reqStat 2 cmd
  else b

def execServiceRequest (s : State) : Host.Outcome State Fault Refusal := s.run (Block.request 1)

/-- LEAVE_SERVICE (R64). -/
def execLeaveService (s : State) : Host.Outcome State Fault Refusal := s.run (Block.request 2)

/-- SAFE_REQUEST (R64): SAFE within one drip (R63). -/
def execSafeRequest (s : State) : Host.Outcome State Fault Refusal := s.run (Block.request 3)

/-- SAFE_CLR (R494). -/
def execSafeClr (s : State) : Host.Outcome State Fault Refusal := s.run (Block.request 4)

/-- SHELF_REQUEST (R64). -/
def execShelfRequest (s : State) : Host.Outcome State Fault Refusal := s.run (Block.request 5)

/-- READY_SET (R77): MAIN sets `STANDING.READY`; a write of 0 is ignored. -/
def execReadySet (s : State) : Host.Outcome State Fault Refusal := s.run (Block.wr Reg.SYS.STANDING_READY 1)

/-- MODE_EVALUATION (R63, R83, R61, R79): drip 99. -/
def execModeEvaluation (s : State) : Host.Outcome State Fault Refusal := s.run Block.evaluate

end Sys2Proof.Machine
end

