-- ==== Sys2Proof/Machine/Stest.lean ====
section
/-! DEFINITION. Targeted tests, escalation and recovery (16_errors_selftest_safety.md, R485 to R511). -/

namespace Sys2Proof.Machine

/-- Bits of each page's `ERR` register, from the page references. -/
def errBits (page : Nat) : Nat :=
  if page = 0x01 then 4 else if page = 0x02 then 5 else if page = 0x03 then 3 else if page = 0x04 then 3
  else if page = 0x05 then 2 else if page = 0x07 ∨ page = 0x09 then 1 else if page = 0x0A ∨ page = 0x0B then 2
  else if page = 0x0D then 4 else if page = 0x0E ∨ page = 0x0F then 2 else if page = 0x10 then 5
  else if page = 0x14 then 7 else if page = 0x17 then 1 else if 0x1C ≤ page ∧ page ≤ 0x1F then 6
  else if 0x20 ≤ page ∧ page ≤ 0x23 then 5 else if page = 0x24 then 3 else if page = 0x25 then 6
  else if page = 0x26 then 6 else if page = 0x27 ∨ page = 0x28 then 2 else if page = 0x29 then 1
  else if page = 0x2A then 4 else if page = 0x2B then 2 else if page = 0x2F then 4 else 1

/-- The verdict of a class that becomes LASTING (Table ERR-1 and the chapters); 0 none. -/
def lastingVerdict (c : ErrClass) (esc : Bool) : Nat :=
  let p := c.page
  if p = 0x01 then (if c.bit = 1 then Verdict.pw 6 else if c.bit = 2 then Verdict.pw 7 else Verdict.pw 5)
  else if p = 0x02 then [Verdict.pw 4, Verdict.pw 3, Verdict.pw 2, Verdict.pw 8, Verdict.pw 9].getD c.bit 0
  else if p = 0x03 then
    (if c.bit ≠ 0 then 0
     else [0, Verdict.pd 9, Verdict.se 9, Verdict.bu 9, Verdict.bu 9, Verdict.gn 9, Verdict.bu 9].getD c.sub 0)
  else if p = 0x04 then (if c.bit = 0 then Verdict.me 10 else if c.bit = 2 then Verdict.me 11 else 0)
  else if p = 0x05 then Verdict.me 8
  else if p = 0x07 then Verdict.me 3
  else if p = 0x08 ∨ p = 0x09 then Verdict.me 14
  else if p = 0x0A then (if esc then Verdict.me 2 else Verdict.me 1)
  else if p = 0x0B then Verdict.me 5
  else if p = 0x0D then (if c.bit = 0 then Verdict.me 9 else if c.bit = 2 then Verdict.ca 5 else if c.bit = 1 then Verdict.ca 1 else 0)
  else if p = 0x0E then (if c.sub = 1 then Verdict.up 3 else Verdict.me 9)
  else if p = 0x0F then (if c.bit = 0 then Verdict.up 5 else Verdict.up 3)
  else if 0x10 ≤ p ∧ p ≤ 0x13 then (if p = 0x10 ∧ c.bit = 0 then Verdict.se 3 else Verdict.se 11)
  else if p = 0x14 then
    (if c.bit < 2 then Verdict.gn 2 else if c.bit = 2 then Verdict.gn 1
     else if !esc then Verdict.gn 8 else if c.bit ≥ 5 then Verdict.gn 3 else 0)
  else if 0x15 ≤ p ∧ p ≤ 0x1B then Verdict.gn 8
  else if 0x1C ≤ p ∧ p ≤ 0x1F then
    [Verdict.pd 1, Verdict.pd 2, Verdict.pd 5, Verdict.pd 5, Verdict.pd 3, Verdict.pd 4].getD c.bit (Verdict.pd 5)
  else if 0x20 ≤ p ∧ p ≤ 0x23 then (if c.bit = 3 then Verdict.lp 2 else Verdict.lp 1)
  else if p = 0x24 then Verdict.pd 6
  else if p = 0x25 then Verdict.sf 2
  else if p = 0x26 then
    (if !esc then Verdict.bu 2 else if c.bit = 1 then Verdict.bu 1 else if c.sub = 1 then Verdict.bu 3 else Verdict.bu 5)
  else if p = 0x27 then (if !esc then Verdict.bu 2 else Verdict.bu 4)
  else if p = 0x28 then Verdict.ra 2
  else if p = 0x29 then Verdict.ra 3
  else if p = 0x2A then (if c.bit = 0 then Verdict.tg 1 else Verdict.tg 3)
  else if p = 0x2B then (if c.bit = 1 then Verdict.me 4 else Verdict.me 6)
  else if p = 0x2C then Verdict.tg 4
  else if p = 0x2D then Verdict.me 7
  else if p = 0x2F then Verdict.se 10
  else 0

namespace Block

/-- `STEST.LASTING` shows the pages that hold a LASTING class. -/
def showLasting (b : Block) : Block :=
  b.each (List.range 48) fun p b => b.wrPageBit Reg.STEST.LASTING_PAGES p (b.pageLasting p)

/-- An open update closed (R437): the header sector of STAGE is erased first, the rest in the background
(assumption 113, DEDUCED). -/
def updClose (cause : Nat) (b : Block) : Block :=
  if b.rd Reg.UPD.USTAT_STATE < 2 then b
  else
    { b with upd := { auths := b.upd.auths, empties := b.upd.empties } }
      |>.wr Reg.UPD.USTAT_STATE 1 |>.wr Reg.UPD.USTAT_CAUSE cause |>.wr Reg.UPD.USTAT_DIRECT 0
      |>.wr Reg.UPD.COUNTS_WANTED 0 |>.wr Reg.UPD.COUNTS_SLOTS 0 |>.wr Reg.UPD.LEN_L 0 |>.wr Reg.UPD.NEW_VER_VER 0
      |>.irq 0x0F 2 |>.flashGiveUp 1 |>.flashOwn .head (eraseFlash stageBase 4096)

/-- A pair's safe action begins (R499): PWM0 and PWM1 forced, their slots to MAN; the gallery plans every section
closed while it is in force. -/
def safeAction (p : Nat) (b : Block) : Block :=
  b |>.wr (Reg.SAFE.PSTAT_ACT p) 1 |>.irq 0x25 p |>.pwmForce |>.modulesToMan [0, 1] false

/-- The safety pairs that an `ERR` bit of SAFE concerns: its own for DISC and PULSE, both for CROSS and TP_FAIL. -/
def pairsOf (bit : Nat) : List Nat := if bit < 4 then [bit % 2] else [0, 1]

/-- A LASTING class of SAFE holds the pair's safe action (Table ERR-1) (assumption 120, DEDUCED). -/
def pairHeld (b : Block) (p : Nat) : Bool := b.test.lasting.any fun l => l.cls.page == 0x25 && (pairsOf l.cls.bit).contains p

/-- The host port is held disabled: HOST failed its test, or is named by a LASTING class of FENCE (Table ERR-1, R162). -/
def hostShut (b : Block) : Bool := b.pageFailed 0x2B || b.test.lasting.any fun l => l.cls.page == 0x07 && l.cls.sub == 4

def hostClose (b : Block) : Block := b |>.wr (Reg.HDR.EN 0x2B) 0 |>.wr Reg.HOST.HSTAT_ALIVE 0 |>.mbxSweep

/-- The state of a LASTING class's block (Table ERR-1), beyond what the register of LASTING classes itself decides
(assumption 97, DEDUCED). -/
def lastingState (c : ErrClass) (esc : Bool) (code : Nat) (b : Block) : Block :=
  let b := if c.page = 0x05 ∧ !esc then
      b.each ([2, 3, 4] ++ (List.range 8).map (· + 8)) zeroSlot
    else if c.page = 0x07 then
      let a := c.sub
      if a = 1 then { b with agents := { b.agents with gnss := false }, md := { b.md with gnssFailed := true } } |>.mbxSweep
      else if a = 2 then { b with agents := { b.agents with radio := false }, md := { b.md with radioFailed := true } } |>.mbxSweep
      else if a = 4 then b.hostClose
      else b
    else if (c.page = 0x26 ∨ c.page = 0x27) ∧ !esc then b.wr (Reg.HDR.EN 0x26) 0
    else if c.page = 0x2B ∧ !esc then b.hostClose
    else if (c.page = 0x0F ∧ c.bit = 1) ∨ (c.page = 0x0E ∧ c.sub = 1) then b.updClose 6
    else if c.page = 0x25 then b.each (pairsOf c.bit) safeAction
    else b
  b.cond (b.safeClass ⟨c, esc⟩) (·.enterSafe code c.page (lastingVerdict c esc) 0xA)

/-- The escalation window in drips of field time (R491) (assumption 122, DEDUCED). -/
def escWindow (b : Block) : Nat := b.rd Reg.STEST.ESC_WIN * 600000

/-- Results that escalate a class; three for an ECC address (R158, R491), and so for double-bit errors at it
(assumption 157, DESIGN CHOICE). -/
def escNeed (b : Block) (c : ErrClass) : Nat := if c.page = 0x0A then 3 else b.rd Reg.STEST.ESC_N

/-- The class's earlier TRANSIENT results within the window. -/
def escHeld (b : Block) (c : ErrClass) : List Nat :=
  match b.test.esc.find? fun e => e.cls == c with
  | some e => e.times.filter fun t => b.ftDrips ≤ t + b.escWindow
  | none => []

/-- A TRANSIENT result stored (R491): the latest `N` − 1 of its class; in a full table the class whose latest result
is oldest gives way, and EVICT is set (assumption 122, DEDUCED). -/
def escStore (c : ErrClass) (b : Block) : Block :=
  let times := (b.ftDrips :: b.escHeld c).take (b.escNeed c - 1)
  let rest := b.test.esc.filter fun e => !(e.cls == c)
  if rest.length < 32 then { b with test := { b.test with esc := rest ++ [EscEntry.mk c times] } }
  else
    let oldest := rest.foldl (fun m e => min m (e.times.getD 0 0)) (2 ^ 48)
    let kept := rest.eraseP fun e => e.times.getD 0 0 = oldest
    { b with test := { b.test with esc := kept ++ [EscEntry.mk c times] } } |>.err 0x2E 0

def makeLasting (c : ErrClass) (esc : Bool) (b : Block) : Block :=
  { b with test := { b.test with
      lasting := b.test.lasting.filter (fun l => !(l.cls == c)) ++ [Lasting.mk c esc]
      esc := b.test.esc.filter fun e => !(e.cls == c) } }

/-- One class classified by a result (R489, R491, R507): the class value, and whether by escalation. -/
def classify (pass : Bool) (c : ErrClass) (b : Block) : Block × Nat × Bool :=
  if !pass then (b.makeLasting c false, 2, false)
  else if b.isLasting c then (b, 2, false)
  else if b.escNeed c - 1 ≤ (b.escHeld c).length then (b.makeLasting c true, 2, true)
  else (b.escStore c, 1, false)

/-- The narrower parts of a bit's class: TICK's overrunning blocks, FENCE's agents, ECC's addresses, a LOOP page's slots, and
bus errors of a CAN controller that is alone. -/
def classParts (page bit : Nat) : List Nat :=
  if page = 0x03 ∧ bit = 0 then [1, 2, 3, 4, 5, 6]
  else if page = 0x0A then [eccAll]
  else if page = 0x26 ∧ bit = 0 then [0, 1]
  else if page = 0x07 then [0, 1, 2, 3, 4]
  else if 0x20 ≤ page ∧ page ≤ 0x23 ∧ bit = 1 then List.range 8
  else [0]

/-- Every class of a page (R490). -/
def pageClasses (page : Nat) : List ErrClass :=
  (List.range (errBits page)).flatMap fun n => (classParts page n).map fun k => ⟨page, n, k⟩

/-- The classes one result classifies (R489, R490) (assumption 51, DEDUCED). -/
def testClasses (t : Test) (pass : Bool) : List ErrClass :=
  if t.diag && !pass then pageClasses t.page else t.raised.filter fun c => !pass || !t.spared.contains c

/-- What a result's record names beside the page, in argument 0: the agent (R162), the address (R158) or the slot (R322)
(assumption 137, DEDUCED). -/
def namedPart (c : ErrClass) : Nat :=
  if c.page = 0x07 ∨ c.page = 0x0A ∨ (0x20 ≤ c.page ∧ c.page ≤ 0x23 ∧ c.bit = 1) then c.sub else 0

/-- What the end of a test does to its own page (R158, R502, R322), and the errors that it raises, which it classifies; the ECC test has used nine beats of the word's bank: four
patterns written and read back, and the word restored (R167) (assumption 119, DEDUCED). -/
def testEffect (t : Test) (pass : Bool) (detail : Nat) (b : Block) : Block :=
  if t.page = 0x0A then
    -- an overtaken word holds the master's value (R184)
    b |>.each (t.raised.filter fun c => c.bit = 1 && !t.spared.contains c) (fun c b => (b.setVal (c.sub / 4 * 4) 4 0).setFlip c.sub 0)
      |>.each (t.raised.flatMap fun c => List.replicate 9 (bankOf c.sub)) charge
  else if t.page = 0x25 then
    if pass then b |>.wr (Reg.SAFE.PSTAT_TEST_OK 0) 1 |>.wr (Reg.SAFE.PSTAT_TEST_OK 1) 1
    else b.cond (detail.testBit 0) (fun b => b |>.err 0x25 5 |>.verdict (Verdict.sf 4) 0x25)
  else if 0x20 ≤ t.page ∧ t.page ≤ 0x23 then b.cond (detail.testBit 0) (·.err t.page 3)
  else b

/-- The watch over a slot's samples held (R322). -/
def watchHeld (b : Block) (t : Test) : Bool :=
  t.raised.all fun c => c.bit != 1 || !(b.slot ((t.page - 0x20) * 8 + c.sub)).watchBad

/-- The result of a test (R322): LOOP's passes when its reference vector agrees and its watch holds. -/
def testResult (b : Block) (t : Test) (pass : Bool) (detail : Nat) : Bool :=
  if 0x20 ≤ t.page ∧ t.page ≤ 0x23 then !detail.testBit 0 && b.watchHeld t else pass

/-- One more class classified: the highest class value, whether any is by escalation, and the LASTING classes, each with
whether by escalation. -/
def classifyNext (pass : Bool) (acc : Block × Nat × Bool × List (ErrClass × Bool)) (c : ErrClass) :
    Block × Nat × Bool × List (ErrClass × Bool) :=
  let r := acc.1.classify pass c
  (r.1, max acc.2.1 r.2.1, acc.2.2.1 || r.2.2, if r.2.1 = 2 then acc.2.2.2 ++ [(c, r.2.2)] else acc.2.2.2)

/-- A core that a LASTING class of FENCE held in reset may be loaded again (R162, R493); one whose loads mismatched stays. -/
def fenceLift (was : List Lasting) (b : Block) : Block :=
  let held (a : Nat) : Bool := was.any fun l => l.cls.page == 0x07 && l.cls.sub == a
  let free (a : Nat) (b : Block) : Block :=
    if !held a || b.agents.tries.getD a 0 = 2 then b
    else
      { b with
        agents := { b.agents with tries := b.agents.tries.set a 0 }
        md := { b.md with gnssFailed := b.md.gnssFailed && a != 1, radioFailed := b.md.radioFailed && a != 2 } }
  b |> free 1 |> free 2

/-- Classes that are LASTING no longer: their escalation entries and their verdicts go with them (R493). -/
def freeClasses (mine : ErrClass → Bool) (b : Block) : Block :=
  let vs := (b.test.lasting.filter (mine ·.cls)).map fun l => lastingVerdict l.cls l.esc
  { b with
    test := { b.test with
      lasting := b.test.lasting.filter fun l => !mine l.cls
      esc := b.test.esc.filter fun e => !mine e.cls }
    log := { b.log with verdicts := b.log.verdicts.filter fun v => !vs.contains v.verdict } }

/-- A RETEST's result; a passed one frees the page and lifts its states; the host port is open again, while the CAN
controller waits for its enable (R493) (assumption 97, DEDUCED). -/
def retestEnd (page : Nat) (pass : Bool) (b : Block) : Block :=
  if pass then
    b.freeClasses (·.page == page)
    |> fun b' => b' |>.cond (b.hostShut && !b'.hostShut) (·.wr (Reg.HDR.EN 0x2B) 1)
      |>.cond (page = 0x07) (·.fenceLift b.test.lasting) |>.wr Reg.STEST.RETEST_RES_RES 2
  else b.wr Reg.STEST.RETEST_RES_RES 3

/-- A LASTING state that holds the pump outputs forced: a fault input, lost commutation, a safety pair (Table ERR-1). -/
def stopsPump (c : ErrClass) : Bool := c.page = 0x25 || (c.page = 0x1C && (c.bit < 2 || c.bit = 5))

/-- A LASTING class's verdict, what its record names, and whether its state stops the pump or enters SAFE (R468). -/
def lastingNote (b : Block) (c : ErrClass × Bool) : Nat × Nat × Bool :=
  (lastingVerdict c.1 c.2, namedPart c.1 % 2 ^ 32, b.safeClass ⟨c.1, c.2⟩ || stopsPump c.1)

/-- The verdicts that a result brings, those that stop the part first. -/
def lastingNotes (b : Block) (lastC : List (ErrClass × Bool)) : List (Nat × Nat × Bool) :=
  let l := ((lastC.map b.lastingNote).filter (·.1 != 0)).eraseDups
  l.filter (·.2.2) ++ l.filter (!·.2.2)

/-- The result recorded with the first verdict that it brings, any further one as a VERDICT record (assumption 158,
DESIGN CHOICE), and the state of every LASTING class taken (R468, R489). -/
def recordResult (t : Test) (pass : Bool) (cls : Nat) (esc : Bool) (lastC : List (ErrClass × Bool)) (b : Block) : Block :=
  let code := 0x4000 + (if pass then 1 else 2) + cls * 4
  let stop := lastC.any fun c => (b.lastingNote c).2.2
  let notes := b.lastingNotes lastC
  let (v, part) := match notes with | (v, part, _) :: _ => (v, part) | [] => (0, 0)
  let b := b.raise { code, source := t.page, cls, verdict := v, arg0 := part
                     severity := if cls = 2 then (if stop then 3 else 2) else 1 }
    |>.each (notes.drop 1) fun n b => b.verdict n.1 t.page (if n.2.2 then 3 else 2) n.2.1
  b |>.each lastC (fun c => lastingState c.1 c.2 code) |>.wr Reg.STEST.LAST_PAGE t.page |>.wr Reg.STEST.LAST_RES (if pass then 1 else 2) |>.wr Reg.STEST.LAST_CLASS cls
    |>.wrB Reg.STEST.LAST_ESC esc |>.wr Reg.STEST.LAST_BIT t.bit
    |>.irq 0x2E 0 |>.cond (cls = 2) (·.irq 0x2E 1) |>.cond esc (fun b => b |>.irq 0x2E 2 |>.inc Reg.STEST.COUNTS_ESC)
    |>.showLasting

/-- The end of a running test with PASS or FAIL (R489, R490, R493, R506, R507) (assumption 119, DEDUCED). -/
def endTest (t : Test) (pass : Bool) (detail : Nat) (b : Block) : Block :=
  let pass := b.testResult t pass detail
  let here (x : Test) : Bool := x.page == t.page && x.flt == t.flt
  -- what the test's own end raises is raised within it
  let b := b.testEffect t pass detail
  let t := (b.test.running.find? here).getD t
  let b := { b with test := { b.test with running := b.test.running.filter fun x => !here x } } |>.showTests t.page
    |>.wr (Reg.HDR.TEST_RES t.page) (if pass then 1 else 2)
  let r := (testClasses t pass).foldl (classifyNext pass) (b, if pass && !t.spared.isEmpty then 1 else 0, false, [])
  r.1 |>.cond t.retest (retestEnd t.page pass) |>.recordResult t pass r.2.1 r.2.2.1 r.2.2.2

/-- A request that waits (R487). -/
def addPend (t : Test) (b : Block) : Block :=
  { b with test := { b.test with pend := b.test.pend ++ [t] } } |>.showTests t.page

/-- A pending request's test may start (R487). -/
def canStart (b : Block) (t : Test) : Bool :=
  !(b.test.running.any fun x => x.page == t.page) && b.domainOn t.page && !b.is (Reg.HDR.FREEZE t.page)

/-- Drip edges that a test lasts at least (Table ERR-1); that of a LOOP slot watches its next `N` samples (R322). -/
def testLen (b : Block) (t : Test) : Nat :=
  let p := t.page
  if p = 0x01 ∨ p = 0x02 then 10 else if p = 0x03 then 50 else if p = 0x04 then 40 else if p = 0x07 then 10
  else if p = 0x08 then 8 else if p = 0x0D then 2 else if p = 0x0E then 90
  else if 0x10 ≤ p ∧ p ≤ 0x13 then 100 else if 0x14 ≤ p ∧ p ≤ 0x1B then 50
  else if 0x1C ≤ p ∧ p ≤ 0x1F then (if t.flt then 1 else 2)
  else if 0x20 ≤ p ∧ p ≤ 0x23 then
    (t.raised.filter (·.bit = 1)).foldl (fun n c =>
      let k := (p - 0x20) * 8 + c.sub
      max n (b.rd (Reg.LW.SUPV_N_N k) * b.slotPeriod k)) 1
  else if p = 0x24 ∨ p = 0x25 then 20 else if p = 0x26 then 5 else if p = 0x28 then 10 else if p = 0x2F then 2
  else 1

/-- A LOOP test watches the next `N` samples of the slots whose residuals asked for it (R322). -/
def watchSlots (t : Test) (b : Block) : Block :=
  b.cond (0x20 ≤ t.page && t.page ≤ 0x23) fun b => b.each (t.raised.filter (·.bit = 1)) fun c b =>
    let k := (t.page - 0x20) * 8 + c.sub
    b.setSlot k fun sl => { sl with watch := b.rd (Reg.LW.SUPV_N_N k), watchBad := false }

/-- A pending test starts (R487). -/
def startTest (page : Nat) (flt : Bool) (b : Block) : Block :=
  match b.test.pend.find? fun t => t.page == page && t.flt == flt with
  | some t =>
    if b.canStart t then
      let t' : Test := { t with began := b.edges }
      { b with test := { b.test with pend := b.test.pend.erase t, running := b.test.running ++ [t'] } }
        |>.inc Reg.STEST.COUNTS_RUN |>.showTests page |>.watchSlots t
        |>.cond t.retest (·.wr Reg.STEST.RETEST_RES_RES 1)
    else b
  | none => b

/-- Every request that may start does, at a drip edge (R487). -/
def startTests (b : Block) : Block := b.each b.test.pend fun t => startTest t.page t.flt

/-- A write of 1 to a page's `TEST.START` (R490). -/
def testStart (page : Nat) (b : Block) : Block :=
  if hasTest page && page < 48 && !(b.test.pend.any (·.page == page)) && !(b.test.running.any (·.page == page)) then
    { b with test := { b.test with
        startUp := if b.mode == Mode.wake && !b.is Reg.SYS.STANDING_READY && !b.test.startUp.contains page
          then b.test.startUp ++ [page] else b.test.startUp } }
      |>.addPend { page, diag := true }
  else b

/-- RETEST (R493, R511): accepted only in SERVICE and SAFE. -/
def retest (page : Nat) (b : Block) : Block :=
  if !(b.mode == .service || b.mode == .safe) then b.wr Reg.STEST.RETEST_RES_RES 5
  else if !(hasTest page) || !b.domainOn page || 48 ≤ page then b.wr Reg.STEST.RETEST_RES_RES 6
  else
    -- a PWM page's request for its FLT test stays (R487)
    let mine (t : Test) : Bool := t.page == page && !t.flt
    let raised := (b.test.pend.filter mine).flatMap (·.raised)
    { b with test := { b.test with pend := b.test.pend.filter fun t => !mine t } }
      |>.addPend { page, retest := true, raised } |>.wr Reg.STEST.RETEST_RES_RES 1

end Block

/-- TARGETED_TEST_START (R487): a pending request's test starts at the drip edge at which it may
(assumption 148, DESIGN CHOICE). -/
def execTargetedTestStart (page : Fin 48) (flt : Bool) (s : State) : Host.Outcome State Fault Refusal :=
  s.run fun b => b.cond (b.atEdge) (Block.startTest page flt)

/-- TARGETED_TEST_END (R489): the running test's result, no earlier than its length allows. `detail` bit 0: the TP readback failed (R502), or LOOP's
reference vector differed (R322), whose result follows from it and from the watch. -/
def execTargetedTestEnd (page : Fin 48) (flt pass : Bool) (detail : Nat) (s : State) :
    Host.Outcome State Fault Refusal :=
  s.run fun b =>
    match b.test.running.find? fun t => t.page == page.val && t.flt == flt with
    | some t => b.cond (t.began + b.testLen t ≤ b.edges) (Block.endTest t pass detail)
    | none => b

/-- TEST_START (R490). -/
def execTestStart (page : Fin 48) (s : State) : Host.Outcome State Fault Refusal := s.run (Block.testStart page)

/-- TEST_ABORT (R489). -/
def execTestAbort (page : Fin 48) (s : State) : Host.Outcome State Fault Refusal := s.run (Block.abortPage page)

/-- RETEST (R493). -/
def execRetest (page : Fin 64) (s : State) : Host.Outcome State Fault Refusal := s.run (Block.retest page)

/-- ABORT_ALL (R489). -/
def execAbortAll (s : State) : Host.Outcome State Fault Refusal := s.run Block.abortAll

/-- BUCK_FAULT (R490, Table ERR-1): the supply monitor reports the core regulator's fault. -/
def execBuckFault (s : State) : Host.Outcome State Fault Refusal :=
  s.run fun b => b |>.wr Reg.PWR.SUPPLY_VCORE_OK 0 |>.err 0x02 3

/-! The safety pairs (R497 to R505). -/

namespace Block

def pairEnabled (b : Block) (p : Nat) : Bool := p = 0 || b.is (Reg.SAFE.CFG_EN 1)

/-- A channel's filtered state: 1 run. -/
def chanRun (b : Block) (p ch : Nat) : Bool := if ch = 0 then b.is (Reg.SAFE.PSTAT_A p) else b.is (Reg.SAFE.PSTAT_B p)

def latchedPair (b : Block) (p : Nat) : Bool :=
  b.is (Reg.SAFE.PSTAT_DISC p) || b.is (Reg.SAFE.PSTAT_PULSE p) || b.is (Reg.SAFE.PSTAT_CROSS p)

/-- The samples of a drip edge (R498): three agreeing samples are needed before a filtered state changes
(assumption 120, DEDUCED). -/
def sampleSafety (levels : List Bool) (b : Block) : Block :=
  let b := b.each (List.range 4) fun i b =>
    let p := i / 2
    let ch := i % 2
    let v := levels.getD i false
    let n := if v != b.chanRun p ch then b.safe.agree.getD i 0 + 1 else 0
    { b with safe := { b.safe with agree := b.safe.agree.set i n } }
      |>.wrB (if ch = 0 then Reg.SAFE.PSTAT_RAW_A p else Reg.SAFE.PSTAT_RAW_B p) v
  -- discrepancy and run times (R501, R503, R504)
  b.each [0, 1] fun p b =>
    let d := b.chanRun p 0 != b.chanRun p 1
    let b := { b with safe := { b.safe with
      disc := b.safe.disc.set p (if d then b.safe.disc.getD p 0 + 1 else b.safe.disc.getD p 0) } }
    if b.chanRun p 0 && b.chanRun p 1 then
      let n := min 10000 (b.rd (Reg.SAFE.PSTAT_RUN p) + 1)
      b |>.wr (Reg.SAFE.PSTAT_RUN p) n |>.cond (n = 500) (·.irq 0x25 3)
    else b.wr (Reg.SAFE.PSTAT_RUN p) 0

/-- The end of a discrepancy of `d` drips (R501). -/
def discEnd (p d : Nat) (b : Block) : Block :=
  let t := b.rd (Reg.SAFE.CFG_DISC_T p)
  let b := { b with safe := { b.safe with disc := b.safe.disc.set p 0 } }
  if d = 0 then b
  else
    let b := b.wr (Reg.SAFE.DISC_LAST_D p) d
    if ceilDiv (3 * t) 4 ≤ d ∧ d < t then
      let win := (b.safe.near.getD p []).filter fun x => b.ftDrips ≤ x + b.escWindow
      let win := b.ftDrips :: win
      let full := b.rd Reg.STEST.ESC_N ≤ win.length
      { b with safe := { b.safe with near := b.safe.near.set p (if full then [] else win) } }
        |>.inc (Reg.SAFE.DISC_LAST_NEAR p) |>.irq 0x25 2 |>.sysEvent 0xF 0x25 p d
        |>.cond full (·.verdict (Verdict.sf 3) 0x25)
    else b

/-- A channel's filtered state changes after three agreeing samples (R498, R499, R501, R509)
(assumption 120, DEDUCED). -/
def filterChange (p ch : Nat) (b : Block) : Block :=
  if 3 ≤ b.safe.agree.getD (2 * p + ch) 0 then
    let v := !b.chanRun p ch
    let was := b.chanRun p 0 != b.chanRun p 1
    let b := { b with safe := { b.safe with agree := b.safe.agree.set (2 * p + ch) 0 } }
      |>.wrB (if ch = 0 then Reg.SAFE.PSTAT_A p else Reg.SAFE.PSTAT_B p) v
    let now := b.chanRun p 0 != b.chanRun p 1
    let b := if was ∧ ¬ now then
        (if b.safe.discDone.getD p false then { b with safe := { b.safe with disc := b.safe.disc.set p 0 } }
         else b.discEnd p (b.safe.disc.getD p 0))
      else if now ∧ ¬ was then
        { b with safe := { b.safe with disc := b.safe.disc.set p 0, discDone := b.safe.discDone.set p false } }
      else b
    b.cond (!v && b.pairEnabled p) (·.safeAction p)
  else b

/-- DISC latches when D reaches `DISC_T` (R501) (assumption 120, DEDUCED). -/
def discTimeout (p : Nat) (b : Block) : Block :=
  let t := b.rd (Reg.SAFE.CFG_DISC_T p)
  if b.pairEnabled p && b.chanRun p 0 != b.chanRun p 1 && t ≤ b.safe.disc.getD p 0 && !b.safe.discDone.getD p false then
    { b with safe := { b.safe with discDone := b.safe.discDone.set p true } }
      |>.wr (Reg.SAFE.PSTAT_DISC p) 1 |>.wr (Reg.SAFE.PSTAT_TEST_OK p) 0 |>.wr (Reg.SAFE.DISC_LAST_D p) t
      |>.verdict (Verdict.sf 1) 0x25 |>.err 0x25 p |>.safeAction p
  else b

/-- The filtered states and discrepancies that a drip edge's samples bring (R498, R501). -/
def safetyStep (b : Block) : Block :=
  b |>.each [(0, 0), (0, 1), (1, 0), (1, 1)] (fun x => filterChange x.1 x.2) |>.each [0, 1] discTimeout

/-- A TP ball `us` µs after the last drip edge (R500); low without power (R517). -/
def tpHigh (b : Block) (chan us : Nat) : Bool :=
  let due := if chan = 0 then 0 else b.rd Reg.SAFE.PULSE_PER / 2
  b.powered && !(b.safe.pulse = due && 20 ≤ us && us < 20 + b.rd Reg.SAFE.PULSE_W)

/-- The checks of one test pulse (R500): `levels` at `PULSE.W` − 5 µs, in the order STOP_A, STOP_B, FOLD_A, FOLD_B;
`chan` is the pulsed TP output, 0 for TP_A. -/
def pulseCheck (chan : Nat) (levels : List Bool) (b : Block) : Block :=
  let due := if chan = 0 then 0 else b.rd Reg.SAFE.PULSE_PER / 2
  if b.safe.pulse ≠ due ∨ ¬ b.powered then b
  else
    b.each (List.range 4) fun i b =>
      let p := i / 2
      let ch := i % 2
      let v := levels.getD i false
      if !b.pairEnabled p || !b.chanRun p ch then b
      else if ch = chan ∧ v then
        b |>.wr (Reg.SAFE.PSTAT_PULSE p) 1 |>.wr (Reg.SAFE.PSTAT_TEST_OK p) 0 |>.err 0x25 (2 + p) |>.safeAction p
      else if ch ≠ chan ∧ !v then
        b |>.wr (Reg.SAFE.PSTAT_CROSS p) 1 |>.wr (Reg.SAFE.PSTAT_TEST_OK p) 0 |>.err 0x25 4 |>.safeAction p
      else b

/-- A write of 1 to the pair's `CMD.CLR` (R503). -/
def safetyClr (p : Nat) (b : Block) : Block :=
  if !b.is (Reg.SAFE.PSTAT_TEST_OK p) then b.wr (Reg.SAFE.CMD_RES p) 4
  else if b.rd (Reg.SAFE.PSTAT_RUN p) < 10000 then b.wr (Reg.SAFE.CMD_RES p) 2
  else b |>.wr (Reg.SAFE.PSTAT_DISC p) 0 |>.wr (Reg.SAFE.PSTAT_PULSE p) 0 |>.wr (Reg.SAFE.PSTAT_CROSS p) 0
    |>.wr (Reg.SAFE.CMD_RES p) 1

/-- A write of 1 to the pair's `CMD.RESTART` (R504, R505). -/
def safetyRestart (p : Nat) (b : Block) : Block :=
  if b.latchedPair p || b.pairHeld p then b.wr (Reg.SAFE.CMD_RES p) 3
  else if b.rd (Reg.SAFE.PSTAT_RUN p) < 500 && b.pairEnabled p then b.wr (Reg.SAFE.CMD_RES p) 2
  else b |>.wr (Reg.SAFE.PSTAT_ACT p) 0 |>.wr (Reg.SAFE.CMD_RES p) 1 |>.pwmForce

end Block

/-- SAFETY_FILTER_CHANGE (R498): channel `ch` of pair `p`. -/
def execSafetyFilterChange (p ch : Fin 2) (s : State) : Host.Outcome State Fault Refusal :=
  s.run (Block.filterChange p ch)

/-- TP_PULSE_CHECK (R500): TP output `tp` pulses; the levels of STOP_A, STOP_B, FOLD_A, FOLD_B at the check. -/
def execTpPulseCheck (tp : Fin 2) (levels : List Bool) (s : State) : Host.Outcome State Fault Refusal :=
  s.run (Block.pulseCheck tp levels)

/-- DISC_TIMEOUT (R501). -/
def execDiscTimeout (p : Fin 2) (s : State) : Host.Outcome State Fault Refusal := s.run (Block.discTimeout p)

/-- SAFETY_CLR (R503). -/
def execSafetyClr (p : Fin 2) (s : State) : Host.Outcome State Fault Refusal := s.run (Block.safetyClr p)

/-- SAFETY_RESTART (R504). -/
def execSafetyRestart (p : Fin 2) (s : State) : Host.Outcome State Fault Refusal := s.run (Block.safetyRestart p)

end Sys2Proof.Machine
end

