-- ==== Sys2Proof/Machine/Adc.lean ====
section
/-! DEFINITION. Overruns (R43, R556) and the ADC (09_pump_drive_pwm.md, R286 to R289, R559). -/

namespace Sys2Proof.Machine
namespace Block

/-- The page of the block that overran (Table TICK-6): ADC, GAL, CAN for the tick pusher's queueing, GPVT. -/
def ovrPage (o : OvrBlock) : Nat :=
  match o with
  | .adc => 0x24 | .gal => 0x10 | .sectq => 0x26 | .sync => 0x26 | .gpvt => 0x1B | .hbeat => 0x26

def ovrField (o : OvrBlock) : Fld :=
  match o with
  | .adc => Reg.TICK.OVR_ADC | .gal => Reg.TICK.OVR_GAL | .sectq => Reg.TICK.OVR_SECTQ
  | .sync => Reg.TICK.OVR_SYNC | .gpvt => Reg.TICK.OVR_GPVT | .hbeat => Reg.TICK.OVR_HBEAT

def ovrCount (o : OvrBlock) : Fld :=
  match o with
  | .adc => Reg.TICK.OVR_CNT0_ADC | .gal => Reg.TICK.OVR_CNT0_GAL | .sectq => Reg.TICK.OVR_CNT0_SECTQ
  | .sync => Reg.TICK.OVR_CNT0_SYNC | .gpvt => Reg.TICK.OVR_CNT1_GPVT | .hbeat => Reg.TICK.OVR_CNT1_HBEAT

/-- `TICK.OVR` as one word. -/
def ovrWord (b : Block) : Nat :=
  bit (b.is Reg.TICK.OVR_ADC) + 2 * bit (b.is Reg.TICK.OVR_GAL) + 4 * bit (b.is Reg.TICK.OVR_SECTQ)
    + 8 * bit (b.is Reg.TICK.OVR_SYNC) + 16 * bit (b.is Reg.TICK.OVR_GPVT) + 32 * bit (b.is Reg.TICK.OVR_HBEAT)

/-- A test of the page requested with no error of its own to classify, unless one waits or runs
(assumption 26, DEDUCED). -/
def askPlain (page : Nat) (b : Block) : Block :=
  if (b.test.pend.any (·.page == page)) || (b.test.running.any (·.page == page)) then b else b.addPend { page }

/-- An overrun (R43): bit, count, `ERR.OVR` with its class narrowed to the block, the block's test, and the degrade bit of
the ADC and of the tick pusher (R556); that of the gallery is set at the next pool edge (R50), that of GPVT with the late
mark. Several in one window count once. The degrade steps themselves stand with their blocks
(assumption 26, DEDUCED). -/
def overrun (o : OvrBlock) (b : Block) : Block :=
  if b.tick.overran.contains o then b
  else
    let b := { b with tick := { b.tick with overran := o :: b.tick.overran } }
    let b := b |>.wr (ovrField o) 1 |>.inc (ovrCount o) |>.irq 0x03 3
    b |>.err 0x03 0 (arg1 := b.ovrWord) (sub := o.bit + 1) |>.askPlain (ovrPage o)
      |>.cond (!(o == .gal || o == .gpvt)) (·.wr (Reg.HDR.TICK_DEGRADE o.bit) 1)
      |>.cond (o == .gal) (·.wr Reg.TICK.GAL_PEAK_PEAK 0x1FFFFF)

/-- R287: the corrected value of a code. -/
def corrected (b : Block) (n raw : Nat) : Int :=
  roundDiv ((raw * b.cal.gain.getD n 32768 : Nat) : Int) 32768 + b.cal.offset.getD n 0

/-- Channel `n` fails with its core: A even, B odd. -/
def coreFailed (b : Block) (n : Nat) : Bool := if n % 2 = 0 then b.adc.failA else b.adc.failB

/-- The ring entry of R289 (assumption 93, DEDUCED). -/
def adcDma (b : Block) : Block :=
  if b.is Reg.ADC.DMA_EN then
    let head := b.rd Reg.ADC.DMA_HEAD
    let len := b.rd Reg.ADC.DMA_LEN + 1
    let entry := (List.range 16).flatMap fun n => leBytes 2 (b.rd (Reg.ADC.RESN_CORR n))
    match b.store 1 (b.rd Reg.ADC.DMA_ADDR_ADDR + 32 * head) entry with
    | (b, true) =>
      let next := if len ≤ head + 1 then 0 else head + 1
      b |>.wr Reg.ADC.DMA_HEAD next |>.cond (next = 0) (·.irq 0x24 1)
    | (b, false) => b |>.wr Reg.ADC.DMA_EN 0 |>.err 0x24 2
  else b

/-- The ADC converts its group in every drip (R286): it is clocked, enabled and not frozen, and the tick runs. -/
def adcConverts (b : Block) : Bool :=
  b.powered && b.running 4 && b.is (Reg.HDR.EN 0x24) && !b.is (Reg.HDR.FREEZE 0x24) && !b.is Reg.HDR.TICK_FROZEN

/-- The group of the drip is still due: its window ends at cycle 655 (Table TICK-6). -/
def adcDue (b : Block) : Bool := b.adcConverts && !b.adc.done && b.rd Reg.TICK.CYC_CYC < b.cycle 655

/-- All results in place at 4.00 µs of the drip (R286, R287) (assumption 21, DESIGN CHOICE; assumption 93, DEDUCED). -/
def adcComplete (codes : List Nat) (b : Block) : Block :=
  if !b.adcDue then b
  else
    let b := { b with adc := { b.adc with done := true } } |>.phase 655
    let b := b.each (List.range 16) fun n b =>
      if b.coreFailed n then b
      else
        let raw := codes.getD n 0 % 4096
        b |>.wr (Reg.ADC.RESN_RAW n) raw |>.wrI (Reg.ADC.RESN_CORR n) (b.corrected n raw) |>.wr (Reg.ADC.RESN_STALE n) 0
    b |>.irq 0x24 0 |>.samplePv |>.adcDma

/-- A core fails a conversion (R288). -/
def adcFail (coreB : Bool) (b : Block) : Block :=
  if !b.adcDue || (if coreB then b.adc.failB else b.adc.failA) then b
  else
    let again := b.adc.failA || b.adc.failB
    let b := { b with adc := if coreB then { b.adc with failB := true } else { b.adc with failA := true } }
    b |>.each (List.range 16) (fun n => cond (n % 2 = bit coreB) (wr (Reg.ADC.RESN_STALE n) 1))
      |>.err 0x24 (bit coreB) |>.cond (!again) (·.overrun .adc)

/-- The drip edge's part: stale marks last for the drip (R48), or as long as `EN` is 0 (R559). -/
def adcEdge (b : Block) : Block :=
  { b with adc := {}, tick := { b.tick with overran := b.tick.overran.filter (fun (o : OvrBlock) => o != OvrBlock.adc) } } |>.each (List.range 16) (fun n => wrB (Reg.ADC.RESN_STALE n) (!b.is (Reg.HDR.EN 0x24)))
    |>.wr (Reg.HDR.TICK_DEGRADE 0) 0

/-- A write of `EN` (R559). -/
def adcEnable (en : Bool) (b : Block) : Block :=
  if en then b.adcOn
  else if b.mode == .service then
    b |>.wr (Reg.HDR.EN 0x24) 0 |>.each (List.range 16) fun n => wr (Reg.ADC.RESN_STALE n) 1
  else b

end Block

/-- ADC_GROUP_COMPLETE (R286, R287, R289): the sixteen codes of the drip. -/
def execAdcGroupComplete (codes : List (BitVec 12)) (s : State) : Host.Outcome State Fault Refusal :=
  s.run (Block.adcComplete (codes.map (·.toNat)))

/-- ADC_CONVERSION_FAIL (R288): core A, or core B. -/
def execAdcConversionFail (coreB : Bool) (s : State) : Host.Outcome State Fault Refusal :=
  s.run (Block.adcFail coreB)

/-- ADC_DISABLE (R559). -/
def execAdcDisable (s : State) : Host.Outcome State Fault Refusal := s.run (Block.adcEnable false)

end Sys2Proof.Machine
end

