-- ==== Sys2Proof/Machine/Blocking.lean ====
section
/-! DEFINITION. The clamp report and the page lock (R13, R124, R129 to R132). -/

namespace Sys2Proof.Machine
namespace Block

def locked (b : Block) (page : Nat) : Bool := b.is (Reg.HDR.LOCKED page)

/-- One entry of the clamp report (R130): the newest 64 are kept. -/
def report (c : Clamp) (b : Block) : Block :=
  let full := 64 ≤ b.clamps.length
  { b with clamps := (c :: b.clamps).take 64 }
    |>.wr Reg.BLK.REP_STAT_HELD (min 64 (b.clamps.length + 1)) |>.cond full (·.inc Reg.BLK.REP_LOST_LOST)

/-- A clamped field (R129). `page` is where the field stands, `off` and `lsb` name it. -/
def clamped (page reason off lsb written stored : Nat) (b : Block) : Block :=
  b |>.inc (Reg.HDR.CLAMP_COUNT page) |>.wr (Reg.HDR.CLAMP_OFFSET page) off |>.wr (Reg.HDR.CLAMP_LSB page) lsb
    |>.inc Reg.BLK.SUMMARY_TOTAL |>.irq 0x0C 0
    |>.report { page, reason, off, lsb, written, stored, time := b.ft / 65536 % 2 ^ 32 }

/-- A judged record of CONF that the loader skips or stops at (R136 to R138). -/
def recordReport (page reason off count at_ : Nat) (b : Block) : Block :=
  b.report { page, reason, off, lsb := 0, written := count, stored := at_, time := b.ft / 65536 % 2 ^ 32 }

/-- `GEN` counts a bus write that stores an RWL field of the page (R124). -/
def bumpGen (page : Nat) (b : Block) : Block := b.incWrap (Reg.HDR.GEN page)

/-- The four words of the entry that `REP_SEL` shows (Table BLK-1). -/
def reportWord (b : Block) (k : Nat) : Nat :=
  match b.clamps.drop (b.rd Reg.BLK.REP_SEL_AGE) with
  | [] => 0
  | c :: _ =>
    [c.page + c.reason * 256 + c.off % 1024 * 65536 + c.lsb * 2 ^ 26 + 2 ^ 31, c.written, c.stored, c.time].getD k 0

/-- `BLK.REP_CLR` (R130). -/
def repClr (b : Block) : Block := { b with clamps := [] } |>.wr Reg.BLK.REP_STAT_HELD 0

end Block

/-- REP_CLR (R130). -/
def execRepClr (s : State) : Host.Outcome State Fault Refusal := s.run Block.repClr

end Sys2Proof.Machine
end

