-- ==== Sys2Proof/Machine/Crypto.lean ====
section
/-! DEFINITION. The ciphers, digests, codes and signature check that the chapters name: SHA-256, AES with GCM, CCM*
and XTS, and Ed25519. The spec names them and gives no tables; their insides are those of the public standards
(assumption 7, PRESUMED): FIPS 180-4, FIPS 197, NIST SP 800-38D, IEEE 802.15.4 Annex B, IEEE 1619 and RFC 8032. -/

namespace Sys2Proof.Machine.Crypto

/-- Bytes as a number, most significant first. -/
def beValue (bs : List Byte) : Nat := bs.foldl (fun a b => a * 256 + b.toNat) 0

/-- The low `n` bytes of a number, most significant first. -/
def beBytes (n v : Nat) : List Byte := (leBytes n v).reverse

/-- A list cut into pieces of `k`; `fuel` is at least their count. -/
def chunks {α : Type} (k : Nat) : Nat → List α → List (List α)
  | 0, _ => []
  | _, [] => []
  | fuel + 1, l => l.take k :: chunks k fuel (l.drop k)

def blocks (k : Nat) (bs : List Byte) : List (List Byte) := chunks k (bs.length + 1) bs

def xorBytes (a b : List Byte) : List Byte := List.zipWith (· ^^^ ·) a b

/-! SHA-2 -/

/-- The first `n` primes. -/
def primes (n : Nat) : List Nat :=
  ((List.range 420).filter fun p => 2 ≤ p && ((List.range p).all fun d => d < 2 || p % d != 0)).take n

/-- The greatest `r` with `r ^ k ≤ n`, by bisection over `bits` bits. -/
def root (k n bits : Nat) : Nat :=
  (List.range bits).foldl (fun r i => let c := r + 2 ^ (bits - 1 - i); if c ^ k ≤ n then c else r) 0

/-- The first `w` bits of the fractional part of the `k`-th root of `p`. -/
def fracRoot (k w p : Nat) : Nat := root k (p * 2 ^ (k * w)) (w + 8) % 2 ^ w

def rotr (w n x : Nat) : Nat := (x / 2 ^ n + x * 2 ^ (w - n)) % 2 ^ w

/-- What differs between SHA-256 and SHA-512: word width, rounds and rotation amounts. -/
structure Sha where
  w : Nat
  rounds : Nat
  e : Nat × Nat × Nat
  a : Nat × Nat × Nat
  s0 : Nat × Nat × Nat
  s1 : Nat × Nat × Nat

def sha256P : Sha := ⟨32, 64, (6, 11, 25), (2, 13, 22), (7, 18, 3), (17, 19, 10)⟩
def sha512P : Sha := ⟨64, 80, (14, 18, 41), (28, 34, 39), (1, 8, 7), (19, 61, 6)⟩

def shaSig (w : Nat) (r : Nat × Nat × Nat) (x : Nat) : Nat := rotr w r.1 x ^^^ rotr w r.2.1 x ^^^ rotr w r.2.2 x
def shaSigS (w : Nat) (r : Nat × Nat × Nat) (x : Nat) : Nat := rotr w r.1 x ^^^ rotr w r.2.1 x ^^^ (x / 2 ^ r.2.2)

/-- The message schedule, newest word first. -/
def shaSchedule (p : Sha) (m : List Nat) : List Nat :=
  (List.range (p.rounds - 16)).foldl (fun (l : List Nat) _ =>
    ((shaSigS p.w p.s1 (l.getD 1 0) + l.getD 6 0 + shaSigS p.w p.s0 (l.getD 14 0) + l.getD 15 0) % 2 ^ p.w) :: l) m.reverse

def shaBlock (p : Sha) (ks : List Nat) (h : List Nat) (blk : List Byte) : List Nat :=
  let m := (blocks (p.w / 8) blk).map beValue
  let ws := (shaSchedule p m).reverse
  let out := (ws.zip ks).foldl (fun (v : List Nat) (x : Nat × Nat) =>
    match v with
    | [a, b, c, d, e, f, g, h] =>
      let t1 := h + shaSig p.w p.e e + ((e &&& f) ^^^ ((2 ^ p.w - 1 - e) &&& g)) + x.2 + x.1
      let t2 := shaSig p.w p.a a + ((a &&& b) ^^^ (a &&& c) ^^^ (b &&& c))
      [(t1 + t2) % 2 ^ p.w, a, b, c, (d + t1) % 2 ^ p.w, e, f, g]
    | v => v) h
  List.zipWith (fun a b => (a + b) % 2 ^ p.w) h out

def sha (p : Sha) (msg : List Byte) : List Byte :=
  let bb := p.w * 2
  let len := msg.length
  let zeros := (2 * bb - (len + 1 + bb / 8) % bb) % bb
  let data := msg ++ [0x80] ++ List.replicate zeros 0 ++ beBytes (bb / 8) (8 * len)
  let ps := primes p.rounds
  let ks := ps.map (fracRoot 3 p.w)
  let h0 := (ps.take 8).map (fracRoot 2 p.w)
  ((blocks bb data).foldl (shaBlock p ks) h0).flatMap (beBytes (p.w / 8))

/-- SHA-256 of FIPS 180-4 (assumption 7, PRESUMED). -/
def sha256 : List Byte → List Byte := sha sha256P
def sha512 : List Byte → List Byte := sha sha512P

/-! AES -/

def xtime (a : Nat) : Nat := if 128 ≤ a then (a * 2 % 256) ^^^ 0x1B else a * 2

/-- Multiplication in the field of AES. -/
def gmul (a b : Nat) : Nat :=
  ((List.range 8).foldl (fun (r : Nat × Nat) i => (if b.testBit i then r.1 ^^^ r.2 else r.1, xtime r.2)) (0, a)).1

def ginv (a : Nat) : Nat :=
  -- a ^ 254
  let sq (x : Nat) : Nat := gmul x x
  let a2 := sq a; let a4 := sq a2; let a8 := sq a4; let a16 := sq a8
  let a32 := sq a16; let a64 := sq a32; let a128 := sq a64
  gmul a128 (gmul a64 (gmul a32 (gmul a16 (gmul a8 (gmul a4 a2)))))

def rotl8 (n x : Nat) : Nat := (x * 2 ^ n + x / 2 ^ (8 - n)) % 256

def sboxOf (x : Nat) : Nat :=
  let i := ginv x
  i ^^^ rotl8 1 i ^^^ rotl8 2 i ^^^ rotl8 3 i ^^^ rotl8 4 i ^^^ 0x63

/-- The substitution table, and its inverse. -/
def sboxTable : List Nat := (List.range 256).map sboxOf
def invTable : List Nat := (List.range 256).map fun y => (sboxTable.findIdx? (· == y)).getD 0

/-- Round keys from a key of 16 or 32 bytes, newest word first while they are made. -/
def aesExpand (key : List Byte) : List (List Nat) :=
  let nk := key.length / 4
  let words := (blocks 4 key).map fun w => w.map (·.toNat)
  let total := 4 * (nk + 7)
  let out := (List.range (total - nk)).foldl (fun (acc : List (List Nat) × Nat) k =>
    let i := k + nk
    let prev := acc.1.getD 0 []
    let (t, rc) :=
      if i % nk = 0 then
        let r := (prev.drop 1 ++ prev.take 1).map fun x => sboxTable.getD x 0
        ((r.getD 0 0 ^^^ acc.2) :: r.drop 1, xtime acc.2)
      else if nk = 8 ∧ i % nk = 4 then (prev.map fun x => sboxTable.getD x 0, acc.2)
      else (prev, acc.2)
    (List.zipWith (· ^^^ ·) (acc.1.getD (nk - 1) []) t :: acc.1, rc)) (words.reverse, 1)
  (chunks 4 64 out.1.reverse).map fun ws => ws.flatten

def mixColumn (c : List Nat) (m : List Nat) : List Nat :=
  (List.range 4).map fun r =>
    (List.range 4).foldl (fun a k => a ^^^ gmul (c.getD k 0) (m.getD ((k + 4 - r) % 4) 0)) 0

def mixColumns (m : List Nat) (s : List Nat) : List Nat := (chunks 4 4 s).flatMap fun c => mixColumn c m

/-- Row `r` of the state turned left by `d × r` places, `d` 1 or 3. -/
def shiftRows (d : Nat) (s : List Nat) : List Nat :=
  (List.range 16).map fun i => s.getD ((i + 4 * d * (i % 4)) % 16) 0

def addKey (k s : List Nat) : List Nat := List.zipWith (· ^^^ ·) k s

def aesEncryptWith (ks : List (List Nat)) (blk : List Byte) : List Byte :=
  let s0 := addKey (ks.getD 0 []) (blk.map (·.toNat))
  let n := ks.length - 1
  let s := (List.range n).foldl (fun s i =>
    let s := shiftRows 1 (s.map fun x => sboxTable.getD x 0)
    let s := if i + 1 < n then mixColumns [2, 3, 1, 1] s else s
    addKey (ks.getD (i + 1) []) s) s0
  s.map (BitVec.ofNat 8)

def aesDecryptWith (ks : List (List Nat)) (blk : List Byte) : List Byte :=
  let n := ks.length - 1
  let s0 := addKey (ks.getD n []) (blk.map (·.toNat))
  let s := (List.range n).foldl (fun s i =>
    let s := (shiftRows 3 s).map fun x => invTable.getD x 0
    let s := addKey (ks.getD (n - 1 - i) []) s
    if i + 1 < n then mixColumns [14, 11, 13, 9] s else s) s0
  s.map (BitVec.ofNat 8)

/-- One block under AES of FIPS 197 (assumption 7, PRESUMED). -/
def aesEncrypt (key blk : List Byte) : List Byte := aesEncryptWith (aesExpand key) blk
def aesDecrypt (key blk : List Byte) : List Byte := aesDecryptWith (aesExpand key) blk

/-! GCM -/

/-- Multiplication in the field of GHASH: 128 bits, most significant first. -/
def ghashMul (x y : Nat) : Nat :=
  ((List.range 128).foldl (fun (r : Nat × Nat) i =>
    (if x.testBit (127 - i) then r.1 ^^^ r.2 else r.1,
      if r.2 % 2 = 1 then (r.2 / 2) ^^^ (0xE1 * 2 ^ 120) else r.2 / 2)) (0, y)).1

def ghash (h : Nat) (bs : List Byte) : Nat :=
  (blocks 16 bs).foldl (fun a blk => ghashMul (a ^^^ beValue (padTo 16 blk)) h) 0

def zeroFill (bs : List Byte) : List Byte := bs ++ List.replicate ((16 - bs.length % 16) % 16) 0

/-- Counter mode from counter block `ctr`; the last four bytes count. -/
def ctrMode (ks : List (List Nat)) (pre : List Byte) (from_ : Nat) (bs : List Byte) (w : Nat) : List Byte :=
  ((blocks 16 bs).zipIdx).flatMap fun e => xorBytes e.1 (aesEncryptWith ks (pre ++ beBytes w (from_ + e.2)))

def gcmTag (ks : List (List Nat)) (nonce aad ct : List Byte) : List Byte :=
  let h := beValue (aesEncryptWith ks (List.replicate 16 0))
  let s := ghash h (zeroFill aad ++ zeroFill ct ++ beBytes 8 (8 * aad.length) ++ beBytes 8 (8 * ct.length))
  xorBytes (beBytes 16 s) (aesEncryptWith ks (nonce ++ beBytes 4 1))

/-- AES-256-GCM with a 12-byte nonce: the ciphertext and the 16-byte tag (assumption 7, PRESUMED). -/
def gcmEncrypt (key nonce aad pt : List Byte) : List Byte × List Byte :=
  let ks := aesExpand key
  let ct := ctrMode ks nonce 2 pt 4
  (ct, gcmTag ks nonce aad ct)

/-- The plaintext, when the tag matches. -/
def gcmDecrypt (key nonce aad ct tag : List Byte) : Option (List Byte) :=
  let ks := aesExpand key
  if gcmTag ks nonce aad ct = tag then some (ctrMode ks nonce 2 ct 4) else none

/-! CCM*, with a 13-byte nonce, a 2-byte length and a 4-byte MIC -/

def ccmMac (ks : List (List Nat)) (nonce aad pt : List Byte) : List Byte :=
  let b0 := [BitVec.ofNat 8 ((if aad = [] then 0 else 64) + 8 + 1)] ++ nonce ++ beBytes 2 pt.length
  let a := if aad = [] then [] else zeroFill (beBytes 2 aad.length ++ aad)
  ((blocks 16 (b0 ++ a ++ zeroFill pt)).foldl (fun x blk => aesEncryptWith ks (xorBytes x blk)) (List.replicate 16 0)).take 4

def ccmMask (ks : List (List Nat)) (nonce : List Byte) : List Byte := aesEncryptWith ks ([1] ++ nonce ++ beBytes 2 0)

/-- The ciphertext and the 4-byte MIC (assumption 7, PRESUMED). -/
def ccmEncrypt (key nonce aad pt : List Byte) : List Byte × List Byte :=
  let ks := aesExpand key
  (ctrMode ks ([1] ++ nonce) 1 pt 2, xorBytes (ccmMac ks nonce aad pt) (ccmMask ks nonce))

def ccmDecrypt (key nonce aad ct mic : List Byte) : Option (List Byte) :=
  let ks := aesExpand key
  let pt := ctrMode ks ([1] ++ nonce) 1 ct 2
  if xorBytes (ccmMac ks nonce aad pt) (ccmMask ks nonce) = mic then some pt else none

/-! XTS -/

/-- Multiplication of a tweak by α: little-endian, 128 bits. -/
def xtsNext (t : Nat) : Nat := if 2 ^ 127 ≤ t then (t * 2 % 2 ^ 128) ^^^ 0x87 else t * 2

/-- AES-256-XTS decryption of whole blocks under `k1` and `k2`; `tweak` is the 16-byte data unit number
(assumption 7, PRESUMED). -/
def xtsDecrypt (k1 k2 tweak ct : List Byte) : List Byte :=
  let ks := aesExpand k1
  let t0 := leValue (aesEncrypt k2 tweak)
  ((blocks 16 ct).foldl (fun (acc : List Byte × Nat) blk =>
    let t := leBytes 16 acc.2
    (acc.1 ++ xorBytes (aesDecryptWith ks (xorBytes blk t)) t, xtsNext acc.2)) ([], t0)).1

/-- R92: the tweak key from the image data key. -/
def xtsK2 (k1 : List Byte) : List Byte :=
  sha256 ([0x4C, 0x55, 0x41, 0x54, 0x48, 0x41, 0x2D, 0x58, 0x54, 0x53, 0x2D, 0x54] ++ k1)

/-! Ed25519 -/

def edP : Nat := 2 ^ 255 - 19
def edL : Nat := 2 ^ 252 + 27742317777372353535851937790883648493

/-- `a ^ e` modulo `m`, over `bits` bits of `e`. -/
def powMod (m a e bits : Nat) : Nat :=
  (List.range bits).foldl (fun r i => let r := r * r % m; if e.testBit (bits - 1 - i) then r * a % m else r) 1

def edInv (x : Nat) : Nat := powMod edP x (edP - 2) 255
def edD : Nat := (edP - 121665) * edInv 121666 % edP

/-- A point in extended coordinates. -/
structure EdPoint where
  x : Nat
  y : Nat
  z : Nat
  t : Nat

def edAdd (p q : EdPoint) : EdPoint :=
  let m := edP
  let a := (p.y + m - p.x) * (q.y + m - q.x) % m
  let b := (p.y + p.x) * (q.y + q.x) % m
  let c := 2 * p.t * q.t % m * edD % m
  let d := 2 * p.z * q.z % m
  let e := (b + m - a) % m
  let f := (d + m - c) % m
  let g := (d + c) % m
  let h := (b + a) % m
  ⟨e * f % m, g * h % m, f * g % m, e * h % m⟩

def edZero : EdPoint := ⟨0, 1, 1, 0⟩

def edMul (k : Nat) (p : EdPoint) : EdPoint :=
  (List.range 256).foldl (fun r i => let r := edAdd r r; if k.testBit (255 - i) then edAdd r p else r) edZero

/-- The `x` of a point with this `y` and sign. -/
def edX (y sign : Nat) : Option Nat :=
  let m := edP
  let u := (y * y + m - 1) % m
  let v := (edD * (y * y % m) + 1) % m
  let x2 := u * edInv v % m
  let x := powMod m x2 ((m + 3) / 8) 253
  let x := if x * x % m = x2 then x else x * powMod m 2 ((m - 1) / 4) 254 % m
  if m ≤ y ∨ x * x % m ≠ x2 ∨ (x = 0 ∧ sign = 1) then none
  else some (if x % 2 = sign then x else m - x)

def edDecode (bs : List Byte) : Option EdPoint :=
  let n := leValue bs
  let y := n % 2 ^ 255
  (edX y (n / 2 ^ 255)).map fun x => ⟨x, y, 1, x * y % edP⟩

def edBase : EdPoint :=
  let y := 4 * edInv 5 % edP
  let x := (edX y 0).getD 0
  ⟨x, y, 1, x * y % edP⟩

def edSame (p q : EdPoint) : Bool :=
  p.x * q.z % edP = q.x * p.z % edP && p.y * q.z % edP = q.y * p.z % edP

/-- Verification of a 64-byte signature (assumption 7, PRESUMED). -/
def edVerify (key msg sig : List Byte) : Bool :=
  match edDecode key, edDecode (sig.take 32) with
  | some a, some r =>
    let s := leValue (sig.drop 32)
    let k := leValue (sha512 (sig.take 32 ++ key ++ msg)) % edL
    s < edL && edSame (edMul s edBase) (edAdd r (edMul k a))
  | _, _ => false

end Sys2Proof.Machine.Crypto
end

