-- ==== Sys2Proof/Machine/Security.lean ====
section
/-! DEFINITION. Lifecycle, key store, crypto engine and debug authorization (04_lifecycle_keys_debug.md, R88 to
R113). -/

namespace Sys2Proof.Machine

/-- The TAP state after an edge of TCK with TMS at `tms` (R100, IEEE 1149.1). -/
def Tap.next (s : Tap) (tms : Bool) : Tap :=
  match s with
  | .reset => if tms then .reset else .idle
  | .idle => if tms then .selectDr else .idle
  | .selectDr => if tms then .selectIr else .captureDr
  | .captureDr => if tms then .exit1Dr else .shiftDr
  | .shiftDr => if tms then .exit1Dr else .shiftDr
  | .exit1Dr => if tms then .updateDr else .pauseDr
  | .pauseDr => if tms then .exit2Dr else .pauseDr
  | .exit2Dr => if tms then .updateDr else .shiftDr
  | .updateDr => if tms then .selectDr else .idle
  | .selectIr => if tms then .reset else .captureIr
  | .captureIr => if tms then .exit1Ir else .shiftIr
  | .shiftIr => if tms then .exit1Ir else .shiftIr
  | .exit1Ir => if tms then .updateIr else .pauseIr
  | .pauseIr => if tms then .exit2Ir else .pauseIr
  | .exit2Ir => if tms then .updateIr else .shiftIr
  | .updateIr => if tms then .selectDr else .idle

namespace Block

/-- Bytes programmed into OTP: bits go from 0 to 1 only. -/
def programOtp (off : Nat) (bs : List Byte) (b : Block) : Block :=
  b.each bs.zipIdx fun e b => b.setByte (otpBase + off + e.2) (b.byte (otpBase + off + e.2) ||| e.1)

/-- The UID as OTP holds it (R557) (assumption 64, DEDUCED). -/
def uid (b : Block) : Nat := b.val (otpBase + 0x10) 8

/-- The mark of a lifecycle word or key record (R89, R557). -/
def otpMark : Nat := 0x5A5AA5A5

/-- The OTP offset of record `k` of a slot (Table PAGE-6). -/
def recordOff (slot k : Nat) : Nat :=
  if slot = 1 then 0x100 else if slot = 5 then 0x140 else if slot = 6 then 0x180 + 0x40 * k else 0x280 + 0x40 * k

/-- A record is programmed when any bit of its mark is 1 (R557). -/
def recorded (b : Block) (slot k : Nat) : Bool := b.val (otpBase + recordOff slot k + 32) 4 != 0

/-- Hash records programmed for KS06 or KS07: the place after the highest one. -/
def hashRecords (b : Block) (slot : Nat) : Nat :=
  (List.range 4).foldl (fun n k => if b.recorded slot k then k + 1 else n) 0

/-- `KEY.OTP_REC`. -/
def showOtp (b : Block) : Block :=
  b |>.wr Reg.KEY.OTP_REC_KS06 (b.hashRecords 6) |>.wr Reg.KEY.OTP_REC_KS07 (b.hashRecords 7)
    |>.wrB Reg.KEY.OTP_REC_KS01 (b.recorded 1 0) |>.wrB Reg.KEY.OTP_REC_KS05 (b.recorded 5 0)

/-! Lifecycle (R88 to R90). -/

def lcWord (b : Block) (k : Nat) : Nat := b.val (otpBase + 4 * k) 4

/-- The state comes from the highest set word (R88, R89). -/
def lcState (b : Block) : Nat := if b.lcWord 2 ≠ 0 then 3 else if b.lcWord 1 ≠ 0 then 2 else if b.lcWord 0 ≠ 0 then 1 else 0

/-- A set word holds another value than its mark, or one before it is clear (R89). -/
def lcCorrupt (b : Block) : Bool := (List.range b.lcState).any fun k => b.lcWord k != otpMark

def lcKeyWrite (key : Nat) (b : Block) : Block :=
  { b with sec := { b.sec with armed := if key = 0x4C432560 then some b.now else none } }

/-- Table SEC-2. -/
def lcCondition (b : Block) (target : Nat) : Bool :=
  if target = 1 then (b.mode == .wake || b.mode == .service)
    && b.recorded 1 0 && b.recorded 5 0 && b.hashRecords 6 != 0 && b.hashRecords 7 != 0
  else if target = 2 then b.mode == .service
  else b.mode == .service && b.level = 2 && b.dbg.won = 2

def lcAdvance (target : Nat) (b : Block) : Block :=
  let armed := match b.sec.armed with | some t => decide (b.now ≤ t + 1000) | none => false
  let b := { b with sec := { b.sec with armed := none } }
  if b.sec.programming.isSome then b.wr Reg.SEC.LC_ADV_RES 5
  else if !armed then b.wr Reg.SEC.LC_ADV_RES 2
  else if target ≠ b.lifecycle + 1 ∨ b.is Reg.SEC.LC_NEXT then b.wr Reg.SEC.LC_ADV_RES 3
  else if !b.lcCondition target then b.wr Reg.SEC.LC_ADV_RES 4
  else { b with sec := { b.sec with programming := some (target, b.now) } } |>.wr Reg.SEC.LC_ADV_RES 5

/-- An advance that is cut short: the word reads clear, correct or partly set (R109), after a loss of supply as after a
reset of MAIN (assumption 129, DESIGN CHOICE). -/
def cutAdvance (b : Block) : Block :=
  match b.sec.programming with
  | some (target, _) =>
    { b.draw 1 with sec := { b.sec with programming := none } }
      |>.programOtp (4 * (target - 1)) (leBytes 4 (otpMark &&& (Config.freeWord b.free).toNat))
  | none => b

def lcAdvanceDone (b : Block) : Block :=
  match b.sec.programming with
  | some (target, _) =>
    { b with sec := { b.sec with programming := none } }
      |>.programOtp (4 * (target - 1)) (leBytes 4 otpMark) |>.wr Reg.SEC.LC_NEXT 1 |>.wr Reg.SEC.LC_ADV_RES 1
  | none => b

/-! Key operations (R93 to R96, R106, R107, R112). -/

def keySlot (b : Block) (n : Nat) : Option (List Byte) := b.sec.slots.getD n none

/-- The slots of LOAD, WRAP, UNWRAP and ZEROIZE (Table KEY-3). -/
def isRamSlot (n : Nat) : Bool := (2 ≤ n && n ≤ 4) || (8 ≤ n && n ≤ 15)

/-- The running job, or a transmission under RADSEC, holds the slot (R107). -/
def slotHeld (b : Block) (n : Nat) : Bool :=
  b.sec.job.any (fun j => j.slot = n && j.op ≠ 6) || b.radio.tx.any (·.key == n)

/-- A key enters its slot (R400: the frame counter of the radio returns to 0 when both its keys are new; R401). -/
def setKey (n : Nat) (key : List Byte) (b : Block) : Block :=
  let b := showSlots <| radioKeyTouched n
    { b with sec := { b.sec with slots := b.sec.slots.set n (some key), pending := b.sec.pending.filter fun e => e.1 != n } }
  let new3 := b.radio.new3 || n = 3
  let new4 := b.radio.new4 || n = 4
  if new3 && new4 then { b with radio := { b.radio with new3 := false, new4 := false } } |>.wr Reg.RADSEC.FC_FC 0
  else { b with radio := { b.radio with new3, new4 } }

def showPending (b : Block) : Block :=
  b.wrB Reg.SEC.JOB_STAT_KEY_PENDING (match b.sec.job with
    | some j => b.sec.pending.any fun e => e.1 == j.slot
    | none => false)

/-- A LOAD or UNWRAP delivers its key: into the slot, or pending while the slot is held (R107). -/
def deliverKey (n : Nat) (key : List Byte) (b : Block) : Block :=
  if b.slotHeld n then
    let rest := b.sec.pending.filter fun (e : Nat × List Byte) => e.1 != n
    { b with sec := { b.sec with pending := rest ++ [(n, key)] } }
      |>.showSlots |>.showPending |>.wr Reg.KEY.OP_STAT_RES 1
  else b |>.setKey n key |>.wr Reg.KEY.OP_STAT_RES 0

/-- The pending key of a slot that nothing holds any more is installed (R107). -/
def installPending (n : Nat) (b : Block) : Block :=
  match b.sec.pending.find? (·.1 == n) with
  | some (_, key) => if b.slotHeld n then b else b |>.setKey n key |>.wr Reg.KEY.OP_STAT_RES 0 |>.showPending
  | none => b

/-- The key that an operation takes: a pending rewrite of a free slot is installed first (R107). -/
def takeKey (n : Nat) (b : Block) : Block × Option (List Byte) :=
  let b := b.installPending n
  (b, b.keySlot n)

/-- The key under which blobs are wrapped (R95) (assumption 8, PRESUMED). -/
def wrapKey (b : Block) : List Byte := (List.range 32).map (Config.wrapKeyByte b.uid b.lifecycle)

def wrapAad (b : Block) (slot lc : Nat) : List Byte :=
  leBytes 2 0x424B ++ leBytes 1 slot ++ leBytes 1 lc ++ leBytes 8 b.uid

/-- Whether PROG_OTP may program the slot, and if not why (R93, R112, Table KEY-1). -/
def progRefusal (b : Block) (n : Nat) : Option Nat :=
  let lc := b.lifecycle
  if n = 1 then (if lc = 0 ∧ ¬ b.recorded 1 0 then none else some 2)
  else if n = 5 then (if lc ≤ 1 ∧ ¬ b.recorded 5 0 then none else some 2)
  else if n = 6 ∨ n = 7 then
    if 2 ≤ lc ∧ b.level ≠ 2 then some 2 else if 4 ≤ b.hashRecords n then some 4 else none
  else some 2

/-- The generator's health test has failed (R99). -/
def trngFailed (b : Block) : Bool := (b.rd (Reg.HDR.ERR 0x04)).testBit 2

/-- The status with which an operation ends at once, if any (assumption 57, DEDUCED). -/
def keyOpRefusal (b : Block) (code n blob : Nat) : Option Nat :=
  if code = 5 then b.progRefusal n
  else if code = 0 ∨ 5 < code ∨ !isRamSlot n then some 2
  -- a key store LASTING by FAIL refuses loads (Table ERR-1)
  else if code ≠ 2 ∧ code ≠ 4 ∧ b.pageFailed 0x05 then some 2
  else if code = 2 ∧ ((b.keySlot n).isNone ∨ b.trngFailed) then some 2
  else if code = 2 ∧ !b.allowedRange 0 blob 64 1 then some 5
  else if code = 3 ∧ !b.allowedRange 0 blob 64 0 then some 5
  else none

/-- A write of `KEY.OP.CODE` (R96). -/
def keyOpStart (code n : Nat) (b : Block) : Block :=
  if b.is Reg.KEY.OP_STAT_BUSY then b.err 0x05 0
  else
    let blob := b.rd Reg.KEY.BLOB_ADDR
    match b.keyOpRefusal code n blob with
    | some r => b.wr Reg.KEY.OP_STAT_RES r
    | none =>
      let data := (List.range 8).flatMap fun i => leBytes 4 (b.rd (Reg.KEY.DATA_DATA i))
      { b with sec := { b.sec with keyOp := some { code, slot := n, blob, data } } } |>.wr Reg.KEY.OP_STAT_BUSY 1

/-- WRAP (R95); without a nonce it does not proceed (R99) (assumption 57, DEDUCED). -/
def wrapBlob (n blob : Nat) (b : Block) : Block :=
  match if b.trngFailed then (b, none) else b.takeKey n with
  | (b, some key) =>
    let k := b.free
    let b := b.draw 3
    let nonce := (List.range 12).map (Config.freeByte k)
    let (ct, tag) := Crypto.gcmEncrypt b.wrapKey nonce (b.wrapAad n b.lifecycle) key
    match b.store 4 blob (leBytes 2 0x424B ++ leBytes 1 n ++ leBytes 1 b.lifecycle ++ nonce ++ ct ++ tag) with
    | (b, true) => b.wr Reg.KEY.OP_STAT_RES 0
    | (b, false) => b.wr Reg.KEY.OP_STAT_RES 5
  | (b, none) => b.wr Reg.KEY.OP_STAT_RES 2

/-- UNWRAP (R95) (assumption 57, DEDUCED). -/
def unwrapBlob (n blob : Nat) (b : Block) : Block :=
  match b.fetch 4 blob 64 with
  | (b, none) => b.wr Reg.KEY.OP_STAT_RES 5
  | (b, some bs) =>
    let ok := bs.take 4 = leBytes 2 0x424B ++ leBytes 1 n ++ leBytes 1 b.lifecycle
    match Crypto.gcmDecrypt b.wrapKey ((bs.drop 4).take 12) (b.wrapAad n b.lifecycle) ((bs.drop 16).take 32) (bs.drop 48) with
    | some key => if ok then b.deliverKey n key else b.wr Reg.KEY.OP_STAT_RES 3
    | none => b.wr Reg.KEY.OP_STAT_RES 3

/-- PROG_OTP (R93, R557): the payload, then the mark (assumption 58, DEDUCED). -/
def progOtp (n : Nat) (data : List Byte) (b : Block) : Block :=
  let k := if n = 6 ∨ n = 7 then b.hashRecords n else 0
  let payload := if n = 6 ∨ n = 7 then Crypto.sha256 data else data
  b |>.programOtp (recordOff n k) payload |>.programOtp (recordOff n k + 32) (leBytes 4 otpMark)
    |>.cond (n = 1 || n = 5) (·.setKey n data) |>.showOtp |>.wr Reg.KEY.OP_STAT_RES 0

/-- The end of the running key operation (R96): its effect and its result (assumption 58, DEDUCED). -/
def keyOpEnd (b : Block) : Block :=
  match b.sec.keyOp with
  | some k =>
    let b := { b with sec := { b.sec with keyOp := none } } |>.wr Reg.KEY.OP_STAT_BUSY 0
    let b := b.cond (k.code = 1) fun b => b.each (List.range 8) fun i => wr (Reg.KEY.DATA_DATA i) 0
    if k.code = 1 then b.deliverKey k.slot k.data
    else if k.code = 2 then b.wrapBlob k.slot k.blob
    else if k.code = 3 then (if k.keyLost then b.wr Reg.KEY.OP_STAT_RES 2 else b.unwrapBlob k.slot k.blob)
    else if k.code = 4 then b |>.zeroSlot k.slot |>.showPending |>.wr Reg.KEY.OP_STAT_RES 0
    else b.progOtp k.slot k.data
  | none => b

/-! Crypto jobs (R97, R98, R106 to R108, R183). -/

/-- Table SEC-3: the slots an operation may use; one that it does not list, none (assumption 127, DESIGN CHOICE). -/
def jobSlotOk (op n : Nat) : Bool :=
  if op = 1 then n = 1
  else if op = 2 ∨ op = 3 then n = 2 || (8 ≤ n && n ≤ 15)
  else if op = 4 ∨ op = 5 then n = 3 || n = 4 || (8 ≤ n && n ≤ 15)
  else if op = 6 then true
  else if op = 7 then n = 6 || n = 7 || (8 ≤ n && n ≤ 15)
  else false

def jobDecrypts (op : Nat) : Bool := op = 1 || op = 3 || op = 5

/-- Bytes the operation writes at its destination. -/
def jobOut (op len : Nat) : Nat := if op = 6 then 32 else if op = 7 then 0 else len

def jobIvLen (op : Nat) : Nat := if op = 1 then 16 else if op = 2 ∨ op = 3 then 12 else if op = 4 ∨ op = 5 then 13 else 0
def jobTagLen (op : Nat) : Nat := if op = 2 ∨ op = 3 then 16 else if op = 4 ∨ op = 5 then 4 else if op = 7 then 64 else 0

def jobLenOk (op len : Nat) : Bool :=
  if op = 1 then len % 16 = 0 && 16 ≤ len && len ≤ 4096 else 1 ≤ len && len ≤ 1048576

/-- Every address against MAIN's permissions at the start (R97) (assumption 56, DEDUCED). -/
def jobAccess (b : Block) (j : Job) : Bool :=
  b.allowedRange 0 j.src j.len 0 && b.allowedRange 0 j.dst (jobOut j.op j.len) 1
    && b.allowedRange 0 j.iv (jobIvLen j.op) 0
    && b.allowedRange 0 j.tag (jobTagLen j.op) (if j.op = 2 ∨ j.op = 4 then 1 else 0)
    && ((j.op < 2 || 5 < j.op) || b.allowedRange 0 j.aad j.aadLen 0)

def jobFinish (res : Nat) (b : Block) : Block :=
  { b with sec := { b.sec with job := none } } |>.wr Reg.SEC.JOB_STAT_RES res |>.showPending |>.irq 0x04 0

/-- `JOB_CTRL.START` (R97) (assumption 56, DEDUCED). -/
def jobStart (op : Nat) (b : Block) : Block :=
  if b.sec.job.isSome then b.err 0x04 1
  else
    let n := b.rd Reg.SEC.JOB_OP_SLOT
    let (b, held) := b.takeKey n
    let key := if op = 6 then some [] else held
    let j : Job := { op, slot := n, src := b.rd Reg.SEC.JOB_SRC_ADDR, dst := b.rd Reg.SEC.JOB_DST_ADDR
                     len := b.rd Reg.SEC.JOB_LEN_LEN, aad := b.rd Reg.SEC.JOB_AAD_ADDR
                     aadLen := b.rd Reg.SEC.JOB_AAD_LEN_LEN, iv := b.rd Reg.SEC.JOB_IV_ADDR
                     tag := b.rd Reg.SEC.JOB_TAG_ADDR, key := key.getD [] }
    if !jobSlotOk op n then b.jobFinish 6
    else if key.isNone then b.jobFinish 5
    else if !jobLenOk op j.len then b.jobFinish 9
    else if !b.jobAccess j then b.jobFinish 7
    else { b with sec := { b.sec with job := some j } } |>.wr Reg.SEC.JOB_STAT_RES 1

/-- The row of the job's own operation: `JOB_OP.OP` holds it, and START is written. -/
def jobRow (op : Nat) (b : Block) : Block := b |>.wr Reg.SEC.JOB_OP_OP op |>.jobStart op

/-- What the operation makes of its inputs: output and tag, or none where a check fails. -/
def jobCompute (j : Job) (src iv aad tag : List Byte) : Option (List Byte × List Byte) :=
  let k16 := j.key.take 16
  if j.op = 1 then some (Crypto.xtsDecrypt j.key (Crypto.xtsK2 j.key) iv src, [])
  else if j.op = 2 then some (Crypto.gcmEncrypt j.key iv aad src)
  else if j.op = 3 then (Crypto.gcmDecrypt j.key iv aad src tag).map fun p => (p, [])
  else if j.op = 4 then some (Crypto.ccmEncrypt k16 iv aad src)
  else if j.op = 5 then (Crypto.ccmDecrypt k16 iv aad src tag).map fun p => (p, [])
  else if j.op = 6 then some (Crypto.sha256 src, [])
  else if Crypto.edVerify j.key src tag then some ([], []) else none

/-- A decrypting job's destination zeroed (R98, R183). -/
def jobZero (j : Job) (b : Block) : Block :=
  b.cond (jobDecrypts j.op) fun b => (b.store 4 j.dst (List.replicate (jobOut j.op j.len) 0) (fenced := false)).1

/-- A job that fails: a decrypting job leaves nothing behind. -/
def jobFail (j : Job) (res : Nat) (b : Block) : Block := b |>.jobZero j |>.jobFinish res

/-- The job's inputs, read by CRYPTO under the rules in force. -/
def jobInputs (j : Job) (b : Block) : Block × Option (List Byte × List Byte × List Byte × List Byte) :=
  match b.fetch 4 j.src j.len with
  | (b, some src) =>
    match b.fetch 4 j.iv (jobIvLen j.op) with
    | (b, some iv) =>
      match b.fetch 4 j.aad (if 2 ≤ j.op ∧ j.op ≤ 5 then j.aadLen else 0) with
      | (b, some aad) =>
        match b.fetch 4 j.tag (if j.op = 3 ∨ j.op = 5 ∨ j.op = 7 then jobTagLen j.op else 0) with
        | (b, some tag) => (b, some (src, iv, aad, tag))
        | (b, none) => (b, none)
      | (b, none) => (b, none)
    | (b, none) => (b, none)
  | (b, none) => (b, none)

/-- The end of the running job. `done` is how many 16-byte blocks it had written when an abort or a lost key stopped
it. -/
def jobEnd (done : Nat) (b : Block) : Block :=
  match b.sec.job with
  | none => b
  | some j =>
    match b.jobInputs j with
    | (b, none) => b.jobFail j 7
    | (b, some (src, iv, aad, tag)) =>
      let out := jobCompute j src iv aad tag
      if j.keyLost || j.abort then
        let part := if jobDecrypts j.op || 5 < j.op then [] else ((out.getD ([], [])).1).take (16 * done)
        (b.store 4 j.dst part).1.jobFail j (if j.keyLost then 4 else 8)
      else
        match out with
        | none => b.jobFail j 3
        | some (data, mac) =>
          match b.store 4 j.dst data with
          | (b, true) =>
            match b.store 4 j.tag mac with
            | (b, true) => b.jobFinish 2
            | (b, false) => b.jobFail j 7
          | (b, false) => b.jobFail j 7

/-- `JOB_CTRL.ABORT` (R108); `late` when the last block has been processed. -/
def jobAbort (late : Bool) (b : Block) : Block :=
  if late then b
  else { b with sec := { b.sec with job := b.sec.job.map fun (j : Job) => if j.op = 7 then j else { j with abort := true } } }

/-! Random words (R99). -/

def trngRead (b : Block) : Block :=
  if b.trngFailed then b.answer 0 else (b.draw 1).answer (Config.freeWord b.free).toNat

/-! The debug port (R100 to R113). -/

/-- The debug port is powered (R100) (assumption 59, DEDUCED). -/
def portPowered (b : Block) : Bool := b.is Reg.DBG.LEVEL_PORT_PWR

/-- TDO is driven in Shift-DR and Shift-IR only, and never while the port is unpowered (R104, R517). -/
def tdoDriven (b : Block) : Bool := b.portPowered && (b.dbg.tap == .shiftDr || b.dbg.tap == .shiftIr)

/-- A TAP reset through TRST_N or TMS: five edges with TMS high lead to Test-Logic-Reset from every state, which selects
IDCODE. -/
def tapReset (b : Block) : Block :=
  { b with dbg := { b.dbg with ir := 1, tap := [true, true, true, true, true].foldl Tap.next b.dbg.tap } }

/-- An instruction scanned in: the TAP goes through its states and rests in Run-Test/Idle
(assumption 133, DEDUCED). -/
def setIr (n : Nat) (b : Block) : Block :=
  let walk := [true, true, false, false, false, false, false, false, true, true, false]
  { b with dbg := { b.dbg with ir := n, tap := walk.foldl Tap.next (b.dbg.tap.next false) } }

/-- Bits shifted through the bypass register: captured 0, each bit leaves one TCK after it came (R100). -/
def bypassScan (tdi : List Bool) (b : Block) : Block :=
  { b with dbg := { b.dbg with bypass := (false :: tdi).getLast (by simp) } }
    |>.answerBytes (((false :: tdi).take tdi.length).map fun v => BitVec.ofNat 8 (bit v))

/-- The answer to a challenge (R102, R113) (assumption 121, DEDUCED). -/
def chalStat (n : Nat) (b : Block) : Block := b.wr Reg.DBG.CHAL_STAT_RES n

/-- R101 step 1: a nonce is drawn and read with the UID. -/
def chalNonce (b : Block) : Block :=
  let b := b.setIr 4
  let b := { b with dbg := { b.dbg with nonce := none } }
  if b.trngFailed then b |>.chalStat 7 |>.answerErr
  else
    let nonce := (List.range 16).map (Config.freeByte b.free)
    { b.draw 4 with dbg := { b.dbg with nonce := some (nonce, b.now) } }
      |>.answerBytes (nonce ++ leBytes 8 b.uid)

/-- Table DBG-2; the duration is the value shifted in (assumption 128, DESIGN CHOICE). -/
def chalMessage (b : Block) (nonce : List Byte) (lvl minutes : Nat) : List Byte :=
  [0x4C, 0x44, 0x42, 0x47] ++ leBytes 8 b.uid ++ nonce ++ leBytes 1 lvl ++ leBytes 1 b.lifecycle ++ leBytes 2 minutes

/-- A failed challenge (R102): the third in a row starts the lock-out of 600 s. -/
def chalFail (b : Block) : Block :=
  let n := b.rd Reg.DBG.FAILS_CNT + 1
  let b := b |>.wr Reg.DBG.FAILS_CNT n |>.chalStat 3
  if 3 ≤ n then { b with dbg := { b.dbg with lockEnd := some (b.now + 6000000) } } |>.wr Reg.DBG.FAILS_LOCK_S 600 else b

/-- R101 steps 2 to 4 (assumption 121, DEDUCED). -/
def chalSignature (full : Bool) (minutes : Nat) (sig : List Byte) (b : Block) : Block :=
  let lvl := if full then 2 else 1
  let used := b.dbg.nonce
  let b := b.setIr 4
  let b := { b with dbg := { b.dbg with nonce := none } }
  if b.dbg.lockEnd.isSome then b.chalStat 5
  else
    match b.keySlot 6, used with
    | none, _ => b.chalStat 6
    | _, none => b.chalStat 4
    | some key, some (nonce, t) =>
      if t + 600000 ≤ b.now then b.chalStat 4
      else if Crypto.edVerify key (b.chalMessage nonce lvl minutes) sig then
        let m := min 480 minutes
        { b with dbg := { b.dbg with won := lvl, wonEnd := if minutes = 0 then none else some (b.now + m * 600000) } }
          |>.wr Reg.DBG.FAILS_CNT 0 |>.wr Reg.DBG.REMAIN_MIN (if minutes = 0 then 0x1FF else m) |>.chalStat 1 |>.relevel
      else b.chalFail

/-- `DBG.REQ` (R103). -/
def dbgReq (v : Nat) (b : Block) : Block :=
  if v < 2 then b |>.wr Reg.DBG.LEVEL_CEIL (min v (b.rd Reg.DBG.LEVEL_CEIL)) |>.relevel else b

/-- MAIN halted (R105): outputs safe, every loop slot opened, its mailboxes' receiver off (assumption 55, DEDUCED). -/
def haltMain (b : Block) : Block :=
  b |>.wr Reg.DBG.HALT_MAIN 1 |>.pwmForce |>.each (List.range 32) imposeMan |>.mbxSweep

/-- DHALT (Table DBG-4): an agent halted or released, and its breakpoint, at level FULL (assumption 55, DEDUCED). -/
def dhalt (agent : Nat) (halt : Bool) (brk : Option Word) (b : Block) : Block :=
  if b.portPowered && b.level = 2 then
    let points := match brk with | some a => b.dbg.breakpoints ++ [a.toNat] | none => b.dbg.breakpoints
    let b := b.setIr 10
    let b := { b with dbg := { b.dbg with breakpoints := points } }
    if agent = 0 then (if halt then b.haltMain else b |>.wr Reg.DBG.HALT_MAIN 0 |>.mbxSweep)
    else b.wrB (if agent = 1 then Reg.DBG.HALT_GNSS else Reg.DBG.HALT_RADIO) halt
  else b

end Block

/-! The commands. -/

/-- LC_KEY_WRITE (R90). -/
def execLcKeyWrite (key : Word) (s : State) : Host.Outcome State Fault Refusal := s.run (Block.lcKeyWrite key.toNat)

/-- LC_ADVANCE (R90). -/
def execLcAdvance (target : Fin 4) (s : State) : Host.Outcome State Fault Refusal := s.run (Block.lcAdvance target)

/-- LC_ADVANCE_DONE (R90). -/
def execLcAdvanceDone (s : State) : Host.Outcome State Fault Refusal := s.run Block.lcAdvanceDone

/-- LC_ARM_EXPIRE (R90): 1,000 drips after the key write. -/
def execLcArmExpire (s : State) : Host.Outcome State Fault Refusal :=
  s.run fun b =>
    match b.sec.armed with
    | some t => if t + 1000 ≤ b.now then { b with sec := { b.sec with armed := none } } else b
    | none => b

/-- LOAD (R96). -/
def execLoad (slot : Fin 32) (s : State) : Host.Outcome State Fault Refusal := s.run (Block.keyOpStart 1 slot)

/-- WRAP (R95). -/
def execWrap (slot : Fin 32) (s : State) : Host.Outcome State Fault Refusal := s.run (Block.keyOpStart 2 slot)

/-- UNWRAP (R95). -/
def execUnwrap (slot : Fin 32) (s : State) : Host.Outcome State Fault Refusal := s.run (Block.keyOpStart 3 slot)

/-- ZEROIZE (R106). -/
def execZeroize (slot : Fin 32) (s : State) : Host.Outcome State Fault Refusal := s.run (Block.keyOpStart 4 slot)

/-- PROG_OTP (R93). -/
def execProgOtp (slot : Fin 32) (s : State) : Host.Outcome State Fault Refusal := s.run (Block.keyOpStart 5 slot)

/-- KEY_OP_END (R96). -/
def execKeyOpEnd (s : State) : Host.Outcome State Fault Refusal := s.run Block.keyOpEnd

/-- KEY_PENDING_INSTALL (R107). -/
def execKeyPendingInstall (slot : Fin 16) (s : State) : Host.Outcome State Fault Refusal :=
  s.run (Block.installPending slot)

/-- XTS_DEC (R97). -/
def execXtsDec (s : State) : Host.Outcome State Fault Refusal := s.run (Block.jobRow 1)

/-- GCM_ENC (R97). -/
def execGcmEnc (s : State) : Host.Outcome State Fault Refusal := s.run (Block.jobRow 2)

/-- GCM_DEC (R97). -/
def execGcmDec (s : State) : Host.Outcome State Fault Refusal := s.run (Block.jobRow 3)

/-- CCM_ENC (R97). -/
def execCcmEnc (s : State) : Host.Outcome State Fault Refusal := s.run (Block.jobRow 4)

/-- CCM_DEC (R97). -/
def execCcmDec (s : State) : Host.Outcome State Fault Refusal := s.run (Block.jobRow 5)

/-- SHA256 (R97). -/
def execSha256 (s : State) : Host.Outcome State Fault Refusal := s.run (Block.jobRow 6)

/-- ED_VERIFY (R97). -/
def execEdVerify (s : State) : Host.Outcome State Fault Refusal := s.run (Block.jobRow 7)

/-- JOB_END (R98). -/
def execJobEnd (done : Nat) (s : State) : Host.Outcome State Fault Refusal := s.run (Block.jobEnd done)

/-- JOB_ABORT (R108). -/
def execJobAbort (late : Bool) (s : State) : Host.Outcome State Fault Refusal := s.run (Block.jobAbort late)

/-- TRNG_READ (R99). -/
def execTrngRead (s : State) : Host.Outcome State Fault Refusal := s.run Block.trngRead

/-- TRNG_HEALTH_FAIL (R99). -/
def execTrngHealthFail (s : State) : Host.Outcome State Fault Refusal := s.run (Block.err 0x04 2)

/-- IDCODE (R100): the TAP answers where its port is powered. -/
def execIdcode (s : State) : Host.Outcome State Fault Refusal :=
  s.run fun b => b.cond b.portPowered fun b => b |>.setIr 1 |>.answer 0x125600B7

/-- BYPASS (R100): the bits shifted in through the bypass register. -/
def execBypass (tdi : List Bool) (s : State) : Host.Outcome State Fault Refusal :=
  s.run fun b => b.cond b.portPowered fun b => b |>.setIr 0x1F |>.bypassScan tdi

/-- TAP_RESET (R100): Test-Logic-Reset, and IDCODE is selected. -/
def execTapReset (s : State) : Host.Outcome State Fault Refusal :=
  s.run fun b => b.cond b.portPowered Block.tapReset

/-- CHAL_NONCE_REQUEST (R101). -/
def execChalNonceRequest (s : State) : Host.Outcome State Fault Refusal :=
  s.run fun b => b.cond b.portPowered Block.chalNonce

/-- CHAL_SIGNATURE (R101, R102, R110, R113): a request for FULL or READ, its duration and its signature. -/
def execChalSignature (full : Bool) (minutes : BitVec 16) (sig : List Byte) (s : State) :
    Host.Outcome State Fault Refusal :=
  s.run fun b => b.cond b.portPowered (Block.chalSignature full minutes.toNat sig)

/-- CHAL_NONCE_EXPIRE (R101): 60 s after the draw. -/
def execChalNonceExpire (s : State) : Host.Outcome State Fault Refusal :=
  s.run fun b =>
    match b.dbg.nonce with
    | some (_, t) => if t + 600000 ≤ b.now then { b with dbg := { b.dbg with nonce := none } } else b
    | none => b

/-- CHAL_LOCKOUT_END (R102): the AON timer of the lock-out has run 600 s, in whatever modes. -/
def execChalLockoutEnd (s : State) : Host.Outcome State Fault Refusal :=
  s.run fun b =>
    match b.dbg.lockEnd with
    | some t =>
      if t ≤ b.now then
        { b with dbg := { b.dbg with lockEnd := none } } |>.wr Reg.DBG.FAILS_CNT 0 |>.wr Reg.DBG.FAILS_LOCK_S 0
      else b
    | none => b

/-- DEBUG_AUTH_EXPIRE (R103, R111): the duration won has run out. -/
def execDebugAuthExpire (s : State) : Host.Outcome State Fault Refusal :=
  s.run fun b =>
    match b.dbg.wonEnd with
    | some t => if t ≤ b.now then b |>.endAuth |>.relevel else b
    | none => b

/-- DBG_REQ_WRITE (R103). -/
def execDbgReqWrite (v : Fin 4) (s : State) : Host.Outcome State Fault Refusal := s.run (Block.dbgReq v)

/-- DHALT (R105): agent 0 MAIN, 1 the GNSS core, 2 the RADIO core; `brk` sets a breakpoint as well. -/
def execDhalt (agent : Fin 3) (halt : Bool) (brk : Option Word) (s : State) : Host.Outcome State Fault Refusal :=
  s.run (Block.dhalt agent halt brk)

end Sys2Proof.Machine
end

