-- ==== Sys2Proof/Machine/CalFlash.lean ====
section
/-! DEFINITION. The calibration set and the flash controller (05_pages_blocking_calibration.md, R117, R140 to R150). -/

namespace Sys2Proof.Machine
namespace Block

/-! The calibration set (Tables CAL-1 to CAL-3). -/

/-- Where section `n` begins in the set, and its payload length. -/
def calSection (n : Nat) : Nat × Nat :=
  [(0x020, 64), (0x080, 24), (0x0A0, 8), (0x0C0, 64), (0x120, 16), (0x140, 4)].getD (n - 1) (0, 0)

def u16At (bs : List Byte) (i : Nat) : Nat := leValue ((bs.drop i).take 2)
def s16At (bs : List Byte) (i : Nat) : Int := signedOf 16 (u16At bs i)
def u32At (bs : List Byte) (i : Nat) : Nat := leValue ((bs.drop i).take 4)

/-- The points of PRESS0 or PRESS1 in a section 4 payload. -/
def pressPoints (p : List Byte) (c : Nat) : List (Nat × Nat) :=
  (List.range 8).map fun k => (u16At p (32 * c + 4 * k), u16At p (32 * c + 4 * k + 2))

/-- Codes of the points strictly ascending. -/
def ascending : List Nat → Bool
  | a :: b :: t => a < b && ascending (b :: t)
  | _ => true

/-- Every value of a section's payload lies within the limits of Table CAL-2. -/
def calLimits (n : Nat) (p : List Byte) : Bool :=
  if n = 1 then (List.range 16).all fun k =>
    29491 ≤ u16At p (4 * k) && u16At p (4 * k) ≤ 36045
      && decide (-256 ≤ s16At p (4 * k + 2)) && decide (s16At p (4 * k + 2) ≤ 255)
  else if n = 2 then (List.range 6).all fun k => 100 ≤ u32At p (4 * k) && u32At p (4 * k) ≤ 1000000
  else if n = 3 then (List.range 2).all fun k => 65536 ≤ u32At p (4 * k) && u32At p (4 * k) ≤ 400 * 65536
  else if n = 4 then (List.range 2).all fun c =>
    ascending ((pressPoints p c).map (·.1)) && (pressPoints p c).all fun x => x.1 ≤ 4095 && x.2 ≤ 20000
  else if n = 5 then
    let base : Int := u16At p 0
    let len2 := s16At p 2 * s16At p 2 + s16At p 4 * s16At p 4 + s16At p 6 * s16At p 6
    decide (1000 ≤ base) && decide (base ≤ 12000)
      && decide ((base - 50) * (base - 50) ≤ len2) && decide (len2 ≤ (base + 50) * (base + 50))
  else (List.range 2).all fun k => 20 ≤ u16At p (2 * k) && u16At p (2 * k) ≤ 2000

def calPayload (b : Block) (n : Nat) : List Byte := b.bytes (calBase + (calSection n).1 + 8) (calSection n).2

/-- The set's header is valid. -/
def calHeaderOk (b : Block) : Bool :=
  b.val calBase 4 = 0x4C41434C && b.val (calBase + 4) 2 = 1 && b.val (calBase + 0x1E) 2 = crc16 (b.bytes calBase 0x1E)

/-- R142 (assumption 68, DEDUCED). -/
def calSectionOk (b : Block) (n : Nat) : Bool :=
  let a := calBase + (calSection n).1
  b.calHeaderOk && (b.val (calBase + 6) 2).testBit n && b.val a 1 = n && b.val (a + 2) 2 = (calSection n).2
    && b.val (a + 4) 2 = crc16 (b.calPayload n) && calLimits n (b.calPayload n)

/-- Unlearned valve delays follow the defaults in force (Table CAL-3, R204). -/
def showDelays (b : Block) : Block :=
  b.each (List.range 256) fun s b =>
    b |>.cond (!b.is (Reg.GAL.SDLY_ON_L (s / 64) (s % 64))) (·.wr (Reg.GAL.SDLY_ON (s / 64) (s % 64)) b.cal.valveOn)
      |>.cond (!b.is (Reg.GAL.SDLY_OFF_L (s / 64) (s % 64))) (·.wr (Reg.GAL.SDLY_OFF (s / 64) (s % 64)) b.cal.valveOff)

/-- The calibration registers read from flash, with the fallback and verdict of each invalid section (R143). -/
def calLoad (b : Block) : Block :=
  let ok (n : Nat) : Bool := b.calSectionOk n
  let p (n : Nat) : List Byte := b.calPayload n
  let c : CalCtl := { b.cal with
    reload := false
    gain := if ok 1 then (List.range 16).map fun k => u16At (p 1) (4 * k) else List.replicate 16 32768
    offset := if ok 1 then (List.range 16).map fun k => s16At (p 1) (4 * k + 2) else List.replicate 16 0
    current := if ok 2 then (List.range 6).map fun k => u32At (p 2) (4 * k) else List.replicate 6 1000
    div := if ok 3 then (List.range 2).map fun k => u32At (p 3) (4 * k) else [2621440, 10485760]
    press := if ok 4 then [pressPoints (p 4) 0, pressPoints (p 4) 1] else []
    ant := if ok 5 then [(u16At (p 5) 0 : Int), s16At (p 5) 2, s16At (p 5) 4, s16At (p 5) 6, (u16At (p 5) 8 : Int),
      s16At (p 5) 10, s16At (p 5) 12] else []
    valveOn := if ok 6 then u16At (p 6) 0 else 300
    valveOff := if ok 6 then u16At (p 6) 2 else 300 }
  let hdr := b.calHeaderOk
  let bad := (List.range 6).filter fun k => !ok (k + 1)
  let mask := (List.range 6).foldl (fun a k => a + (if ok (k + 1) then 2 ^ k else 0)) 0
  let b := { b with cal := c } |>.wrB Reg.CAL.VALID_HDR hdr |>.wr Reg.CAL.VALID_SECT mask
  let b := if hdr then
      b |>.wr Reg.CAL.WCOUNT_COUNT (b.val (calBase + 8) 4) |>.wr Reg.CAL.LAST_LO_TIME (b.val (calBase + 0xC) 4)
        |>.wr Reg.CAL.LAST_HI_TIME (b.val (calBase + 0x10) 4) |>.wr Reg.CAL.LAST_SRC_SRC (b.val (calBase + 0x14) 1)
        |>.wr Reg.CAL.LAST_SRC_ERA (b.val (calBase + 0x15) 1)
    else b |>.wr Reg.CAL.WCOUNT_COUNT 0 |>.wr Reg.CAL.LAST_LO_TIME 0 |>.wr Reg.CAL.LAST_HI_TIME 0
      |>.wr Reg.CAL.LAST_SRC_SRC 0 |>.wr Reg.CAL.LAST_SRC_ERA 0 |>.err 0x0D 1
  let b := b.each bad fun k => verdict ([Verdict.ca 1, Verdict.ca 1, Verdict.ca 1, Verdict.ca 2, Verdict.ca 3, Verdict.ca 4].getD k 0) 0x0D
  let b := b.cond (c.press = []) fun b => b.each (List.range 32) fun s b =>
    b.cond (b.slotCur s = 2 && b.usesPressure s) (·.imposeMan s)
  b.showDelays

/-- R150: a rewrite that was cut short. -/
def calCutCheck (b : Block) : Block :=
  if b.cal.rewrite then
    { b with cal := { b.cal with rewrite := false } } |>.err 0x0D 2
      |>.verdict (Verdict.ca 5) 0x0D (arg0 := b.cal.count.getD 0)
  else b

/-- A section's 8-byte header (step 2 of R145). -/
def calHeader (n : Nat) (p : List Byte) : List Byte :=
  leBytes 1 n ++ [1] ++ leBytes 2 (calSection n).2 ++ leBytes 2 (crc16 p) ++ [0xFF, 0xFF]

/-- The set that a rewrite programs (steps 1 and 2 of R145). -/
def calImage (buf : List Byte) (count src : Nat) (b : Block) : List Byte :=
  let mask := u16At buf 6 % 128 / 2 * 2
  let head := leBytes 4 0x4C41434C ++ leBytes 2 1 ++ leBytes 2 mask ++ leBytes 4 count ++ leBytes 8 b.ft
    ++ leBytes 1 src ++ leBytes 1 b.era ++ List.replicate 8 (0xFF : Byte)
  let blank := head ++ leBytes 2 (crc16 head) ++ List.replicate (0x150 - 0x20) (0xFF : Byte)
  (List.range 6).foldl (fun (img : List Byte) k =>
    if mask.testBit (k + 1) then
      let (off, len) := calSection (k + 1)
      let p := (buf.drop (off + 8)).take len
      img.take off ++ calHeader (k + 1) p ++ p ++ img.drop (off + 8 + len)
    else img) blank

/-- `CAL.CMD.START` (R144, R145). -/
def calStart (b : Block) : Block :=
  if b.cal.job.isSome then b.err 0x0D 3
  else
    let res (r sect : Nat) (b : Block) : Block := b |>.wr Reg.CAL.RES_RES r |>.wr Reg.CAL.RES_SECTION sect
    let buf := b.rd Reg.CAL.BUF_ADDR
    let src := b.rd Reg.CAL.SOURCE_SRC
    -- a CAL page LASTING by FAIL refuses rewrites (Table ERR-1) (assumption 141, DESIGN CHOICE)
    if b.mode != .service || b.pageFailed 0x0D then b |> res 3 0
    else if buf % 4 ≠ 0 ∨ !b.allowedRange 0 buf 0x150 0 then b |> res 5 0
    else if src = 0 then b |> res 4 0
    else
      match b.fetch 10 buf 0x150 (fenced := false) with
      | (b, none) => b |> res 5 0
      | (b, some bytes) =>
        let mask := u16At bytes 6
        let bad := (List.range 6).find? fun k =>
          mask.testBit (k + 1) && !calLimits (k + 1) ((bytes.drop ((calSection (k + 1)).1 + 8)).take (calSection (k + 1)).2)
        match bad with
        | some k => b |> res 4 (k + 1)
        | none =>
          let count := (if b.calHeaderOk then b.val (calBase + 8) 4 else b.cal.count.getD 0) + 1
          { b with cal := { b.cal with job := some (b.calImage bytes count src) } } |> res 1 0 |>.flashServe

/-- The end of the rewrite that the controller runs: sector 0 erased, programmed and verified (steps 3 and 4 of R145)
(assumption 68, DEDUCED). -/
def calEnd (ok : Bool) (b : Block) : Block :=
  match b.cal.job with
  | none => b
  | some img =>
    if b.rd Reg.FLASH.OWNER_OWNER ≠ 4 then b
    else
    let b := b.eraseFlash calBase 4096
    let b := if ok then b.programFlash calBase img else b.scramble calBase 512
    let b := { b with cal := { b.cal with job := none, quiet := false, rewrite := false, reload := true } } |>.flashFree
      |>.wr Reg.CAL.RES_RES (if b.cal.quiet then 0 else if ok then 2 else 6) |>.irq 0x0D 0
    if ok then b.sysEvent 0x0B 0x0D (u32At img 0x14 % 256) (u32At img 8) else b.err 0x0D 0

/-! The flash controller (R146 to R149). -/

/-- A region the FLASH page may not write, or one that `WPROT` protects (Table PAGE-2). -/
def flashRefused (b : Block) (a : Nat) : Bool :=
  if inRange 0x10000000 0x10000 a then 1 < b.lifecycle
  else if inRange (calBase + 0x1000) 0x3000 a then b.is Reg.FLASH.WPROT_OEM_CAL
  else if inRange confBase 0xC000 a then b.is Reg.FLASH.WPROT_CONF
  else true

/-- `FLASH.CMD.START` (R147). -/
def flashStart (op : Nat) (b : Block) : Block :=
  if b.flash.op.isSome then b.err 0x0E 0
  else
    let a := b.rd Reg.FLASH.ADDR_ADDR
    let src := b.rd Reg.FLASH.SRC_ADDR
    let refuse (r : Nat) (b : Block) : Block := b |>.wr Reg.FLASH.RES_RES r |>.irq 0x0E 0
    if op = 0 ∨ op = 3 then b |> refuse 9
    -- a FLASH page LASTING by FAIL refuses its operations (Table ERR-1) (assumption 141, DESIGN CHOICE)
    else if b.flashRefused a || b.pageFailed 0x0E then b |> refuse 5
    else if a % (if op = 1 then 4096 else 256) ≠ 0 ∨ (op = 2 ∧ src % 4 ≠ 0) then b |> refuse 6
    else if op = 2 ∧ !b.allowedRange 0 src 256 0 then b |> refuse 8
    else { b with flash := { b.flash with op := some { op, addr := a, src } } } |>.wr Reg.FLASH.RES_RES 1 |>.flashServe

def flashRow (op : Nat) (b : Block) : Block := b |>.wr Reg.FLASH.CMD_OP op |>.flashStart op

/-- The page's operation has ended. -/
def flashDone (res : Nat) (b : Block) : Block :=
  { b with flash := { b.flash with op := none } } |>.wr Reg.FLASH.RES_RES res |>.irq 0x0E 0

/-- A page cut in the middle of its program: some of the bits that were to fall have fallen (R149)
(assumption 69, DEDUCED). -/
def partProgram (a : Nat) (bs : List Byte) (b : Block) : Block :=
  let k := b.free
  (b.draw (bs.length / 4 + 1)).each bs.zipIdx fun e b =>
    b.setByte (a + e.2) (b.byte (a + e.2) &&& (e.1 ||| Config.freeByte k e.2))

/-- What an operation that ends leaves in flash, and whether its verify passes (R146, R147). -/
def flashWork (o : FlashOp) (ok : Bool) (b : Block) : Block × Bool :=
  if o.op = 1 then (b.eraseFlash o.addr 4096, true)
  else
    match b.fetch 10 o.src 256 (fenced := false) with
    | (b, some bs) =>
      let clean := (bs.zipIdx).all fun e => b.byte (o.addr + e.2) &&& e.1 = e.1
      (if ok then b.programFlash o.addr bs else b.partProgram o.addr bs, ok && clean)
    | (b, none) => (b, false)

/-- The page's operation ends (R146): `ok` is its verify. -/
def flashEnd (ok : Bool) (b : Block) : Block :=
  if b.rd Reg.FLASH.OWNER_OWNER ≠ 5 then b
  else match b.flash.quiet, b.flash.op with
  | some o, _ => { (b.flashWork o ok).1 with flash := { b.flash with quiet := none } } |>.flashFree
  | none, some o =>
    let (b, good) := b.flashWork o ok
    b |>.cond (!good) (·.err 0x0E 1) |>.flashDone (if good then 3 else 7) |>.flashFree
  | none, none => b

/-- An operation stopped before its end (R149). -/
def flashStop (o : FlashOp) (b : Block) : Block :=
  if o.op = 1 then b.scramble o.addr 4096
  else
    let (b, bs) := b.readRange 10 o.src 256
    b.partProgram o.addr bs

/-- `FLASH.CMD.ABORT` (R149): a QUEUED operation is withdrawn, a BUSY one stopped. -/
def flashAbort (b : Block) : Block :=
  match b.flash.op with
  | some o => if b.rd Reg.FLASH.RES_RES = 2 then b |>.flashStop o |>.flashDone 4 |>.flashFree else b.flashDone 4
  | none => b

/-- What a loss of power leaves of operations in progress (R149, R150) (assumption 69, DEDUCED). -/
def flashCut (b : Block) : Block :=
  let owner := b.rd Reg.FLASH.OWNER_OWNER
  let b := match if b.flash.quiet.isSome then b.flash.quiet else b.flash.op with
    | some o => b.cond (owner = 5) (flashStop o)
    | none => b
  let b := b.cond (owner = 4) (·.scramble calBase 4096)
  { b with flash := {}, cal := { b.cal with job := none, quiet := false } }

/-! Flash as MAIN reads it (R117). -/

/-- The plaintext of 16-byte block `k` of a sector of LOADER or IMAGE (R426). -/
def inlineBlock (b : Block) (sectorAt sector k : Nat) (key : List Byte) : List Byte :=
  (Crypto.xtsDecrypt key (Crypto.xtsK2 key) (leBytes 16 sector) (b.bytes sectorAt (16 * (k + 1)))).drop (16 * k)

/-- Byte `a` of flash as MAIN reads it: LOADER and IMAGE decrypted in line under KS01, except in BLANK. -/
def flashByte (b : Block) (a : Nat) : Byte :=
  match b.keySlot 1 with
  | some key =>
    if b.lifecycle ≠ 0 ∧ (inRange 0x10000000 0x10000 a ∨ inRange (imageBase + 4096) (0x200000 - 4096) a) then
      let base := if a < imageBase then 0x10000000 else imageBase
      let s := (a - base) / 4096
      (b.inlineBlock (base + 4096 * s) s (a % 4096 / 16) key).getD (a % 16) 0
    else b.byte a
  | none => b.byte a

def flashWord (b : Block) (a : Nat) : Nat := leValue ((List.range 4).map fun i => b.flashByte (a + i))

end Block

/-- CAL_REWRITE_START (R145). -/
def execCalRewriteStart (s : State) : Host.Outcome State Fault Refusal := s.run Block.calStart

/-- CAL_REWRITE_END (R145): `ok` is the verify of the two pages. -/
def execCalRewriteEnd (ok : Bool) (s : State) : Host.Outcome State Fault Refusal := s.run (Block.calEnd ok)

/-- CAL_RELOAD (R145): the pool edge after a rewrite. -/
def execCalReload (s : State) : Host.Outcome State Fault Refusal := s.run fun b => b.cond b.cal.reload Block.calLoad

/-- ERASE (R147). -/
def execErase (s : State) : Host.Outcome State Fault Refusal := s.run (Block.flashRow 1)

/-- PROGRAM (R147). -/
def execProgram (s : State) : Host.Outcome State Fault Refusal := s.run (Block.flashRow 2)

/-- FLASH_ABORT (R149). -/
def execFlashAbort (s : State) : Host.Outcome State Fault Refusal := s.run Block.flashAbort

/-- FLASH_OP_END (R146). -/
def execFlashOpEnd (ok : Bool) (s : State) : Host.Outcome State Fault Refusal := s.run (Block.flashEnd ok)

/-- FLASH_CACHE_MISS_SUSPEND (R148): MAIN's read of a word of flash is served within the command; the operation it
suspends goes on as before. -/
def execFlashCacheMissSuspend (a : Word) (s : State) : Host.Outcome State Fault Refusal :=
  s.run fun b => if isFlash a.toNat then b.answer (b.flashWord (a.toNat / 4 * 4)) else b

end Sys2Proof.Machine
end

