-- ==== Sys2Proof/Machine/Can.lean ====
section
/-! DEFINITION. The CAN controller (11_can_controller.md): bit timing, the transmit queue and its completion reports,
reception, the ring, error counters, bus-off and recovery; and the queueing of the LIP service's own frames (R343,
R382). -/

namespace Sys2Proof.Machine
namespace Block

/-- R39: `n_max` for a bit time of `brp` × `nTq` cycles of 32 MHz; 160 bit times in drips of 3,200 cycles. -/
def sectMax (brp nTq : Nat) : Nat := min 16 (60 * 3200 / (160 * brp * nTq) - 1)

/-- The stored bit timing at its effective values (R335, R128): PROP, PS1, PS2, SJW, BRP as quanta or cycles. -/
def canTiming (b : Block) : List Nat :=
  let prop := b.rd Reg.CAN.BT_PROP + 1
  let ps1 := b.rd Reg.CAN.BT_PS1 + 1
  let ps2 := b.rd Reg.CAN.BT_PS2 + 1
  let n := 1 + prop + ps1 + ps2
  [prop, ps1, ps2, min (b.rd Reg.CAN.BT_SJW + 1) (min ps1 ps2), max (b.rd Reg.CAN.BT_BRP + 1) (ceilDiv 32 n)]

/-- `CAN.BITRATE` and `TICK.SECT_NMAX` follow the stored timing (R336, R42). -/
def showBitrate (b : Block) : Block :=
  match b.canTiming with
  | [prop, ps1, ps2, _, brp] =>
    let n := 1 + prop + ps1 + ps2
    b |>.wr Reg.CAN.BITRATE_RATE (32000000 / (brp * n)) |>.wr Reg.CAN.BITRATE_SP ((1 + prop + ps1) * 100 / n)
      |>.wr Reg.TICK.SECT_NMAX_NMAX (sectMax brp n)
  | _ => b

/-- R346: microseconds of field time. -/
def ftMicros (ft : Nat) : Nat := ft / 65536 * 100 + ft % 65536 * 100 / 16368

def canTs (b : Block) : Nat := ftMicros b.ft % 2 ^ 32

/-- Field time `us` microseconds ago. -/
def ftAgo (b : Block) (us : Nat) : Nat :=
  let t := ftMicros b.ft - us
  t / 100 * 65536 + t % 100 * 16368 / 100

/-- `TX_STAT` shows the queue. -/
def showTx (b : Block) : Block :=
  b |>.wr Reg.CAN.TX_STAT_COUNT b.can.queue.length
    |>.wr Reg.CAN.TX_STAT_HEAD_TAG (match b.can.queue with | e :: _ => e.tag | [] => 0)
    |>.cond b.can.queue.isEmpty (·.wr Reg.CAN.TX_STAT_SENDING 0)

/-- `TX_DONE` and `TX_DONE_TS` show the oldest report (R342). -/
def showDone (b : Block) : Block :=
  match b.can.done with
  | [] =>
    b |>.wr Reg.CAN.TX_DONE_TAG 0 |>.wr Reg.CAN.TX_DONE_RES 0 |>.wr Reg.CAN.TX_DONE_VALID 0
      |>.wr Reg.CAN.TX_DONE_ATTEMPTS 0 |>.wr Reg.CAN.TX_DONE_TS_TS 0
  | (w, ts) :: _ =>
    b |>.wr Reg.CAN.TX_DONE_TAG (w % 256) |>.wr Reg.CAN.TX_DONE_RES (w / 256 % 8) |>.wr Reg.CAN.TX_DONE_VALID 1
      |>.wr Reg.CAN.TX_DONE_ATTEMPTS (w / 4096 % 16) |>.wr Reg.CAN.TX_DONE_TS_TS ts

/-- An entry put at the end of the queue. -/
def enqueue (e : TxEntry) (b : Block) : Block :=
  { b with can := { b.can with queue := b.can.queue ++ [e] } } |>.showTx

/-! The LIP service's own frames. -/

def setPartner (addr : Nat) (f : Partner → Partner) (b : Block) : Block :=
  let g (p : Partner) : Partner := if p.addr = addr then f p else p
  { b with lip := { b.lip with partners := b.lip.partners.map g } }

def partnerAt (b : Block) (addr : Nat) : Option Partner := b.lip.partners.find? (·.addr == addr)

/-- A frame of the LIP service (R363): identifier and payload, with the retry limit and tag the model gives it. -/
def lipFrame (prio type dest : Nat) (data : List Byte) (tag : Nat) : TxEntry :=
  let d := padTo 8 data
  { id := 2 ^ 29 + prio * 2 ^ 26 + type * 2 ^ 16 + dest * 2 ^ 8 + 1, dlc := data.length, limit := 2, tag
    d0 := leValue (d.take 4), d1 := leValue (d.drop 4) }

/-- A frame that waits for the queue (assumption 98, DEDUCED). -/
def lipPost (e : TxEntry) (b : Block) : Block :=
  if b.is (Reg.HDR.EN 0x26) then { b with lip := { b.lip with outbox := b.lip.outbox ++ [e] } } else b

/-- Frames of steps 1 and 2 of R382 for a partner. -/
def resendFrames (b : Block) (p : Partner) : List TxEntry :=
  let live (q : Nat × Nat × Nat) : Bool := q.2.2 = 0 || b.md.pools < q.2.2
  let own := b.lip.quiet.filter fun q => q.1 = p.addr && live q
  let all := b.lip.quiet.filter fun q => q.1 = 0xFF && live q
  let quiet := (if own.isEmpty then all else own).take 1 |>.map fun q =>
    lipFrame 1 0x06 p.addr (leBytes 1 q.2.1 ++ leBytes 1 0 ++ leBytes 2 (if q.2.2 = 0 then 0 else q.2.2 - b.md.pools)) p.addr
  let cfg := (b.lip.cfg.filter fun c => c.1 = p.uid).mergeSort (fun x y => x.2.1 ≤ y.2.1) |>.map fun c =>
    lipFrame 4 0x08 p.addr (leBytes 1 c.2.1 ++ leBytes 1 0 ++ leBytes 4 c.2.2 ++ leBytes 2 0) p.addr
  quiet ++ cfg

/-- The resend ends (R382): READY, and SECT_CMD goes on from `SEQ0`. -/
def resendDone (p : Partner) (b : Block) : Block :=
  b |>.setPartner p.addr (fun p => { p with resend := none }) |>.wr (Reg.CAN.NODE_SEQ (p.addr - 0x10)) p.seq0
    |>.wr (Reg.CAN.NODE_READY (p.addr - 0x10)) 1

/-- The full-state resend starts, or starts again (R382): at its end when no frame is to be sent, as by the loader (R442).
What an earlier one has left in the queue carries another mark. -/
def resendStart (addr : Nat) (b : Block) : Block :=
  match b.partnerAt addr with
  | none => b
  | some p =>
    let mark := b.lip.marks + 1
    match (if b.is Reg.UPD.USTAT_LOADER_ONLY then [] else b.resendFrames p).map fun e => { e with mark } with
    | [] => b.resendDone p
    | e :: t =>
      { b with lip := { b.lip with
          marks := mark, outbox := b.lip.outbox.filter fun (x : TxEntry) => x.tag != addr } }
        |>.setPartner addr (fun p => { p with resend := some (e :: t), mark }) |>.lipPost e

/-- What the end of an entry means to the LIP service: the step of a resend (R382), the SYNC that `REF` names (R366),
and the last frame posted of a transfer (R387). `sent` tells whether the entry ended SENT. -/
def lipEnded (e : TxEntry) (sent : Bool) (sof : Nat) (b : Block) : Block :=
  if e.tag = 0xF1 then
    if sent then { b with lip := { b.lip with syncSent := some (e.d0 % 256, sof, b.md.pools) } } else b
  else if 0x10 ≤ e.tag ∧ e.tag ≤ 0x4F then
    match b.partnerAt e.tag with
    | none => b
    | some p =>
      match if p.mark = e.mark then p.resend else none with
      | none => b
      | some rest =>
        if !sent then b.resendStart e.tag
        else
          match rest.drop 1 with
          | [] => b.resendDone p
          | n :: t => b |>.setPartner e.tag (fun p => { p with resend := some (n :: t) }) |>.lipPost n
  else if 0x50 ≤ e.tag ∧ e.tag ≤ 0x8F then
    let now := b.md.pools
    let f (t : BtSend) : BtSend :=
      if t.peer + 0x40 = e.tag ∧ t.mark = e.mark then { t with gone := true, since := now } else t
    { b with lip := { b.lip with send := b.lip.send.map f } }
  else b

/-- An entry ends (R342): its report, or the count of a report that found the FIFO full. -/
def endEntry (e : TxEntry) (res ts sof : Nat) (b : Block) : Block :=
  let word := e.tag + res * 256 + min 15 e.attempts * 4096
  let b := if b.can.done.length < 32 then
      { b with can := { b.can with done := b.can.done ++ [(word, ts)] } } |>.showDone
    else b |>.inc Reg.CAN.COUNTS_DONE_LOST |>.err 0x26 5
  b |>.irq 0x26 0 |>.cond (res = 2 || res = 3) (·.irq 0x26 1) |>.lipEnded e (res = 1) sof

/-- Every queued entry that `p` selects ends with `res`. -/
def endWhere (p : TxEntry → Bool) (res : Nat) (b : Block) : Block :=
  let out := b.can.queue.filter p
  let keep := b.can.queue.filter fun e => !p e
  { b with can := { b.can with queue := keep } } |>.each out (fun e b => b.endEntry e res b.canTs b.ft) |>.showTx

/-- The LIP service queues what waits, within the bounds that R343 sets MAIN: frames of lower priority than SECT_CMD's neither
from drip 80 to drip 95 nor more than two at a time (assumption 98, DEDUCED). -/
def lipPump : Nat → Block → Block
  | 0, b => b
  | n + 1, b =>
    match b.lip.outbox with
    | [] => b
    | e :: t =>
      let low (x : TxEntry) : Bool := x.tag < 0xF0 && 2 ≤ x.id / 2 ^ 26 % 8
      let ok := b.can.queue.length < 32 && b.is Reg.HDR.CAN_RUN
        && (!low e || ((b.drip < 80 || 95 < b.drip) && (b.can.queue.filter low).length < 2))
      if ok then lipPump n ({ b with lip := { b.lip with outbox := t } } |>.enqueue e) else b

def lipRun (b : Block) : Block := b.lipPump b.lip.outbox.length

/-! Enable, disable and the bus. -/

/-- The controller sends and the tick pusher pushes (R338). -/
def canActive (b : Block) : Bool :=
  b.is Reg.HDR.CAN_RUN && !b.is Reg.HDR.CAN_FROZEN && b.rd Reg.CAN.ERRC_STATE < 2 && !b.is Reg.CAN.ERRC_RESTR

/-- The controller stops: every queued entry ends FLUSHED (R357), and what the LIP service had under way on the bus is
lost. -/
def canStop (b : Block) : Block :=
  let now := b.md.pools
  let lost (t : BtSend) : BtSend := if t.gone then t else { t with gone := true, since := now }
  { b with
    can := { b.can with stopping := false }
    lip := { b.lip with
      outbox := [], send := b.lip.send.map lost
      partners := b.lip.partners.map fun (p : Partner) => { p with resend := none } } }
    |>.wr Reg.HDR.CAN_RUN 0 |>.wr Reg.CAN.TX_STAT_SENDING 0 |>.endWhere (fun _ => true) 4

/-- The controller takes up the stored timing and joins the bus (R336, R345, R374). One that is LASTING by FAIL stays disabled
(Table ERR-1) (assumption 97, DEDUCED). -/
def canJoin (b : Block) : Block :=
  if !b.running 5 || b.pageFailed 0x26 || b.pageFailed 0x27 then b.wr (Reg.HDR.EN 0x26) 0
  else
    { b with can := { b.can with timing := b.canTiming, again := false }, lip := { b.lip with discover := true } }
      |>.wr (Reg.HDR.EN 0x26) 1 |>.wr Reg.HDR.CAN_RUN 1 |>.wr Reg.CANRX.FIFO_STAT_NEXT_SEQ 0
      |>.wr Reg.CAN.ERRC_RESTR (b.rd Reg.CAN.CFG_RESTR) |>.wr Reg.HDR.CAN_FROZEN (b.rd (Reg.HDR.FREEZE 0x26))

/-- A disable that waited takes place, and an enable that has followed it. A soft reset that waited stands in `resetDue`. -/
def canStopped (b : Block) : Block :=
  b.cond b.can.stopping fun b => b |>.canStop |>.cond (b.can.again && !b.can.resetDue) canJoin

/-- The bus is idle: what waited for it takes place (R352, R357, R360). -/
def canIdle (b : Block) : Block :=
  { b with can := { b.can with other := false } }
    |>.wr Reg.CAN.ERRC_RESTR (b.rd Reg.CAN.CFG_RESTR) |>.wr Reg.HDR.CAN_FROZEN (b.rd (Reg.HDR.FREEZE 0x26))
    |>.canStopped

/-- A frame is on the bus: another node's that a command has told of, or, since the controller offers its head at every idle,
any while it has one to send (assumption 168, DESIGN CHOICE). -/
def busUse (b : Block) : BusUse :=
  if !b.is Reg.HDR.CAN_RUN || 2 ≤ b.rd Reg.CAN.ERRC_STATE then .idle
  else if b.can.other then .other
  else if b.canActive && !b.can.queue.isEmpty then .own
  else .idle

/-- A change of `RESTR` or `FREEZE` takes effect at the next bus idle, which is now where no frame is on the bus. -/
def canSettle (b : Block) : Block := b.cond (b.busUse == .idle) canIdle

/-- `EN` goes to 1, at once or, while a disable waits for the bus, after it. -/
def canEnable (b : Block) : Block :=
  if b.is (Reg.HDR.EN 0x26) then b
  else if b.can.stopping then { b.wr (Reg.HDR.EN 0x26) 1 with can := { b.can with again := true } }
  else b.canJoin

/-- `EN` goes to 0: the controller stops when the frame on the bus has ended (R357). -/
def canDisable (use : BusUse) (b : Block) : Block :=
  if !b.is (Reg.HDR.EN 0x26) then b
  else
    let b := { b.wr (Reg.HDR.EN 0x26) 0 with can := { b.can with again := false } }
    if b.can.stopping then b
    else if !b.is Reg.HDR.CAN_RUN || 2 ≤ b.rd Reg.CAN.ERRC_STATE then b.canStop
    else match use with
      | .own =>
        if b.canActive && !b.can.queue.isEmpty then
          { b.wr Reg.CAN.TX_STAT_SENDING 1 with can := { b.can with stopping := true } }
        else b.canStop
      | .other => { b with can := { b.can with stopping := true, other := true } }
      | .idle => b.canStop

/-! Fault confinement (R350; ISO 11898-1). -/

/-- Entry into bus-off (R350, R351). -/
def busOff (b : Block) : Block :=
  let q := match b.can.queue with
    | e :: t => { e with attempts := 0 } :: t
    | [] => []
  { b with can := { b.can with queue := q } } |>.wr Reg.CAN.TX_STAT_SENDING 0
    |>.wr Reg.CAN.ERRC_STATE (if b.is Reg.CAN.CFG_AUTO_REC then 3 else 2)
    |>.endWhere (fun e => 0xF0 ≤ e.tag) 4
    |>.err 0x26 1 |>.irq 0x26 3 |>.inc Reg.CAN.COUNTS_BUSOFF
    |>.canStopped

/-- The counters take new values, and the state follows them. -/
def setCounters (tec rec_ : Nat) (b : Block) : Block :=
  let st := b.rd Reg.CAN.ERRC_STATE
  let b := b |>.wr Reg.CAN.ERRC_TEC (min 255 tec) |>.wr Reg.CAN.ERRC_REC (min 255 rec_)
  if 2 ≤ st then b
  else if 255 < tec then b.busOff
  else if 127 < tec ∨ 127 < rec_ then b |>.wr Reg.CAN.ERRC_STATE 1 |>.cond (st = 0) (·.irq 0x26 2)
  else b.wr Reg.CAN.ERRC_STATE 0

def tec (b : Block) : Nat := b.rd Reg.CAN.ERRC_TEC
def rec' (b : Block) : Nat := b.rd Reg.CAN.ERRC_REC

/-- `ALONE` and its count (R353, R354). -/
def noAck (b : Block) : Block :=
  let b := b.inc Reg.CAN.NOACK_RUN
  if b.rd Reg.CAN.CFG_ALONE_N ≤ b.rd Reg.CAN.NOACK_RUN && !b.is Reg.CAN.NOACK_ALONE then
    b |>.wr Reg.CAN.NOACK_ALONE 1 |>.irq 0x26 5
      |>.cond (!b.isLasting ⟨0x26, 0, 1⟩) (·.askTest 0x26 0 1)
  else b

def heard (b : Block) : Block := b |>.wr Reg.CAN.NOACK_RUN 0 |>.wr Reg.CAN.NOACK_ALONE 0

/-- The head leaves the queue. -/
def dropHead (b : Block) : Block := { b with can := { b.can with queue := b.can.queue.drop 1 } } |>.showTx

/-- An attempt of the head ends (R341, R350, R353, R355). `ago` is the time since its SOF in µs; `exempt` that an
exception of ISO 11898-1 or of R350 leaves TEC unchanged (assumption 95, DEDUCED). -/
def attemptEnd (o : CanOutcome) (ago : Nat) (exempt : Bool) (b : Block) : Block :=
  match b.can.queue with
  | [] => b
  | e :: rest =>
    if !b.canActive then b
    else
      let b := b.wr Reg.CAN.TX_STAT_SENDING 0
      let sof := b.ftAgo ago
      let b := match o with
        | .sent =>
          b |>.dropHead |>.heard |>.setCounters (b.tec - 1) b.rec'
            |>.endEntry e 1 (ftMicros sof % 2 ^ 32) sof
        | .lost =>
          let b := { b with can := { b.can with other := true } }
          if e.abort then b |>.dropHead |>.endEntry e 3 b.canTs b.ft else b
        | .error lec =>
          let e' : TxEntry := { e with attempts := e.attempts + 1 }
          let keep := exempt && ((lec.val = 3 && b.rd Reg.CAN.ERRC_STATE = 1) || lec.val = 1)
          let b := b |>.wr Reg.CAN.ERRC_LEC lec.val |>.err 0x26 0
          let b := if lec.val = 3 then b.noAck else b
          let b := if e.abort then b |>.dropHead |>.endEntry e' 3 b.canTs b.ft
            else if e.limit < e'.attempts then
              b |>.dropHead |>.inc Reg.CAN.COUNTS_RETRY_OUT |>.err 0x26 2 |>.endEntry e' 2 b.canTs b.ft
            else { b with can := { b.can with queue := e' :: rest } }
          b.cond (!keep) (fun b => b.setCounters (b.tec + 8) b.rec')
      -- where arbitration was lost, the winner's frame goes on
      b |>.cond (o != .lost) canIdle |>.lipRun

/-- An error on the bus outside an attempt's end (R350, R354), after which the bus is idle: the part receives, or transmits an
error or overload flag. `more` counts further increments of 8 that ISO 11898-1 gives the error (assumption 96, PRESUMED). -/
def busError (lec : Nat) (transmitting : Bool) (more : Nat) (b : Block) : Block :=
  if !b.is Reg.HDR.CAN_RUN || 2 ≤ b.rd Reg.CAN.ERRC_STATE then b
  else
    let b := b.wr Reg.CAN.ERRC_LEC lec
    let b := b.err 0x26 0
    let b := if b.is Reg.CAN.ERRC_RESTR then b
      else if transmitting then b.setCounters (b.tec + 8 + 8 * more) b.rec'
      else b.setCounters b.tec (b.rec' + 1 + 8 * more)
    b.canIdle

/-- `RECOVER.GO` (R351). -/
def recover (b : Block) : Block := b.cond (b.rd Reg.CAN.ERRC_STATE = 2) (·.wr Reg.CAN.ERRC_STATE 3)

/-- The end of recovery (R351). -/
def recoveryEnd (b : Block) : Block :=
  if b.rd Reg.CAN.ERRC_STATE = 3 && b.running 5 then
    b |>.wr Reg.CAN.ERRC_TEC 0 |>.wr Reg.CAN.ERRC_REC 0 |>.wr Reg.CAN.ERRC_STATE 0 |>.irq 0x26 4
  else b

/-! Pushes (R338). -/

/-- `TX_PUSH`. -/
def txPush (b : Block) : Block :=
  let tag := b.rd Reg.CAN.TX_CTL_TAG
  if 0xF0 ≤ tag then b.wr Reg.CAN.TX_STAT_PUSH_RES 3
  else if 32 ≤ b.can.queue.length then b |>.wr Reg.CAN.TX_STAT_PUSH_RES 2 |>.err 0x26 3
  else
    b |>.enqueue { id := b.rd Reg.CAN.TX_ID_ID, dlc := b.rd Reg.CAN.TX_CTL_DLC, limit := b.rd Reg.CAN.TX_CTL_LIMIT, tag
                   d0 := b.rd Reg.CAN.TX_D0_DATA, d1 := b.rd Reg.CAN.TX_D1_DATA }
      |>.wr Reg.CAN.TX_STAT_PUSH_RES 1

/-- Entries of a DMA push, in order, until one finds the queue full, carries a bad tag or is denied. -/
def dmaPush : Nat → Nat → Nat → Block → Block
  | 0, _, _, b => b.wr Reg.CAN.TXDMA_STAT_RES 2
  | n + 1, addr, k, b =>
    match b.fetch 3 addr 16 with
    | (b, none) => b |>.wr Reg.CAN.TXDMA_STAT_RES 5 |>.err 0x26 4
    | (b, some bs) =>
      let w (i : Nat) : Nat := leValue ((bs.drop (4 * i)).take 4)
      let tag := bitsOf 23 16 (w 1)
      if 0xF0 ≤ tag then b.wr Reg.CAN.TXDMA_STAT_RES 4
      else if 32 ≤ b.can.queue.length then b |>.wr Reg.CAN.TXDMA_STAT_RES 3 |>.err 0x26 3
      else
        dmaPush n (addr + 16) (k + 1) (b |>.enqueue { id := w 0 % 2 ^ 31, dlc := w 1 % 16, limit := bitsOf 11 8 (w 1), tag
                                                      d0 := w 2, d1 := w 3 } |>.wr Reg.CAN.TXDMA_STAT_PUSHED (k + 1))

def txDmaGo (b : Block) : Block :=
  b |>.wr Reg.CAN.TXDMA_STAT_PUSHED 0
    |> fun b => b.dmaPush (min 32 (b.rd Reg.CAN.TXDMA_N_N)) (b.rd Reg.CAN.TXDMA_ADDR_ADDR / 16 * 16) 0

/-- An abort waits for the head's attempt to end. -/
def markHead (b : Block) : Block :=
  match b.can.queue with
  | e :: t => { b with can := { b.can with queue := { e with abort := true } :: t } } |>.wr Reg.CAN.TX_STAT_SENDING 1
  | [] => b

/-- A write of `TX_ABORT` (R355) (assumption 95, DEDUCED). -/
def txAbort (tag : Nat) (all sending : Bool) (b : Block) : Block :=
  let onBus := sending && b.canActive && !b.can.queue.isEmpty
  if all then
    if onBus then
      let tail := b.can.queue.drop 1
      { b with can := { b.can with queue := b.can.queue.take 1 } } |>.markHead
        |>.each tail (fun e b => b.endEntry e 3 b.canTs b.ft) |>.showTx
    else b.endWhere (fun _ => true) 3
  else
    match b.can.queue.findIdx? (·.tag == tag) with
    | none => b
    | some 0 =>
      if onBus then b.markHead
      else
        match b.can.queue with
        | e :: t => { b with can := { b.can with queue := t } } |>.endEntry e 3 b.canTs b.ft |>.showTx
        | [] => b
    | some i =>
      match b.can.queue[i]? with
      | some e => { b with can := { b.can with queue := b.can.queue.eraseIdx i } } |>.endEntry e 3 b.canTs b.ft |>.showTx
      | none => b

/-- A read of `TX_DONE` (R342, R359). -/
def txDoneRead (actor : Actor) (b : Block) : Block :=
  let w := match b.can.done with
    | (w, _) :: _ => w + 2 ^ 11
    | [] => 0
  let b := b.answer w
  if actor == .debug && b.level < 2 then b
  else { b with can := { b.can with done := b.can.done.drop 1 } } |>.showDone

/-! Reception. -/

/-- Slots of the ring, and the entries it holds (R348, R361). -/
def ringLen (b : Block) : Nat := 2 ^ b.can.ringLog

def ringHeld (b : Block) : Nat :=
  (b.rd Reg.CANRX.RING_HEAD_IDX % b.ringLen + b.ringLen - b.rd Reg.CANRX.RING_TAIL_IDX % b.ringLen) % b.ringLen

def ringFull (b : Block) : Bool := b.ringHeld + 1 = b.ringLen

/-- `CANRX` shows the FIFO, its head entry, and the standing interrupt conditions. -/
def showRx (b : Block) : Block :=
  let ring := b.is Reg.CANRX.RING_CFG_EN
  let b := match b.can.fifo with
    | e :: _ =>
      if ring then b.each (List.range 4) (fun i => wr (Reg.CANRX.W_WORD i) 0) |>.wr Reg.CANRX.TS_TS 0
      else b |>.wr (Reg.CANRX.W_WORD 0) e.w0 |>.wr (Reg.CANRX.W_WORD 1) e.w1 |>.wr (Reg.CANRX.W_WORD 2) e.w2
        |>.wr (Reg.CANRX.W_WORD 3) e.w3 |>.wr Reg.CANRX.TS_TS e.ts
    | [] => b.each (List.range 4) (fun i => wr (Reg.CANRX.W_WORD i) 0) |>.wr Reg.CANRX.TS_TS 0
  let held := if ring then b.ringHeld else 0
  b |>.wr Reg.CANRX.FIFO_STAT_COUNT b.can.fifo.length
    |>.wrBit (Reg.HDR.IRQ_RAW 0x27) 0 (!b.can.fifo.isEmpty || held != 0)
    |>.wrBit (Reg.HDR.IRQ_RAW 0x27) 1 (ring && min (b.ringLen - 1) (b.rd Reg.CANRX.RING_CFG_WM) ≤ held)

/-- A LIP receiver ignores the frame and counts it as malformed (R364): `dlc` that Table LIP-1 gives for a type. -/
def lipDlcOk (type dlc : Nat) : Bool :=
  if [1, 2, 3, 4, 5, 7, 8, 0x40, 0x43].contains type then dlc = 8
  else if type = 6 ∨ type = 0x42 then dlc = 4
  else if 0x10 ≤ type ∧ type ≤ 0x17 then dlc = 8
  else if 0x20 ≤ type ∧ type ≤ 0x3F then dlc = 8
  else if type = 0x41 then 2 ≤ dlc && dlc ≤ 8
  else if type = 0x44 then dlc = 1
  else if type = 0x45 then dlc = 2
  else if 0xC0 ≤ type ∧ type ≤ 0xEF then dlc ≤ 8
  else false

/-- The priorities Table LIP-1 gives a type. -/
def lipMalformed (w0 dlc : Nat) : Bool :=
  !w0.testBit 29 || w0.testBit 30 || w0 / 2 ^ 24 % 4 != 0 || !lipDlcOk (w0 / 2 ^ 16 % 256) dlc

/-- A broadcast QUIET after a drop, which throttles the partners (R384, R343). -/
def quietBroadcast (b : Block) : Block :=
  { b with lip := { b.lip with quiet := b.lip.quiet.filter (fun (q : Nat × Nat × Nat) => q.1 != 0xFF) ++ [(0xFF, 2, b.md.pools + 500)] } }
    |>.lipPost (lipFrame 1 0x06 0xFF (leBytes 1 2 ++ leBytes 1 0 ++ leBytes 2 500) 0)

/-- A second coordinator (R29): the section commands still queued are withdrawn (assumption 99, DEDUCED). -/
def coordSeen (id : Nat) (b : Block) : Block :=
  if b.md.coordConflict then b
  else { b with md := { b.md with coordConflict := true } } |>.endWhere (·.tag == 0xF0) 3 |>.sysEvent 0x10 0x26 id 0

/-- REC after a frame received without error (ISO 11898-1): above 127 it takes an open value from 119 to 127
(assumption 96, PRESUMED). -/
def recGood (b : Block) : Block :=
  if b.is Reg.CAN.ERRC_RESTR then b
  else if 127 < b.rec' then (b.setCounters b.tec (119 + (Config.freeWord b.free).toNat % 9)).draw 1
  else b.setCounters b.tec (b.rec' - 1)

/-- A frame of a block transfer has come from a peer that sends one (R387). -/
def btHeard (id : Nat) (b : Block) : Block :=
  let type := id / 2 ^ 16 % 256
  let now := b.md.pools
  let f (t : BtRecv) : BtRecv := if t.peer = id % 256 then { t with since := now } else t
  b.cond (0x40 ≤ type && type ≤ 0x45 && id / 2 ^ 8 % 256 = 1) fun b => { b with lip := { b.lip with recv := b.lip.recv.map f } }

/-- A frame received as valid (R344 to R349, R560), after which the bus is idle; the LIP service ignores a malformed one
(R364). `id` has IDE at bit 29 and RTR at bit 30. -/
def frameReceive (id dlc : Nat) (data : List Byte) (ago : Nat) (b : Block) : Block :=
  if !b.is Reg.HDR.CAN_RUN || 2 ≤ b.rd Reg.CAN.ERRC_STATE then b
  else
    let rtr := id.testBit 30
    let n := if rtr then 0 else min 8 dlc
    let d := padTo 8 (data.take n)
    let seq := b.rd Reg.CANRX.FIFO_STAT_NEXT_SEQ
    let b := b |>.recGood |>.incWrap Reg.CANRX.FIFO_STAT_NEXT_SEQ
    let bad := lipMalformed id dlc
    let b := b |>.canIdle |>.cond bad (fun b => { b with lip := { b.lip with malformed := b.lip.malformed + 1 } })
      |>.cond (!bad && id % 256 = 1) (·.coordSeen (id % 2 ^ 29))
    let full := 64 ≤ b.can.fifo.length
    if !b.is (Reg.HDR.EN 0x27) ∨ full then
      { b with can := { b.can with gap := true } } |>.inc Reg.CANRX.DROP_COUNT
        |>.cond (b.is (Reg.HDR.EN 0x27)) (fun b => b |>.irq 0x27 2 |>.err 0x27 0) |>.quietBroadcast |>.lipRun
    else
      let e : RxEntry := {
        w0 := (if id.testBit 29 then id % 2 ^ 31 else id % 2 ^ 11 + id / 2 ^ 29 % 4 * 2 ^ 29) + 2 ^ 31
        w1 := seq + dlc * 2 ^ 16 + bit b.can.gap * 2 ^ 20
        w2 := leValue (d.take 4), w3 := leValue (d.drop 4), ts := ftMicros (b.ftAgo ago) % 2 ^ 32 }
      { b with can := { b.can with fifo := b.can.fifo ++ [e], gap := false } } |>.heard |>.cond (!bad) (btHeard id) |>.showRx

/-- The debug port reads without side effect below FULL (R12, R359). -/
def quietReader (b : Block) (actor : Actor) : Bool := actor == .debug && b.level < 2

/-- A read of `W0` (R347). -/
def w0Read (actor : Actor) (b : Block) : Block :=
  let b := b.answer (b.rd (Reg.CANRX.W_WORD 0))
  if b.quietReader actor || b.can.fifo.isEmpty || b.is Reg.CANRX.RING_CFG_EN then b
  else b.wr Reg.CANRX.FIFO_STAT_LOCKED 1

/-- A read of `W3` (R347). -/
def w3Read (actor : Actor) (b : Block) : Block :=
  let b := b.answer (b.rd (Reg.CANRX.W_WORD 3))
  if b.quietReader actor || !b.is Reg.CANRX.FIFO_STAT_LOCKED || b.is Reg.CANRX.RING_CFG_EN then b
  else { b with can := { b.can with fifo := b.can.fifo.drop 1 } } |>.wr Reg.CANRX.FIFO_STAT_LOCKED 0 |>.showRx

/-- One entry moved into the ring (R348). -/
def ringWrite (b : Block) : Block :=
  match b.can.fifo with
  | [] => b
  | e :: t =>
    if !b.is Reg.CANRX.RING_CFG_EN || !b.is (Reg.HDR.EN 0x27) || b.ringFull || !b.running 5 then b
    else
      let h := b.rd Reg.CANRX.RING_HEAD_IDX % b.ringLen
      let bs := [e.w0, e.w1, e.w2, e.w3, e.ts, 0, 0, 0].flatMap (leBytes 4)
      match b.store 3 (b.can.ringBase + 32 * h) bs with
      | (b, true) =>
        { b with can := { b.can with fifo := t } } |>.wr Reg.CANRX.RING_HEAD_IDX ((h + 1) % b.ringLen) |>.showRx
      | (b, false) => b |>.wr Reg.CANRX.RING_CFG_EN 0 |>.err 0x27 1 |>.showRx

end Block

/-- CAN_ENABLE (R336). -/
def execCanEnable (s : State) : Host.Outcome State Fault Refusal := s.run Block.canEnable

/-- CAN_DISABLE (R357): `bus` tells what is on the bus. -/
def execCanDisable (bus : BusUse) (s : State) : Host.Outcome State Fault Refusal := s.run (Block.canDisable bus)

/-- TX_PUSH (R338). -/
def execTxPush (s : State) : Host.Outcome State Fault Refusal := s.run fun b => b.cond (b.running 5) Block.txPush

/-- TXDMA_GO (R338). -/
def execTxdmaGo (s : State) : Host.Outcome State Fault Refusal := s.run fun b => b.cond (b.running 5) Block.txDmaGo

/-- TX_ABORT (R355). -/
def execTxAbort (tag : Byte) (all sending : Bool) (s : State) : Host.Outcome State Fault Refusal :=
  s.run (Block.txAbort tag.toNat all sending)

/-- A read of a register of CAN or CANRX by `a` (R18, R19): the debug port reads from level READ on. -/
def Block.canRead (a : Actor) (page : Nat) (f : Block → Block) (b : Block) : Block :=
  b.cond (b.powered && (a != .debug || b.level != 0)) (Block.reach a page false f)

/-- TX_DONE_READ (R342). -/
def execTxDoneRead (actor : Actor) (s : State) : Host.Outcome State Fault Refusal :=
  s.run (Block.canRead actor 0x26 (Block.txDoneRead actor))

/-- W0_READ (R347). -/
def execW0Read (actor : Actor) (s : State) : Host.Outcome State Fault Refusal :=
  s.run (Block.canRead actor 0x27 (Block.w0Read actor))

/-- W3_READ (R347). -/
def execW3Read (actor : Actor) (s : State) : Host.Outcome State Fault Refusal :=
  s.run (Block.canRead actor 0x27 (Block.w3Read actor))

/-- RING_WRITE (R348). -/
def execRingWrite (s : State) : Host.Outcome State Fault Refusal := s.run Block.ringWrite

/-- RECOVER (R351). -/
def execRecover (s : State) : Host.Outcome State Fault Refusal := s.run fun b => b.cond (b.running 5) Block.recover

/-- RECOVERY_END (R351). -/
def execRecoveryEnd (s : State) : Host.Outcome State Fault Refusal := s.run fun b => b.cond (b.running 5) Block.recoveryEnd

end Sys2Proof.Machine
end

