-- ==== Sys2Proof/Machine/Gallery.lean ====
section
/-! DEFINITION. The gallery (07_gallery_sections.md): geometry and boundary, the input latch, holds, evaluation, the
command latch, painting, learned delays and probes, and the pulse inputs. -/

namespace Sys2Proof.Machine

/-- One millimetre in the gallery's unit of length. -/
def mm : Int := 65536

/-- A turn of 2^32 from hundredths of a degree. -/
def centiTurn (a : Int) : Nat := unsignedOf 32 (roundDiv (a * 2 ^ 32) 36000)

/-! The local plane (R190): WGS-84. -/

/-- sin² of the latitude in 2^-40. -/
def sin2 (lat : Int) : Int :=
  let s := sinTurn (unsignedOf 32 (roundDiv (lat * 2 ^ 32) 3600000000))
  mulQ40 s s

/-- 1 − e² sin² φ in 2^-40, with e² = 6.69437999014 × 10⁻³. -/
def wFactor (lat : Int) : Nat := (2 ^ 40 - roundDiv (sin2 lat * 669437999014) (10 ^ 14)).toNat

/-- Radii of curvature in µm: prime vertical a / √w, meridian a (1 − e²) / (w √w). -/
def nRad (lat : Int) : Nat := 6378137000000 * 2 ^ 20 / max 1 (isqrt (wFactor lat))

def mRad (lat : Int) : Nat := nRad lat * (10 ^ 14 - 669437999014) / 10 ^ 14 * 2 ^ 40 / max 1 (wFactor lat)

/-- Length in the gallery's unit of an angle of 1e-7° on a radius in µm: × π / 180 × 1e-7 / 1000 × 65,536. -/
def arcLen (d : Int) (rad : Nat) : Int := roundDiv (d * (rad : Int) * 65536 * 314159265358979) (180 * 10 ^ 24)

/-! Boundary (R192). -/

def onSegment (p a b : Int × Int) : Bool :=
  (b.1 - a.1) * (p.2 - a.2) = (b.2 - a.2) * (p.1 - a.1)
    && min a.1 b.1 ≤ p.1 && p.1 ≤ max a.1 b.1 && min a.2 b.2 ≤ p.2 && p.2 ≤ max a.2 b.2

/-- The ray from `p` eastward crosses the edge. -/
def rayCrosses (p a b : Int × Int) : Bool :=
  if (p.2 < a.2) = (p.2 < b.2) then false
  else
    let d := (b.1 - a.1) * (p.2 - a.2) - (b.2 - a.2) * (p.1 - a.1)
    if a.2 < b.2 then 0 < d else d < 0

def edgesOf (vs : List (Int × Int)) : List ((Int × Int) × (Int × Int)) :=
  match vs with
  | [] => []
  | v :: t => (v :: t).zip (t ++ [v])

def inPolygon (p : Int × Int) (vs : List (Int × Int)) : Bool :=
  let es := edgesOf vs
  es.any (fun e => onSegment p e.1 e.2) || (es.filter fun e => rayCrosses p e.1 e.2).length % 2 = 1

/-- Inside the plot: in a used inclusion and in no used exclusion. -/
def inPlot (bnd : Boundary) (p : Int × Int) : Bool :=
  bnd.polys.any (fun q => q.1 && inPolygon p q.2) && !(bnd.polys.any fun q => !q.1 && inPolygon p q.2)

namespace Block

/-- A latched GAL field. -/
def cf (b : Block) (f : Fld) : Nat := b.gal.conf.get f
def cfI (b : Block) (f : Fld) : Int := signedOf f.width (b.cf f)

/-- A section's field. -/
def ofSec (f : Nat → Nat → Fld) (s : Nat) : Fld := f (s / 64) (s % 64)

/-- Bit of a section in one of the maps of Table GAL-9. -/
def secBit (b : Block) (f : Nat → Nat → Fld) (s : Nat) : Bool := (b.rd (f (s / 64) (s % 64 / 32))).testBit (s % 32)

def setSecBit (f : Nat → Nat → Fld) (s : Nat) (v : Bool) (b : Block) : Block :=
  b.wrBit (f (s / 64) (s % 64 / 32)) (s % 32) v

/-- Cell size in mm. -/
def cellMm (b : Block) : Nat := if b.cf Reg.GAL0.GRID_CELL = 0 then 250 else 500

/-- The gallery runs (page reference, R75). -/
def galRuns (b : Block) : Bool := b.mode == .field || b.md.leaving.isSome

/-! Coverage map (R191). -/

def coverBase : Nat := 0x20100000

/-- What a read of a byte of SRAM returns (R156), without the read's effects. -/
def peek (b : Block) (a : Nat) : Nat :=
  let m := b.flipOf a
  let v := (b.byte a).toNat
  match eccJudge m with
  | .good => v ^^^ (eccData m / 256 ^ (a % 4) % 256)
  | .single s => v ^^^ (eccData (eccFix m s) / 256 ^ (a % 4) % 256)
  | .double => 0

/-- What the coverage port reads, as PWMADC_DMA under MAIN's fence permissions (Table SRAM-2): 0 where it is denied. -/
def coverVal (b : Block) (a : Nat) : Nat := if b.allowed 0 (a / 4 * 4) 0 then b.peek a else 0

/-- The port's read itself: its beat, its check by the fences, and what the code finds. -/
def coverRead (a : Nat) (b : Block) : Block :=
  let w := a / 4 * 4
  let b := b.beat 1 (bankOf w)
  if b.allowed 0 w 0 then (b.readWord 1 w).1 else b.violation 1 w 0

/-- Column and row of a point; none off the grid. -/
def cellOf (b : Block) (p : Int × Int) : Option (Nat × Nat) :=
  let c : Int := b.cellMm * mm
  let col := (p.1 - b.cfI Reg.GAL0.ORIG_E_E * mm).fdiv c
  let row := (p.2 - b.cfI Reg.GAL0.ORIG_N_N * mm).fdiv c
  if 0 ≤ col ∧ col < 2048 ∧ 0 ≤ row ∧ row < 2048 then some (col.toNat, row.toNat) else none

def tileOf (col row : Nat) : Nat := row / 64 * 32 + col / 64

def cellByte (col row : Nat) : Nat := coverBase + tileOf col row * 512 + row % 64 * 8 + col % 64 / 8

/-- A cell is covered as the coverage port reads it (R199) (assumption 77, DEDUCED). -/
def isCovered (b : Block) (col row : Nat) : Bool := (b.coverVal (cellByte col row)).testBit (col % 8)

/-! Prediction (R197, R198). -/

/-- π in 10^-12. -/
def piE12 : Nat := 3141592653590

/-- Distance in the gallery's unit that `v` mm/s covers in `t` / 128 drips (assumption 9, DESIGN CHOICE). -/
def runLen (v t : Int) : Int := roundDiv (v * t * 65536) 1280000

/-- The pose at `t` / 128 drips of field time: ANT_A's position and the heading. -/
def poseAt (p : Pose) (t : Int) : (Int × Int) × Nat :=
  let d := t - p.t
  let turn : Int := roundDiv (p.w * d * 2 ^ 32) (36000 * 1280000)
  let th := unsignedOf 32 ((p.th : Int) + turn)
  if p.w.natAbs < 6 then
    let l := runLen p.v d
    ((p.e + mulQ40 l (sinTurn p.chi), p.n + mulQ40 l (cosTurn p.chi)), th)
  else
    let r : Int := roundDiv (p.v * 65536 * 18000 * 10 ^ 12 * (if p.w < 0 then -1 else 1)) (p.w.natAbs * piE12)
    let c2 := unsignedOf 32 ((p.chi : Int) + turn)
    ((p.e + mulQ40 r (cosTurn p.chi - cosTurn c2), p.n + mulQ40 r (sinTurn c2 - sinTurn p.chi)), th)

/-- R198: the corrected fore-aft position of a section in the gallery's unit; without ANT_B in use, `FORE`. -/
def foreOf (b : Block) (s : Nat) (dxb : Int) : Int :=
  let fore := b.cfI (ofSec Reg.GAL.SGEO_FORE s)
  let py := b.cfI Reg.GAL0.PIVOT_Y
  match b.cal.ant with
  | [] => fore * mm
  | ant =>
    let den := ant.getD 2 0 - py
    if b.cf Reg.GAL0.SWING_EN = 1 ∧ b.antBUse ∧ 1000 ≤ den.natAbs then
      let a := b.cfI (ofSec Reg.GAL.SGEO_LAT s) - py
      let k : Int := b.cf Reg.GAL0.SWING_KAPPA
      fore * mm + roundDiv (dxb * mm * ((256 - k) * a * den + k * a * a)) (256 * (den * den).natAbs)
    else fore * mm

/-- The sample points of a section in the cart frame (R194): fore-aft and lateral. -/
def samplePoints (b : Block) (s : Nat) (dxb : Int) : List (Int × Int) :=
  let w := b.cf (ofSec Reg.GAL.SMAP_WIDTH s)
  let k := ceilDiv w b.cellMm + 1
  let x := b.foreOf s dxb
  let lat := b.cfI (ofSec Reg.GAL.SGEO_LAT s)
  (List.range k).map fun (i : Nat) => (x, lat * mm - (w : Int) * 32768 + roundDiv ((w : Int) * mm * (i : Int)) (k - 1))

/-- A point of the cart frame in the plane (assumption 9, DESIGN CHOICE). -/
def toPlane (q : (Int × Int) × Nat) (x y : Int) : Int × Int :=
  let s := sinTurn q.2
  let c := cosTurn q.2
  (q.1.1 + mulQ40 x s - mulQ40 y c, q.1.2 + mulQ40 x c + mulQ40 y s)

/-- A section's sample points in the plane at `t`. -/
def pointsAt (b : Block) (s : Nat) (t : Int) : List (Int × Int) :=
  match b.gal.pose with
  | none => []
  | some p =>
    let q := poseAt p t
    (b.samplePoints s p.dxb).map fun xy => toPlane q xy.1 xy.2

/-- Inside the plot and, where asked, on a covered cell. -/
def needs (b : Block) (p : Int × Int) : Bool :=
  match b.cellOf p with
  | none => false
  | some (c, r) => inPlot b.gal.bnd p && !b.isCovered c r

/-- What a section wants at `t` (R194, R208). -/
def wants (b : Block) (s : Nat) (planned : Bool) (t : Int) : Bool :=
  let gate := b.is Reg.GAL0.STATUS_GATE
  if b.gal.frozen then planned && gate
  else if !(b.is Reg.GAL0.STATUS_LA || b.is Reg.GAL0.STATUS_HOLD) || !gate then false
  else
    let ps := b.pointsAt s t
    let n := (ps.filter b.needs).length
    n != 0 && 100 * (ps.length - n) ≤ b.cf Reg.GAL0.GRID_OVLP * ps.length

/-- The bytes of the coverage map that sampling a section at `t` reads. -/
def readsAt (b : Block) (s : Nat) (t : Int) : List Nat :=
  (b.pointsAt s t).filterMap fun p =>
    if inPlot b.gal.bnd p then (b.cellOf p).map fun c => cellByte c.1 c.2 else none

/-! The budget (R202). -/

/-- The worst case for given fields, over the sections that `en` enables. -/
def galCost (cell bisect emax : Nat) (widths : List Nat) : Nat :=
  let c := if cell = 0 then 250 else 500
  widths.foldl (fun a w =>
    let k := ceilDiv w c + 1
    a + 300 + 24 * k + (2 + bisect) * (150 + k * (10 + 6 * emax))) 24000

def enabledSecs (b : Block) : List Nat := (List.range 256).filter fun s => b.is (ofSec Reg.GAL.SMAP_EN s)

def galPredWith (b : Block) (cell bisect emax : Nat) : Nat :=
  galCost cell bisect emax (b.enabledSecs.map fun s => b.rd (ofSec Reg.GAL.SMAP_WIDTH s))

/-- `TICK.GAL_PRED` follows the stored configuration (R42). E is the boundary's own figure, of which `EMAX` shows 8 bits. -/
def showPred (b : Block) : Block :=
  b.wr Reg.TICK.GAL_PRED_PRED
    (b.galPredWith (b.rd Reg.GAL0.GRID_CELL) (b.rd Reg.GAL0.EVAL_BISECT) b.gal.bndNew.emax)

def galBudget : Nat := 1309440

/-! The boundary table (R193). -/

/-- The causes of `BND_STAT.RES`, and the polygons of a good table (assumption 75, DEDUCED). A wrong magic reads CRC, a kind
that the table does not list COUNT, and the first cause in this order counts (assumption 132, DESIGN CHOICE). -/
def readBoundary (b : Block) : Block × Nat × List (Bool × List (Int × Int)) :=
  let a := b.rd Reg.GAL0.BND_ADDR_ADDR / 4 * 4
  if !b.allowedRange 0 a 8 0 then (b, 6, [])
  else match b.fetch 1 a 8 with
  | (b, none) => (b, 6, [])
  | (b, some h) =>
    let m := leValue ((h.drop 2).take 1)
    let v := leValue ((h.drop 4).take 2)
    if leValue (h.take 2) ≠ 0x4E42 then (b, 2, [])
    else if m = 0 ∨ 8 < m ∨ v < 3 ∨ 256 < v then (b, 4, [])
    else if !b.allowedRange 0 (a + 8) (4 * m + 8 * v) 0 then (b, 6, [])
    else
      match b.fetch 1 (a + 8) (4 * m + 8 * v) with
      | (b, none) => (b, 6, [])
      | (b, some body) =>
        let heads := (List.range m).map fun i => (body.drop (4 * i)).take 4
        let kinds := heads.map fun (h : List Byte) => leValue (h.take 1)
        let counts := heads.map fun (h : List Byte) => leValue (h.drop 2)
        let c : Int := (if b.rd Reg.GAL0.GRID_CELL = 0 then 250 else 500)
        let inGrid (x o : Int) : Bool := 0 ≤ (x - o).fdiv c && (x - o).fdiv c < 2048
        let vert (i : Nat) : Int × Int := (leSigned ((body.drop (4 * m + 8 * i)).take 4),
          leSigned ((body.drop (4 * m + 8 * i + 4)).take 4))
        let vs := (List.range v).map vert
        if crc16 body ≠ leValue ((h.drop 6).take 2) then (b, 2, [])
        else if kinds.any (fun k => k != 1 && k != 2) ∨ counts.any (· < 3) ∨ counts.foldl (· + ·) 0 ≠ v then (b, 4, [])
        else if (kinds.dropWhile (· == 1)).contains 1 then (b, 3, [])
        else if !(vs.all fun p => inGrid p.1 (b.rdI Reg.GAL0.ORIG_E_E) && inGrid p.2 (b.rdI Reg.GAL0.ORIG_N_N)) then (b, 5, [])
        else
          let cut := fun (acc : List (Bool × List (Int × Int)) × List (Int × Int)) (kc : Nat × Nat) =>
            (acc.1 ++ [(kc.1 == 2, (acc.2.take kc.2).map fun (p : Int × Int) => (p.1 * mm, p.2 * mm))], acc.2.drop kc.2)
          (b, 1, ((kinds.zip counts).foldl cut ([], vs)).1)

/-- R202: the largest number of edges that meet any band of 16 grid rows. -/
def edgeMaxAt (cell : Nat) (origin : Int) (polys : List (Bool × List (Int × Int))) : Nat :=
  let c : Int := (if cell = 0 then 250 else 500) * mm
  let row (y : Int) : Int := (y - origin * mm).fdiv c
  let spans := (polys.flatMap fun q => edgesOf q.2).map fun e =>
    ((row (min e.1.2 e.2.2)).fdiv 16, (row (max e.1.2 e.2.2)).fdiv 16)
  (List.range 128).foldl (fun (m k : Nat) => max m (spans.filter fun (s : Int × Int) => decide (s.1 ≤ (k : Int)) && decide ((k : Int) ≤ s.2)).length) 0

def edgeMax (b : Block) (polys : List (Bool × List (Int × Int))) : Nat :=
  edgeMaxAt (b.rd Reg.GAL0.GRID_CELL) (b.rdI Reg.GAL0.ORIG_N_N) polys

/-- `EMAX` in its 8 bits; 256 shows as 255 (assumption 145, DEDUCED). -/
def wrEmax (e : Nat) (b : Block) : Block := b.wr Reg.GAL0.BND_STAT_EMAX (min 255 e)

/-- `GRID.CELL` or `ORIG_N` has moved the bands of 16 rows: `EMAX` follows (R42, R202) (assumption 145, DEDUCED). -/
def showEmax (b : Block) : Block :=
  let e := b.edgeMax b.gal.bndNew.polys
  { b with gal := { b.gal with bndNew := { b.gal.bndNew with emax := e } } }.wrEmax e

/-- A write of `v` to `BND.NPOLY` (R193, R202): the nearest legal value, the lower on a tie (assumption 82, DEDUCED). -/
def boundaryLoad (v : Nat) (b : Block) : Block :=
  if b.locked 0x10 then b
  else
    match b.readBoundary with
    | (b, res, polys) =>
      let x := (polys.filter fun q => !q.1).length
      let e (n : Nat) : Nat := b.edgeMax (polys.take n)
      let fits (n : Nat) : Bool :=
        b.galPredWith (b.rd Reg.GAL0.GRID_CELL) (b.rd Reg.GAL0.EVAL_BISECT) (if n = 0 then 0 else e n) ≤ galBudget
      let legal := 0 :: (List.range (polys.length + 1)).filter fun n => x < n
      let ok := legal.filter fun n => n = 0 || fits n
      let near (l : List Nat) : Nat := l.foldl (fun m n => if (Int.ofNat n - v).natAbs < (Int.ofNat m - v).natAbs then n else m) 0
      let n := near ok
      let budget := res = 1 && n != near legal
      let used := polys.take n
      b |>.wr Reg.GAL0.BND_NPOLY n |>.wr Reg.GAL0.BND_STAT_RES (if budget then 7 else res)
        |>.wr Reg.GAL0.BND_STAT_XCOUNT (if n = 0 then 0 else x) |>.wrEmax (if n = 0 then 0 else e n)
        |>.wr Reg.GAL0.BND_STAT_NVERT (used.foldl (fun a q => a + q.2.length) 0)
        |> fun b => { b with gal := { b.gal with
            bndNew := { polys := used, xcount := if n = 0 then 0 else x, emax := if n = 0 then 0 else e n } } }
        |>.cond (n != v) (·.clamped 0x10 (if budget then 5 else if legal.all (· < v) then 1 else 3) 0x3A8 0 v n)
        |>.bumpGen 0x10 |>.showPred
        |>.cond (v != 0 && (res != 1 || budget)) (·.verdict (Verdict.se 6) 0x10)

/-! The input latch (R37, R188, R195, R196, R207). -/

def recVal (r : List Byte) (o n : Nat) : Nat := leValue ((r.drop o).take n)
def recInt (r : List Byte) (o n : Nat) : Int := leSigned ((r.drop o).take n)

/-- The pose of a record (Table GAL-2). -/
def poseOf (b : Block) (r : List Byte) : Pose :=
  let lat0 := b.cfI Reg.GAL0.REF_LAT_LAT
  let flags := recVal r 4 2
  let east := arcLen (recInt r 28 4 - b.cfI Reg.GAL0.REF_LON_LON) (nRad lat0)
  { t := (recVal r 8 8 / 65536 : Nat) * 128
    e := mulQ40 east (cosTurn (unsignedOf 32 (roundDiv (lat0 * 2 ^ 32) 3600000000)))
    n := arcLen (recInt r 24 4 - lat0) (mRad lat0)
    v := recVal r 52 2, chi := centiTurn (recVal r 54 2), th := centiTurn (recVal r 56 2), w := recInt r 58 2
    dxb := if flags.testBit 2 then recInt r 74 2 else 0 }

/-- The record latched at drip 9, from pool 3 of its epoch (R40, R196, R207, R243). -/
def takeRecord (b : Block) : Block :=
  let r := b.gnss.posted
  if r.isEmpty || b.gal.lastSeq == some b.gnss.postedSeq || b.pool < 3 then b
  else
    let b := { b with gal := { b.gal with lastSeq := some b.gnss.postedSeq } }
    let ok := !(recVal r 4 2).testBit 0 && b.cf Reg.GAL0.GRID_FIXMIN ≤ recVal r 3 1 && (recVal r 4 2).testBit 1
    if !ok then b.wr Reg.GAL0.STATUS_VALID 0
    else
      let ep := b.rd Reg.TICK.POS_EPOCH
      let run := b.gal.lastEpoch.any fun l => (l + 1) % 2 ^ Reg.TICK.POS_EPOCH.width = ep
      let n := if run then min 3 (b.rd Reg.GAL0.STATUS_VALID + 1) else 1
      let p := b.poseOf r
      { b with gal := { b.gal with lastEpoch := some ep, fresh := true, pose := some p, holdAt := none } }
        |>.wr Reg.GAL0.STATUS_VALID n |>.wr Reg.GAL0.STATUS_HOLD 0
        |>.cond (n = 3 && !b.is Reg.GAL0.STATUS_LA) (fun b =>
          { b with gal := { b.gal with frozen := false } } |>.wr Reg.GAL0.STATUS_LA 1 |>.wr Reg.GAL0.STATUS_HOLD_EXP 0)

/-- A pulse input as latched at drip 9 (R214): count, period, last edge. -/
def pulseOf (b : Block) (n : Nat) : Nat × Nat × Option Nat := b.gal.pulse.getD n (0, 0xFFFFFF, none)

/-- The axle speed from wheel pulses, mm/s (R207); none without a source, as when the WHEEL input is LASTING (Table ERR-1)
(assumption 79, DEDUCED). -/
def axleSpeed (b : Block) : Option Int :=
  let um : Int := b.cf Reg.GAL0.WHEEL_UM
  let src := b.cf Reg.GAL0.HOLD_WSRC
  if src = 1 then
    if b.isLasting ⟨0x2F, 0, 0⟩ then none
    else
      let (_, period, last) := b.pulseOf 0
      let age := match last with
        | some c => (b.ft / 65536 * 16368 + b.ft % 65536 - c) * 100 / 16368
        | none => 0xFFFFFF
      let p := max period age
      some (if 0xFFFFFF ≤ p then 0 else roundDiv (um * 1000) (max 1 p))
  else if src = 2 then
    match b.gal.wheel with
    | (c1, t1) :: (c0, t0) :: _ =>
      let us := ftMicros t1 - ftMicros t0
      some (if us = 0 then 0 else roundDiv (um * 1000 * (((c1 + 65536 - c0) % 65536 : Nat) : Int)) us)
    | _ => some 0
  else none

/-- The pose carried to now, with its velocity from the wheel (R207). -/
def rebase (b : Block) : Block :=
  match b.gal.pose, b.axleSpeed with
  | some p, some vax =>
    let now : Int := (b.ftDrips : Int) * 128
    let q := poseAt p now
    let xa := b.cal.ant.getD 5 0
    let ya := b.cal.ant.getD 6 0
    let rot (d : Int) : Int := roundDiv (p.w * d * piE12) (18000 * 10 ^ 12)
    let vf := vax - rot ya
    let vl := rot xa
    let p' : Pose := { p with
      t := now, e := q.1.1, n := q.1.2, th := q.2
      v := isqrt (vf * vf + vl * vl).toNat
      chi := unsignedOf 32 ((q.2 : Int) - (atanTurn vf vl : Int)) }
    { b with gal := { b.gal with pose := some p' } }
  | _, _ => b

/-- A hold begins (R207), judged at the latch of pool 3, where look-ahead runs (assumption 78, DEDUCED; assumption 79,
DEDUCED). A FREEZE that has lost its wheel source acts as CLOSE (R208). -/
def holdStep (b : Block) : Block :=
  let b := if b.pool = 3 then
      let miss := !b.gal.fresh
      let b := b.cond (miss && b.is Reg.GAL0.STATUS_LA && !b.is Reg.GAL0.STATUS_HOLD) fun b =>
        { b with gal := { b.gal with holdAt := some b.ftDrips } } |>.wr Reg.GAL0.STATUS_HOLD 1 |>.irq 0x10 1
      { b with gal := { b.gal with fresh := false } } |>.cond miss (·.wr Reg.GAL0.STATUS_VALID 0)
    else b
  let b := b.cond (b.gal.frozen && b.axleSpeed.isNone) fun b => { b with gal := { b.gal with frozen := false } }
  b.cond (b.is Reg.GAL0.STATUS_HOLD || b.gal.frozen) rebase

/-- The speed gate (R195): speeds in mm/s against fields of 0.01 m/s. -/
def gateStep (b : Block) : Block :=
  let v := match b.gal.pose with | some p => p.v | none => 0
  let lo : Int := b.cf Reg.GAL0.SPEED_VMIN
  let hi : Int := max (lo + 20) (b.cf Reg.GAL0.SPEED_VMAX)
  if v < 10 * lo ∨ 10 * hi < v then b.wr Reg.GAL0.STATUS_GATE 0
  else if 10 * lo + 50 ≤ v ∧ v ≤ 10 * hi - 50 then b.wr Reg.GAL0.STATUS_GATE 1
  else b

/-- A section's output as one number. -/
def outKey (b : Block) (s : Nat) : Nat := b.cf (ofSec Reg.GAL.SMAP_NODE s) * 16 + b.cf (ofSec Reg.GAL.SMAP_OUT s)

/-- The node-table word of an address as last latched (Table LIP-10). -/
def nodeWord (b : Block) (addr : Nat) : Nat := b.lip.nodes.getD (addr - 0x10) 0

/-- The node table latched at drips 9 and 90. -/
def latchNodes (b : Block) : Block :=
  let word (i : Nat) : Nat := b.rd (Reg.CAN.NODE_ASSIGNED i) + 2 * b.rd (Reg.CAN.NODE_BOOM i) + 4 * b.rd (Reg.CAN.NODE_READY i)
    + 2 ^ 8 * b.rd (Reg.CAN.NODE_SEQ i) + 2 ^ 16 * b.rd (Reg.CAN.NODE_SVC_MAP i)
  b.cond (b.drip = 9 || b.drip = 90) fun b => { b with lip := { b.lip with nodes := (List.range 64).map word } }

/-- The node is assigned as a boom node and ready (R23, R188). -/
def nodeReady (b : Block) (addr : Nat) : Bool := 0x10 ≤ addr && addr < 0x50 && b.nodeWord addr % 8 = 7

/-- Values that a list holds more than once: outputs or pulse inputs of two sections (SE04, SE05) (assumption 82, DEDUCED). -/
def sharedKeys (l : List Nat) : List Nat := l.eraseDups.filter fun k => 1 < l.count k

/-- Availability (R188, R215, R218). A section that becomes unavailable is planned closed, which its class sees as a switch
of this pool (R204), and no longer painted; once the closing commands of a leaving sequence are latched, painting goes on to
their effect (R75, R86). -/
def availability (b : Block) : Block :=
  let en := (List.range 256).filter fun s => b.cf (ofSec Reg.GAL.SMAP_EN s) = 1
  let dup := sharedKeys (en.map b.outKey)
  let b := b.each (dup.filter fun k => !b.gal.dups.contains k) fun k b =>
    b |>.err 0x10 1 |>.verdict (Verdict.se 4) 0x10 (arg0 := k / 16) (arg1 := k % 16)
  let av := en.filter fun s => b.nodeReady (b.cf (ofSec Reg.GAL.SMAP_NODE s)) && !dup.contains (b.outKey s)
  let gone := (List.range 256).filter fun s => !av.contains s
  let last := b.md.leaving.any fun l => 2 ≤ l.stage
  let b := { b with gal := { b.gal with
      dups := dup, shut := gone.filter (b.secBit Reg.GAL.PLAN_MAP)
      events := b.gal.events.filter fun (e : Nat × Bool × Nat) => last || av.contains e.1
      wasOpen := b.gal.wasOpen.filter fun s => last || av.contains s } }
  let b := b.each (List.range 256) fun s => setSecBit Reg.GAL.AVAIL_MAP s (av.contains s)
  b.each (gone.filter fun s => b.secBit Reg.GAL.EFF_MAP s || b.secBit Reg.GAL.PLAN_MAP s) fun s b =>
    b |>.cond (!last) (setSecBit Reg.GAL.EFF_MAP s false) |>.setSecBit Reg.GAL.PLAN_MAP s false

/-- Counts, periods and last edges of the pulse inputs and the reports of the nodes, latched at drip 9 (R214, R383)
(assumption 80, DEDUCED). -/
def latchFlow (b : Block) : Block :=
  let pulse := (List.range 4).map fun n =>
    (b.rd (Reg.CAP.COUNT_COUNT n), b.rd (Reg.CAP.PERIOD_US n), b.cap.last.getD n none)
  let kinds (k : Nat) : List Nat := (b.lip.partners.filter fun p => p.kind = k && p.confirmed).map (·.addr)
  let low (l : List Nat) : Nat := l.foldl min 0xFF
  let rep (k : Nat) : Option (Nat × Nat × Nat) := b.lip.pulse.find? fun r => r.1 = low (kinds k) * 4
  let push (l : List Nat) (v : Nat) : List Nat := (v :: l).take 51
  let f (i : Nat) : List Nat := b.gal.flow.getD i []
  -- a node's first report counts no pulse
  let node := match rep 1 with | some r => push (f 2) r.2.1 | none => []
  let wheel := match rep 3 with
    | some r => if b.gal.wheel.head? == some r.2 then b.gal.wheel else (r.2 :: b.gal.wheel).take 2
    | none => []
  { b with gal := { b.gal with
      pulse, wheel
      flow := [push (f 0) (b.rd (Reg.CAP.COUNT_COUNT 1)), push (f 1) (b.rd (Reg.CAP.COUNT_COUNT 2)), node] } }

/-- The drip-9 latch (R37, R51) (assumption 78, DEDUCED; assumption 80, DEDUCED). -/
def inputLatch (b : Block) : Block :=
  if !b.galRuns || b.drip != 9 || b.gal.latched || !b.powered then b
  else
    let conf : RegFile := b.regs.filter fun e => 0x10 * 0x400 * 32 ≤ e.1 && e.1 < 0x14 * 0x400 * 32
    { b with gal := { b.gal with conf, bnd := b.gal.bndNew, latched := true } }
      |>.latchFlow |>.takeRecord |>.holdStep |>.gateStep |>.availability |>.irq 0x10 0

/-! Hold expiry (R208, R221). -/

/-- Observations abandoned (R204). -/
def dropObs (p : Obs → Bool) (b : Block) : Block :=
  { b with gal := { b.gal with obs := b.gal.obs.filter fun (o : Obs) => !p o } }

/-- The hold's end (R208); in the leaving sequence it changes nothing (R221). -/
def holdExpiry (b : Block) : Block :=
  match b.gal.holdAt with
  | none => b
  | some t0 =>
    if b.ftDrips < t0 + b.cf Reg.GAL0.HOLD_T * 1000 || b.md.leaving.isSome then b
    else
      let freeze := b.cf Reg.GAL0.HOLD_POLICY = 1 && b.axleSpeed.isSome
      let recent := b.ftDrips :: b.gal.expiries.filter fun t => b.ftDrips ≤ t + 6000000
      -- CLOSE: a section under a probe wants closed like every other, and late
      let b := b.cond (!freeze) fun b => { b with gal := { b.gal with probes := [] } } |>.wr Reg.GAL0.STATUS_PROBE 0
      { b with gal := { b.gal with
          holdAt := none, frozen := freeze, expiries := if 3 ≤ recent.length then [] else recent } }
        |>.wr Reg.GAL0.STATUS_HOLD 0 |>.wr Reg.GAL0.STATUS_HOLD_EXP 1 |>.wr Reg.GAL0.STATUS_LA 0
        |>.wr Reg.GAL0.STATUS_VALID 0 |>.irq 0x10 2
        |>.cond (3 ≤ recent.length) (·.verdict (Verdict.se 7) 0x10)

/-! Evaluation (R199, R201, R206, R208). -/

/-- The delay that applies to the next change of a section, in drips, as latched (R205). -/
def delayOf (b : Block) (s : Nat) (opening : Bool) : Nat :=
  10 * b.cf (if opening then ofSec Reg.GAL.SDLY_ON s else ofSec Reg.GAL.SDLY_OFF s)

/-- Field-time drip of drip 0 of the window decided in this pool (R38). -/
def windowDrip (b : Block) : Nat := b.ftDrips + 200 - b.drip

/-- The instant of the first change within [lo, hi], bisected (R199). -/
def bisect (w : Int → Bool) (planned : Bool) : Nat → Int → Int → Int
  | 0, lo, hi => (lo + hi).fdiv 2
  | n + 1, lo, hi =>
    let m := (lo + hi).fdiv 2
    if w m = planned then bisect w planned n m hi else bisect w planned n lo m

/-- The instants that the bisection looks at. -/
def midpoints (w : Int → Bool) (planned : Bool) : Nat → Int → Int → List Int
  | 0, _, _ => []
  | n + 1, lo, hi =>
    let m := (lo + hi).fdiv 2
    m :: (if w m = planned then midpoints w planned n m hi else midpoints w planned n lo m)

/-- A section's transition in the window: its due drip and whether it is late (R199). -/
def decideSec (b : Block) (s : Nat) : Option (Nat × Bool) :=
  let planned := b.secBit Reg.GAL.PLAN_MAP s
  let ta : Int := ((b.windowDrip + b.delayOf s (!planned) : Nat) : Int) * 128
  let w := fun t => b.wants s planned t
  if w ta ≠ planned then some (0, true)
  else if w (ta + 12800) ≠ planned then
    let x := bisect w planned (b.cf Reg.GAL0.EVAL_BISECT) ta (ta + 12800) - ta
    some ((((x + 63).fdiv 128).toNat), false)
  else none

/-- The reads of the coverage port in a section's evaluation (R199). -/
def sampleReads (s : Nat) (b : Block) : Block :=
  if b.gal.frozen || !(b.is Reg.GAL0.STATUS_LA || b.is Reg.GAL0.STATUS_HOLD) || !b.is Reg.GAL0.STATUS_GATE then b
  else
    let planned := b.secBit Reg.GAL.PLAN_MAP s
    let ta : Int := ((b.windowDrip + b.delayOf s (!planned) : Nat) : Int) * 128
    let w := fun t => b.wants s planned t
    let instants := if w ta ≠ planned then [ta]
      else if w (ta + 12800) = planned then [ta, ta + 12800]
      else [ta, ta + 12800] ++ midpoints w planned (b.cf Reg.GAL0.EVAL_BISECT) ta (ta + 12800)
    b.each (instants.flatMap (b.readsAt s)) coverRead

/-- The instants of a probe, every pool from its opening's effect to its close's (R206). -/
def probeInstants (b : Block) (s : Nat) : List Int :=
  let t0 : Int := ((b.windowDrip + b.delayOf s true : Nat) : Int) * 128
  let span := b.cf Reg.GAL0.PROBE_LEN * 100 + b.delayOf s false
  (List.range (span / 100 + 2)).map fun (k : Nat) => t0 + (k : Int) * 12800

/-- A probe stays inside the plot on covered cells over its whole course (R206). -/
def probeClear (b : Block) (s : Nat) : Bool :=
  (b.probeInstants s).all fun t =>
    (b.pointsAt s t).all fun p =>
      match b.cellOf p with
      | some (c, r) => inPlot b.gal.bnd p && b.isCovered c r
      | none => false

/-- The class of a section. -/
def classOf (b : Block) (s : Nat) : Nat := b.cf (ofSec Reg.GAL.SMAP_CLASS s)

def learning (b : Block) : Bool := b.cf Reg.GAL0.LEARN_EN = 1 && b.ladder < 3

/-- No other available section of the class is predicted to switch until the probe's windows end, looked at every pool (R206)
(assumption 80, DEDUCED). -/
def classQuiet (b : Block) (s : Nat) : Bool :=
  let n := b.cf Reg.GAL0.PROBE_LEN + 251
  (List.range 256).all fun x =>
    x = s || b.classOf x != b.classOf s || !b.secBit Reg.GAL.AVAIL_MAP x ||
      (let planned := b.secBit Reg.GAL.PLAN_MAP x
       let t0 : Int := ((b.windowDrip + b.delayOf x (!planned) : Nat) : Int) * 128
       (List.range n).all fun (k : Nat) => b.wants x planned (t0 + (k : Int) * 12800) = planned)

/-- A section may be probed (R206). -/
def mayProbe (b : Block) (s : Nat) : Bool :=
  let c := b.classOf s
  let age := b.cf Reg.GAL0.PROBE_AGE * 600000
  let recent (k : Nat) : Bool := b.gal.accepted.any fun a => a.1 = k && b.ftDrips < a.2 + age
  b.cf (ofSec Reg.GAL.SMAP_PROBE_OK s) = 1 && b.ladder < 3
    && !recent (2 * s) && !recent (2 * s + 1)
    && !(b.gal.obs.any (·.cls == c)) && !(b.gal.probes.any fun p => b.classOf p.1 = c)
    && (b.gal.probeTimes.filter fun t => b.ftDrips < t + 36000000).length < b.cf Reg.GAL0.PROBE_MAXH
    && b.is Reg.GAL0.STATUS_LA && !b.is Reg.GAL0.STATUS_HOLD && b.is Reg.GAL0.STATUS_GATE
    && !b.secBit Reg.GAL.PLAN_MAP s
    && !(b.gal.switched.any fun x => x.1 = c && b.now + 200 - b.drip < x.2.2 + 5000)
    && b.probeClear s && b.classQuiet s

/-- What a section under a probe does in this window (R206): its close, advanced when a point of the rest of the probe, from
its opening's effect on, is predicted to leave the plot, or dropped when the section wants open (assumption 80, DEDUCED). -/
def probeStep (s open_ close : Nat) (b : Block) : Block :=
  let w0 := b.now + 200 - b.drip
  let t0 : Int := ((b.windowDrip + b.delayOf s false : Nat) : Int) * 128
  let first := max w0 (open_ + b.delayOf s true)
  let rest := (close + b.delayOf s false - first) / 100 + 2
  let out := (List.range rest).any fun (k : Nat) =>
    (b.pointsAt s (((b.windowDrip + first - w0 : Nat) : Int) * 128 + (k : Int) * 12800)).any fun p =>
      !(inPlot b.gal.bnd p && (b.cellOf p).isSome)
  let drop (b : Block) : Block :=
    { b with gal := { b.gal with probes := b.gal.probes.filter fun (p : Nat × Nat × Nat) => p.1 != s } }
  let plain (o : Obs) : Obs := if o.sec = s then { o with probe := false } else o
  if b.wants s true t0 then { drop b with gal := { (drop b).gal with obs := b.gal.obs.map plain } }
  else if close ≤ w0 ∨ out then
    { drop b with gal := { (drop b).gal with decided := b.gal.decided ++ [(s, 0, false)] } }
  else b

/-- The first evaluated section that may be probed is opened at drip 0 of the window. -/
def probeStart (run : List Nat) (b : Block) : Block :=
  if b.cf Reg.GAL0.LEARN_PROBE = 0 then b
  else
    match run.find? fun s =>
        !(b.gal.decided.any fun (d : Nat × Nat × Bool) => b.classOf d.1 = b.classOf s) && b.mayProbe s with
    | none => b
    | some s =>
      let w0 := b.now + 200 - b.drip
      { b with gal := { b.gal with
          probes := b.gal.probes ++ [(s, w0, w0 + b.cf Reg.GAL0.PROBE_LEN * 100)]
          probeTimes := b.ftDrips :: b.gal.probeTimes.filter fun t => b.ftDrips < t + 36000000
          decided := b.gal.decided ++ [(s, 0, false)] } }
        |>.each ((b.probeInstants s).flatMap (b.readsAt s)) coverRead

/-- Degrade is in force for the gallery (R44). -/
def galDegraded (b : Block) : Bool := b.is (Reg.HDR.TICK_DEGRADE 1)

/-- The evaluation (R199, R44, R50): `missed` lists the sections that the window's end, drip 89, left unevaluated, which is
an overrun (R41, R43) (assumption 77, DEDUCED). Whether every sample point lies off the grid is judged at drip 0 of P+2
(R217) (assumption 153, DESIGN CHOICE). -/
def evaluateSections (cycles : Nat) (missed : List Nat) (b : Block) : Block :=
  if b.mode != .field || b.md.leaving.isSome || !b.gal.latched || b.gal.evaluated || b.drip < 10 || 89 < b.drip
      || !b.is Reg.GAL0.MAPSTAT_RESTORED then b
  else
    let todo := (List.range 256).filter fun s => b.secBit Reg.GAL.AVAIL_MAP s && (!b.galDegraded || s % 2 = b.pool % 2)
    let stopped := b.drip = 89 && todo.any missed.contains
    let run := todo.filter fun s => !stopped || !missed.contains s
    let probed := b.gal.probes.map (·.1)
    let off := run.filter fun s => b.gal.pose.isSome && (b.pointsAt s ((b.windowDrip : Int) * 128)).all fun p => (b.cellOf p).isNone
    let dec := run.filterMap fun s =>
      if probed.contains s then none else (b.decideSec s).map fun d => (s, d.1, d.2)
    let b := { b.each run sampleReads with gal := { b.gal with evaluated := true, decided := dec } }
      |>.wr Reg.TICK.GAL_PEAK_PEAK (max (b.rd Reg.TICK.GAL_PEAK_PEAK) cycles)
      |>.wrB Reg.GAL0.STATUS_GRID_OUT (!off.isEmpty) |>.cond (!off.isEmpty) (·.err 0x10 2)
      |>.each (b.gal.probes.filter fun (p : Nat × Nat × Nat) => run.contains p.1)
        (fun (p : Nat × Nat × Nat) => probeStep p.1 p.2.1 p.2.2) |>.probeStart run
    let late := (dec.filter fun (d : Nat × Nat × Bool) => d.2.2).length
    let b := b |>.add Reg.GAL0.LATE_COUNT late |>.cond (late != 0) (·.irq 0x10 5)
    b |>.wrB Reg.GAL0.STATUS_PROBE (!b.gal.probes.isEmpty) |>.cond stopped (overrun .gal)

/-! The command latch (R200, R203, R204). -/

/-- The effective switches to come with one more of section `s` (R203): one that takes effect no later than the switch before
it leaves nothing of the interval between them, so that both fall. -/
def addSwitch (s : Nat) (opening : Bool) (at_ : Nat) (l : List (Nat × Bool × Nat)) : List (Nat × Bool × Nat) :=
  match (l.filter fun e => e.1 = s).getLast? with
  | some e => if e.2.1 != opening && at_ ≤ e.2.2 then l.filter (· != e) else l ++ [(s, opening, at_)]
  | none => l ++ [(s, opening, at_)]

/-- A switch of section `s` at drip `sw`, as its class sees it (R204): the observations that it abandons, another section's
and, with `abandon`, any. -/
def classSwitch (s sw : Nat) (abandon : Bool) (b : Block) : Block :=
  let c := b.classOf s
  { b with gal := { b.gal with
      obs := b.gal.obs.filter fun (o : Obs) =>
        !(o.cls = c && (o.sec != s || abandon) && o.sw ≤ sw + 5000 && sw ≤ o.sw + 25000)
      switched := (c, s, sw) :: b.gal.switched.filter fun (x : Nat × Nat × Nat) => b.now ≤ x.2.2 + 30000 } }

/-- One transition commanded: the plan, the effective switch, the late count of SE08, and the observations of its class
that it abandons: another section's (R204), and, for a late transition, a hold expiry or the leaving sequence, any (R219). -/
def commit (s : Nat) (opening late abandon : Bool) (sw : Nat) (b : Block) : Block :=
  let n := b.gal.trans + 1
  let lates := (if late then [n] else []) ++ b.gal.lates.filter fun x => n < x + 1000
  let b := { b with gal := { b.gal with
      events := addSwitch s opening (sw + b.delayOf s opening) b.gal.events
      trans := n, lates := if 50 < lates.length then [] else lates } }
  b |>.classSwitch s sw abandon |>.setSecBit Reg.GAL.PLAN_MAP s opening
    |>.cond (50 < lates.length) (·.verdict (Verdict.se 8) 0x10)

/-- An observation starts (R204): the class's unit is idle, but for a probe's opening before its own close. -/
def observe (s : Nat) (opening : Bool) (sw : Nat) (b : Block) : Block :=
  let c := b.classOf s
  let other := b.gal.switched.any fun x => x.1 = c && x.2.1 != s && sw ≤ x.2.2 + 5000
  let idle := !(b.gal.obs.any fun o => o.cls = c && !(o.probe && o.sec = s && o.opening && !opening))
  if b.learning && !other && idle then
    let probe := b.gal.probes.any fun p => p.1 = s
    { b with gal := { b.gal with obs := b.gal.obs ++ [{ cls := c, sec := s, opening, sw, probe }] } }
  else b

/-- Sections commanded closed when FIELD is left (Table MODE-5, R75). -/
def allClosed (b : Block) : List (Nat × Nat × Bool) :=
  ((List.range 256).filter fun s => b.secBit Reg.GAL.PLAN_MAP s).map fun s => (s, 0, true)

/-- The drip-90 latch (R200). -/
def commandLatch (b : Block) : Block :=
  if !b.galRuns || b.drip != 90 || !b.powered then b
  else
    let closing := b.md.leaving.isSome || b.safeActing
    let b := if closing then { b with gal := { b.gal with decided := b.allClosed, probes := [] } } else b
    let dec := b.gal.decided.filter fun d => closing || b.secBit Reg.GAL.AVAIL_MAP d.1
    let nodeOf (s : Nat) : Nat := b.cf (ofSec Reg.GAL.SMAP_NODE s)
    let nodes := ((List.range 64).map (· + 0x10)).filter b.nodeReady
    let dripOf (a : Nat) : Nat :=
      match dec.filter fun d => nodeOf d.1 = a with
      | [] => 0
      | d :: ds =>
        if (d :: ds).any (·.2.2) then 0
        else ((ds.map (·.2.1)).foldl min d.2.1 + (ds.map (·.2.1)).foldl max d.2.1) / 2
    let w0 := b.now + 200 - b.drip
    let fresh := dec.map fun d => (d.1, !b.secBit Reg.GAL.PLAN_MAP d.1)
    let shut := b.gal.shut
    let b := b.each shut fun s => classSwitch s (w0 + dripOf (nodeOf s)) false
    let b := b.each dec fun d b => b.commit d.1 (!b.secBit Reg.GAL.PLAN_MAP d.1) (d.2.2 && !closing) d.2.2
      (w0 + dripOf (nodeOf d.1))
    let alone := fresh.filter fun x => ((fresh.map (·.1) ++ shut).filter fun y => b.classOf y = b.classOf x.1).length = 1
    let b := b.cond (!closing) fun b => b.each alone fun x => observe x.1 x.2 (w0 + dripOf (nodeOf x.1))
    let secs := (List.range 256).filter fun s => b.secBit Reg.GAL.AVAIL_MAP s && b.secBit Reg.GAL.PLAN_MAP s
    let mapOf (a : Nat) : Nat := (secs.filter fun s => nodeOf s = a).foldl (fun m s => m ||| 2 ^ b.cf (ofSec Reg.GAL.SMAP_OUT s)) 0
    let cmds := nodes.map fun a => (a, b.windowDrip + dripOf a, mapOf a)
    let leaving := b.md.leaving.map fun (l : Leave) =>
      if l.stage = 1 then { l with stage := 2, closeAt := b.tick.pools + 2 } else l
    { b with gal := { b.gal with cmds, decided := [], shut := [] }, md := { b.md with leaving } }

/-! Effective state and painting (R203). -/

/-- The switches that take effect by this drip. -/
def switchStep (b : Block) : Block :=
  let due := b.gal.events.filter fun e => e.2.2 ≤ b.now
  if due.isEmpty then b
  else
    let b := { b with gal := { b.gal with events := b.gal.events.filter fun (e : Nat × Bool × Nat) => b.now < e.2.2 } }
    b.each due fun e b =>
      { b with gal := { b.gal with wasOpen := if e.2.1 && !b.gal.wasOpen.contains e.1 then e.1 :: b.gal.wasOpen else b.gal.wasOpen } }
        |>.setSecBit Reg.GAL.EFF_MAP e.1 e.2.1

def showDirty (b : Block) : Block := b.wr Reg.GAL0.MAPSTAT_DIRTY b.gal.dirty.length

/-- A cell marked covered through the coverage port; its tile becomes dirty when the cell was not. -/
def coverCell (col row : Int) (b : Block) : Block :=
  if 0 ≤ col ∧ col < 2048 ∧ 0 ≤ row ∧ row < 2048 then
    let c := col.toNat
    let r := row.toNat
    let a := cellByte c r
    let t := tileOf c r
    let old := b.coverVal a
    let b := b.coverRead a
    if old.testBit (c % 8) then b
    else match b.store 1 a [BitVec.ofNat 8 (old ||| 2 ^ (c % 8))] with
      | (b, ok) =>
        if !ok || b.gal.dirty.contains t then b else { b with gal := { b.gal with dirty := b.gal.dirty ++ [t] } }
  else b

/-- The cells on the straight path between two points: those of its ends and those on both sides of each grid line that
it crosses. -/
def pathCells (b : Block) (p q : Int × Int) : List (Int × Int) :=
  let c : Int := b.cellMm * mm
  let oe := b.cfI Reg.GAL0.ORIG_E_E * mm
  let on := b.cfI Reg.GAL0.ORIG_N_N * mm
  let x0 := p.1 - oe
  let y0 := p.2 - on
  let x1 := q.1 - oe
  let y1 := q.2 - on
  let col (x : Int) : Int := x.fdiv c
  let lines (u v : Int) : List Int :=
    let a := min (col u) (col v)
    let n := (max (col u) (col v) - a).toNat
    (List.range n).map fun (k : Nat) => a + (k : Int) + 1
  let cols := (lines x0 x1).flatMap fun k =>
    let y := y0 + roundDiv ((y1 - y0) * (k * c - x0) * (if x1 < x0 then -1 else 1)) (max 1 (x1 - x0).natAbs)
    [(k - 1, col y), (k, col y)]
  let rows := (lines y0 y1).flatMap fun k =>
    let x := x0 + roundDiv ((x1 - x0) * (k * c - y0) * (if y1 < y0 then -1 else 1)) (max 1 (y1 - y0).natAbs)
    [(col x, k - 1), (col x, k)]
  [(col x0, col y0), (col x1, col y1)] ++ cols ++ rows

/-- The previous pool painted (R203). -/
def paintOpen (b : Block) : Block :=
  if b.gal.wasOpen.isEmpty || b.gal.frozen || !b.galRuns then b
  else
    let t1 : Int := (b.ftDrips : Int) * 128
    let paint (s : Nat) (b : Block) : Block :=
      b.each ((b.pointsAt s (t1 - 12800)).zip (b.pointsAt s t1)) fun pq b =>
        b.each (b.pathCells pq.1 pq.2) fun cr => coverCell cr.1 cr.2
    b |>.each b.gal.wasOpen paint |>.showDirty

/-- The pool edge's part: the pool before it is painted, then its switches take effect, and the new pool begins with the
sections that are open. -/
def paintPool (b : Block) : Block :=
  let b := b |>.paintOpen |>.switchStep
  { b with gal := { b.gal with wasOpen := (List.range 256).filter fun s => b.secBit Reg.GAL.EFF_MAP s } }

/-- The gallery stops (R75): nothing is planned or painted any more. -/
def galStop (b : Block) : Block :=
  { b with gal := { b.gal with
      events := [], wasOpen := [], decided := [], shut := [], cmds := [], obs := [], probes := [], latched := false, evaluated := false
      lastSeq := none, lastEpoch := none, fresh := false, pose := none, holdAt := none, frozen := false } }
    |>.each (List.range 8) (fun i b => b |>.wr (Reg.GAL.PLAN_MAP (i / 2) (i % 2)) 0 |>.wr (Reg.GAL.EFF_MAP (i / 2) (i % 2)) 0)
    |>.wr Reg.GAL0.STATUS_VALID 0 |>.wr Reg.GAL0.STATUS_LA 0 |>.wr Reg.GAL0.STATUS_HOLD 0 |>.wr Reg.GAL0.STATUS_GATE 0
    |>.wr Reg.GAL0.STATUS_HOLD_EXP 0 |>.wr Reg.GAL0.STATUS_PROBE 0 |>.wr Reg.GAL0.STATUS_GRID_OUT 0

/-! Observations (R204, R205). -/

/-- Pressure in 0.1 kPa at a code, by the points of CAL section 4: linear between points, the end values outside. -/
def pressureAt (pts : List (Nat × Nat)) (code : Int) : Int :=
  match pts with
  | [] => 0
  | (c0, p0) :: t =>
    if code ≤ c0 then p0
    else
      (t.foldl (fun (acc : (Nat × Nat) × Option Int) q =>
        match acc.2 with
        | some _ => acc
        | none =>
          if code ≤ q.1 then
            (q, some (acc.1.2 + roundDiv (((q.2 : Int) - acc.1.2) * (code - acc.1.1)) (max 1 (q.1 - acc.1.1))))
          else (q, none)) ((c0, p0), none)) |> fun r => r.2.getD r.1.2

/-- The class's pressure source, 0 or 1; its flow source, 0 to 2. -/
def pressSrc (b : Block) (c : Nat) : Option Nat :=
  let s := b.cf (Reg.GAL0.CLASS_PSRC c)
  if s = 0 then none else some (s - 1)

def flowSrc (b : Block) (c : Nat) : Option Nat :=
  let s := b.cf (Reg.GAL0.CLASS_FSRC c)
  if s = 0 ∨ (s < 3 ∧ b.isLasting ⟨0x2F, s, 0⟩) then none else some (s - 1)

/-- Pulses in the last 50 pools of a flow source; a node's count has 16 bits. -/
def flowCount (b : Block) (i : Nat) : Nat :=
  let l := b.gal.flow.getD i []
  let m := if i = 2 then 2 ^ 16 else 2 ^ 32
  (l.headD 0 + m - l.getLastD 0 % m) % m

def sumInt (l : List Int) : Int := l.foldl (· + ·) 0

/-- The pressure samples of the drip that has ended enter every observation (R204): the mean of the 50 drips before the switch
drip, the first drip after it at which the 8-drip mean has moved, and the mean of the last 50 drips of the window
(assumption 80, DEDUCED). -/
def observeSamples (b : Block) : Block :=
  if b.gal.obs.isEmpty && !b.galRuns then b
  else
    let upd := (List.range 2).map fun i =>
      let v := pressureAt (b.cal.press.getD i []) (signedOf 16 (b.rd (Reg.ADC.RESN_CORR (8 + i))))
      (v :: b.gal.press.getD i []).take 50
    let step (o : Obs) : Obs :=
      match b.pressSrc o.cls with
      | none => o
      | some i =>
        let cur := upd.getD i []
        let flow := match b.flowSrc o.cls with | some f => b.flowCount f | none => 0
        if b.now = o.sw then { o with p0 := some (sumInt cur), flow0 := flow }
        else
          let o := if b.now = o.sw + 25000 then { o with tail := some (sumInt cur), flow1 := flow } else o
          match o.p0, o.resp with
          | some s50, none =>
            let d := (8 * s50 - 50 * sumInt (cur.take 8)) * (if o.opening then 1 else -1)
            if o.sw + 2 ≤ b.now ∧ b.now ≤ o.sw + 25000 ∧ ((b.cf (Reg.GAL0.CLASS_MIN_DP o.cls) * 200 : Nat) : Int) ≤ d then
              { o with resp := some (b.now - 1) }
            else o
          | _, _ => o
    { b with gal := { b.gal with press := upd, obs := b.gal.obs.map step } }

/-- The observation is accepted (R204, step 4): its delay in 0.1 ms. -/
def obsTau (b : Block) (o : Obs) : Option Int :=
  match o.p0, o.resp, o.tail with
  | some s50, some r, some tail =>
    let tau : Int := (r : Int) - o.sw - 10 * b.cf (Reg.GAL0.CLASS_LAG o.cls)
    let d := (s50 - tail) * (if o.opening then 1 else -1)
    let flow := match b.flowSrc o.cls with
      | none => true
      | some _ =>
        if o.opening then 100 * o.flow0 ≤ 95 * o.flow1 && o.flow1 != 0
        else 105 * o.flow1 ≤ 100 * o.flow0 && o.flow0 != 0
    let cur := 10 * b.rd (if o.opening then ofSec Reg.GAL.SDLY_ON o.sec else ofSec Reg.GAL.SDLY_OFF o.sec)
    let learned := b.is (if o.opening then ofSec Reg.GAL.SDLY_ON_L o.sec else ofSec Reg.GAL.SDLY_OFF_L o.sec)
    let near := !learned || (decide ((cur : Int) ≤ 2 * tau) && decide (tau ≤ 2 * (cur : Int)))
    if 200 ≤ tau ∧ tau ≤ 20000 ∧ ((b.cf (Reg.GAL0.CLASS_MIN_DP o.cls) * 50 : Nat) : Int) ≤ d ∧ flow = true ∧ near = true then
      some tau
    else none
  | _, _, _ => none

/-- The window of the class's observation ends (R204, R205, SE01, SE02) (assumption 82, DEDUCED); one of a class without a
pressure source has no pressure to accept (assumption 154, DESIGN CHOICE). -/
def obsEnd (c : Nat) (b : Block) : Block :=
  match b.gal.obs.find? fun o => o.cls = c && o.sw + 25000 ≤ b.now with
  | none => b
  | some o =>
    let b := { b with gal := { b.gal with obs := b.gal.obs.erase o } }
    match b.obsTau o with
    | none =>
      let n := Store.find (fun _ => 0) b.gal.rejects o.sec + 1
      let full := 20 ≤ n
      { b with gal := { b.gal with rejects := Store.put (fun _ => 0) o.sec (if full then 0 else n) b.gal.rejects } }
        |>.add Reg.GAL0.OBS_REJ 1
        |>.cond full (fun b => b |>.err 0x10 4 |>.verdict (Verdict.se 2) 0x10 (arg0 := o.sec))
    | some tau =>
      let f := if o.opening then ofSec Reg.GAL.SDLY_ON o.sec else ofSec Reg.GAL.SDLY_OFF o.sec
      let fl := if o.opening then ofSec Reg.GAL.SDLY_ON_L o.sec else ofSec Reg.GAL.SDLY_OFF_L o.sec
      let d := b.rd f
      let w := b.cf Reg.GAL0.LEARN_W
      let new := if b.is fl then (roundDiv ((d : Int) * 10 * 2 ^ w + tau - d * 10) (10 * 2 ^ w)).toNat
        else (roundDiv tau 10).toNat
      let dflt := if o.opening then b.cal.valveOn else b.cal.valveOff
      let key := 2 * o.sec + bit (!o.opening)
      { b with gal := { b.gal with
          rejects := Store.put (fun _ => 0) o.sec 0 b.gal.rejects
          accepted := (key, b.ftDrips) :: b.gal.accepted.filter fun (a : Nat × Nat) => a.1 != key } }
        |>.wr f new |>.wr fl 1 |>.add Reg.GAL0.OBS_ACC 1 |>.irq 0x10 4
        |>.cond (1500 ≤ new || 3 * dflt ≤ new) (·.verdict (Verdict.se 1) 0x10 (arg0 := o.sec) (arg1 := new))

/-! Pulse inputs (R214). -/

/-- An edge of input `n`, at SYS cycle `cyc` of this drip, after which the input holds its level for `held` µs. -/
def capEdge (n : Nat) (rising : Bool) (held cyc : Nat) (b : Block) : Block :=
  let kind := b.rd (Reg.CAP.CFG_EDGE n)
  if !b.powered || !b.is (Reg.CAP.CFG_EN n) || b.is (Reg.HDR.FREEZE 0x2F) || b.isLasting ⟨0x2F, n, 0⟩
      || !(kind.testBit (bit (!rising))) then b
  else if held < b.rd (Reg.CAP.CFG_FILT n) then b.err 0x2F n
  else
    let at_ := b.ftDrips * 16368 + cyc % 16368
    let us := match b.cap.last.getD n none with
      | some l => min 0xFFFFFF ((at_ - l) * 100 / 16368)
      | none => 0xFFFFFF
    { b with cap := { b.cap with last := b.cap.last.set n (some at_) } }
      |>.incWrap (Reg.CAP.COUNT_COUNT n) |>.wr (Reg.CAP.LAST_DRIP_DRIP n) (b.ftDrips % 2 ^ 32)
      |>.wr (Reg.CAP.LAST_CYC_CYC n) (cyc % 16368) |>.wr (Reg.CAP.PERIOD_US n) (if 16700000 < us then 0xFFFFFF else us)
      |>.irq 0x2F n

end Block

/-- BOUNDARY_LOAD (R193): a write of `v` to `GAL0.BND.NPOLY`. -/
def execBoundaryLoad (v : BitVec 4) (s : State) : Host.Outcome State Fault Refusal := s.run (Block.boundaryLoad v.toNat)

/-- GALLERY_INPUT_LATCH (R37): drip 9. -/
def execGalleryInputLatch (s : State) : Host.Outcome State Fault Refusal := s.run Block.inputLatch

/-- GALLERY_EVALUATION (R199): the measured cycles, and the sections that the end of the window left out (R50). -/
def execGalleryEvaluation (cycles : BitVec 21) (missed : List (Fin 256)) (s : State) : Host.Outcome State Fault Refusal :=
  s.run (Block.evaluateSections cycles.toNat (missed.map (·.val)))

/-- SECTION_COMMAND_LATCH (R200): drip 90. -/
def execSectionCommandLatch (s : State) : Host.Outcome State Fault Refusal := s.run Block.commandLatch

/-- DELAY_OBSERVATION_END (R204, R205): the end of the window of class `c`. -/
def execDelayObservationEnd (c : Fin 4) (s : State) : Host.Outcome State Fault Refusal := s.run (Block.obsEnd c)

/-- HOLD_EXPIRY (R208). -/
def execHoldExpiry (s : State) : Host.Outcome State Fault Refusal := s.run Block.holdExpiry

/-- CAP_EDGE (R214): an edge of the input, the time its level then holds in µs, and its SYS cycle in the drip. -/
def execCapEdge (n : Fin 4) (rising : Bool) (held : Byte) (cyc : BitVec 14) (s : State) :
    Host.Outcome State Fault Refusal := s.run (Block.capEdge n rising held.toNat cyc.toNat)

end Sys2Proof.Machine
end

