-- ==== Sys2Proof/Machine/Lip.lean ====
section
/-! DEFINITION. The Luatha implement protocol (12_implement_protocol.md): the tick pusher's frames, discovery and
assignment, heartbeats and loss, loading, reports and block transfer. -/

namespace Sys2Proof.Machine
namespace Block

/-! The tick pusher (R37, R338, R366, R376, R380). -/

def pushDone (k : Nat) (b : Block) : Block := { b with tick := { b.tick with pushed := k :: b.tick.pushed } }

/-- A tick-driven push is due: its drip, once in the pool. -/
def pushDue (b : Block) (k drip : Nat) : Bool :=
  b.powered && !b.is Reg.HDR.TICK_FROZEN && b.drip = drip && !b.tick.pushed.contains k

def tickFrame (prio type dest : Nat) (data : List Byte) (tag : Nat) (b : Block) : TxEntry :=
  { lipFrame prio type dest data tag with limit := b.rd Reg.CAN.CFG_TICK_RETRY }

/-- Map and switch drip of a node's SECT_CMD, by mode (R380). -/
def sectCommand (b : Block) (a : Nat) : Nat × Nat :=
  let w0 := b.windowDrip
  if b.is Reg.DBG.HALT_MAIN || b.upd.paused then (0, w0)
  else if b.mode == .field || b.md.leaving.isSome then
    match b.gal.cmds.find? fun c => c.1 = a with
    | some c => (c.2.2, c.2.1)
    | none => (0, w0)
  else if b.mode == .service && !b.safeActing && b.gal.svcMaps.contains a then (b.nodeWord a / 2 ^ 16, w0)
  else (0, w0)

/-- SECT_CMD: all of the pool's frames, or none (R45), by the node-table words of the last latch; a word's `SEQ` counts on
unless it has been written since (Table LIP-10). -/
def sectQueue (b : Block) : Block :=
  if !b.pushDue 0 92 || !b.running 5 || b.md.coordConflict then b
  else
    let b := b.pushDone 0
    let nodes := ((List.range 64).map (· + 0x10)).filter b.nodeReady
    if !b.canActive then b.inc Reg.CAN.COUNTS_TICKSKIP
    else if 32 < b.can.queue.length + nodes.length then b.overrun .sectq
    else
      b.each nodes fun a b =>
        let f := Reg.CAN.NODE_SEQ (a - 0x10)
        let seq := b.nodeWord a / 2 ^ 8 % 256
        let mc := b.sectCommand a
        let data := leBytes 2 mc.1 ++ leBytes 1 seq ++ leBytes 1 0 ++ leBytes 4 mc.2
        let last := match b.partnerAt a with
          | some p => (p.uid, seq) :: b.lip.lastSeq.filter fun (x : Nat × Nat) => x.1 != p.uid
          | none => b.lip.lastSeq
        { b with lip := { b.lip with lastSeq := last } }
          |>.enqueue (b.tickFrame 1 0x02 a data 0xF0) |>.cond (b.rd f = seq) (incWrap f)

/-- SYNC (R366, R46) (assumption 99, DEDUCED). It stops beside a second coordinator, so that the partners' SYNC timeout
closes the sections (R29). -/
def syncQueue (b : Block) : Block :=
  if !b.pushDue 1 95 || !b.running 5 || b.md.coordConflict then b
  else
    let b := b.pushDone 1
    if !b.canActive then b.inc Reg.CAN.COUNTS_TICKSKIP
    else if 32 ≤ b.can.queue.length then b.overrun .sync
    else
      let seq := (b.rd Reg.TICK.POS_EPOCH * 10 + b.pool) % 250
      let (b, sl) := b.syncSlew
      let slew := bit sl
      let last := match b.lip.syncSent with
        | some (r, ft, p) => if b.md.pools < p + 250 then some (r, ft) else none
        | none => none
      let r := match last with | some x => x.1 | none => 0xFF
      let ft := match last with | some x => x.2 | none => 0
      let data := leBytes 1 seq ++ leBytes 1 r ++ leBytes 2 (ft % 2 ^ 14 + slew * 2 ^ 14) ++ leBytes 4 (ft / 65536)
      b |>.enqueue (b.tickFrame 0 0x01 0xFF data 0xF1)
        |>.wr Reg.CAN.SYNC_STAT_SEQ seq |>.wr Reg.CAN.SYNC_STAT_REF r |>.wr Reg.CAN.SYNC_STAT_SLEW slew

/-- The coordinator HEARTBEAT (R376, Table LIP-5). -/
def beatQueue (b : Block) : Block :=
  if !b.pushDue 2 97 || b.pool != 5 || !b.running 5 then b
  else
    let b := b.pushDone 2
    if !b.canActive then b.inc Reg.CAN.COUNTS_TICKSKIP
    else if 32 ≤ b.can.queue.length then b.overrun .hbeat
    else
      let data := leBytes 1 b.mode.code ++ leBytes 1 b.ladder ++ leBytes 1 b.era ++ leBytes 1 1
        ++ leBytes 4 (b.rd Reg.SEC.UID_LO_UID)
      b.enqueue (b.tickFrame 2 0x03 0xFF data 0xF2)

/-! Discovery and assignment (R369 to R375). -/

def uid56 (uid : Nat) : List Byte := leBytes 7 uid

def releaseFrame (dest uid reason : Nat) : TxEntry := lipFrame 3 0x05 dest (uid56 uid ++ leBytes 1 reason) 0

/-- A PARTNER record (Table LOG-2): 1 assigned, 2 lost, 3 released. -/
def partnerEvent (uid addr what : Nat) (b : Block) : Block := b.sysEvent 0x0D 0x26 uid (addr + what * 256)

/-- The node-table word of an address at its reset value. -/
def clearNode (a : Nat) (b : Block) : Block :=
  let i := a - 0x10
  b |>.wr (Reg.CAN.NODE_ASSIGNED i) 0 |>.wr (Reg.CAN.NODE_BOOM i) 0 |>.wr (Reg.CAN.NODE_READY i) 0
    |>.wr (Reg.CAN.NODE_SEQ i) 0 |>.wr (Reg.CAN.NODE_SVC_MAP i) 0

/-- A frame of one of these types to `a`. -/
def frameTo (types : List Nat) (a : Nat) (e : TxEntry) : Bool :=
  e.id / 2 ^ 8 % 256 = a && types.contains (e.id / 2 ^ 16 % 256)

/-- Types of the frames of a transfer, but for the BT_ABORT that ends it, and of a resend. -/
def btTypes : List Nat := [0x40, 0x41, 0x42, 0x43, 0x45]
def resendTypes : List Nat := [0x06, 0x08]

/-- Queued frames withdrawn by `TX_ABORT` (R355): the head's attempt runs to its end. -/
def withdraw (p : TxEntry → Bool) (b : Block) : Block :=
  match b.can.queue with
  | e :: t =>
    if b.canActive && p e then
      { b with can := { b.can with queue := { e with abort := true } :: t.filter fun x => !p x } }
        |>.each (t.filter p) (fun e b => b.endEntry e 3 b.canTs b.ft) |>.showTx
    else b.endWhere p 3
  | [] => b

/-- A partner leaves the table with its reports, and its transfers end with no further frame (R388). -/
def forget (a : Nat) (b : Block) : Block :=
  { b with lip := { b.lip with
      partners := b.lip.partners.filter (·.addr != a)
      send := b.lip.send.filter (·.peer != a)
      recv := b.lip.recv.filter (·.peer != a)
      pulse := b.lip.pulse.filter fun (r : Nat × Nat × Nat) => r.1 / 4 != a
      press := b.lip.press.filter fun (r : Nat × Nat × Nat) => r.1 / 4 != a
      outbox := b.lip.outbox.filter fun (e : TxEntry) => !frameTo (btTypes ++ resendTypes) a e } }
    |>.withdraw (frameTo (btTypes ++ resendTypes) a) |>.clearNode a

/-- A partner lost (R377, R390, BU06). -/
def lose (p : Partner) (release : Bool) (b : Block) : Block :=
  let now := b.ftDrips
  let losses := (p.uid, now) :: b.lip.losses.filter fun (l : Nat × Nat) => now < l.2 + 6000000
  let three := 3 ≤ (losses.filter fun l => l.1 = p.uid).length
  let keep := if three then losses.filter fun (l : Nat × Nat) => l.1 != p.uid else losses
  { b with lip := { b.lip with losses := keep } }
    |>.forget p.addr |>.partnerEvent p.uid p.addr 2
    |>.cond release (·.lipPost (releaseFrame p.addr p.uid 1))
    |>.cond three (·.verdict (Verdict.bu 6) 0x26)

/-- Assigned boom nodes. -/
def boomCount (b : Block) : Nat := (b.lip.partners.filter fun p => p.kind = 0).length

/-- Offset and length of the node image for a kind in the running image (manifest bytes 208 to 255)
(assumption 101, DEDUCED). -/
def nodeImage (b : Block) (kind : Nat) : Nat × Nat :=
  (b.flashWord (imageBase + 208 + 8 * kind), b.flashWord (imageBase + 212 + 8 * kind))

/-- Refused announcers (R370, BU08). -/
def refuse (uid reason : Nat) (b : Block) : Block :=
  b |>.lipPost (releaseFrame 0xFE uid reason)
    |>.cond (reason != 5) (fun b => b |>.partnerEvent uid 0xFE 3 |>.verdict (Verdict.bu 8) 0x26)

/-! The bindings that MAIN keeps in CONF (R546, R548). -/

/-- The records of the list from byte `pos` of the region: offset and whole length of each; none when the list stops at a
record that R137 refuses. -/
def confRecords (b : Block) : Nat → Nat → Option (List (Nat × Nat))
  | 0, _ => none
  | fuel + 1, pos =>
    let a := confBase + pos
    let magic := b.val a 1
    let len := 8 + 4 * b.val (a + 4) 1
    if pos = 0xC000 ∨ magic = 0xFF then some []
    else if (magic ≠ 0xC5 ∧ magic ≠ 0xB5) ∨ len = 8 ∨ 264 < len ∨ 0xC000 < pos + len then none
    else (confRecords b fuel (pos + len)).map fun t => (pos, len) :: t

/-- The entries of R546 in a data record of tag 0x4C42: UID and address. -/
def bindWords : List Byte → Nat → List (Nat × Nat)
  | _, 0 => []
  | bs, n + 1 => (leValue (bs.take 8), leValue ((bs.drop 8).take 4)) :: bindWords (bs.drop 12) n

/-- A record that holds bindings: a data record of tag 0x4C42 whose CRC is good. -/
def isBinding (b : Block) (r : Nat × Nat) : Bool :=
  let bs := b.bytes (confBase + r.1) r.2
  leValue (bs.take 1) = 0xB5 && u16At bs 2 = 0x4C42 && crc16 (bs.take 6 ++ bs.drop 8) = u16At bs 6

/-- Entries in order: ignored with an address outside 0x10 to 0x4F or a UID of an earlier entry; an address binds to its
first UID (R546). -/
def bindJudge (es : List (Nat × Nat)) : List (Nat × Nat) :=
  let fresh (acc : List Nat × List (Nat × Nat)) (e : Nat × Nat) : List Nat × List (Nat × Nat) :=
    let out := e.2 < 0x10 || 0x4F < e.2 || acc.1.contains e.1 || acc.2.any fun (x : Nat × Nat) => x.2 = e.2
    (e.1 :: acc.1, if out then acc.2 else acc.2 ++ [e])
  (es.foldl fresh ([], [])).2

/-- The bindings that the image reads at a start (R546). Records past a place where the list stops are not read
(assumption 146, DESIGN CHOICE). -/
def bindRead (b : Block) : Block :=
  let rs := match b.confRecords 4096 0 with
    | some rs => rs.filter b.isBinding
    | none => []
  let es := rs.flatMap fun r => bindWords (b.bytes (confBase + r.1 + 8) (r.2 - 8)) ((r.2 - 8) / 12)
  { b with lip := { b.lip with bindings := bindJudge es } }

/-- Data records of the bindings, of up to 21 entries each, for want of room in one (assumption 146, DESIGN CHOICE). -/
def bindRecords : Nat → List (Nat × Nat) → List Byte
  | 0, _ => []
  | _, [] => []
  | fuel + 1, es =>
    let part := es.take 21
    let head := leBytes 1 0xB5 ++ leBytes 1 0 ++ leBytes 2 0x4C42 ++ leBytes 1 (3 * part.length) ++ leBytes 1 0
    let body := part.flatMap fun e => leBytes 8 e.1 ++ leBytes 4 e.2
    head ++ leBytes 2 (crc16 (head ++ body)) ++ body ++ bindRecords fuel (es.drop 21)

/-- The binding record rewritten where it stood, every other record kept in its order; nothing is written to a region that
`WPROT` protects, that has no room, or whose list stops early (assumption 146, DESIGN CHOICE). -/
def bindStore (b : Block) : Block :=
  match b.confRecords 4096 0 with
  | none => b
  | some rs =>
    let raw (r : Nat × Nat) : List Byte := b.bytes (confBase + r.1) r.2
    let first := rs.takeWhile fun r => !b.isBinding r
    let rest := (rs.drop first.length).filter fun r => !b.isBinding r
    let new := first.flatMap raw ++ bindRecords 64 b.lip.bindings ++ rest.flatMap raw
    if b.is Reg.FLASH.WPROT_CONF || 0xC000 < new.length then b
    else b |>.eraseFlash confBase 0xC000 |>.setBytes confBase new

/-- The binding record rewritten by MAIN, through the flash controller (R146). -/
def bindWrite (b : Block) : Block := b.flashOwn .bind bindStore

/-- The kind of the partner that `a` is bound to, where one of that UID has announced since the start. -/
def boundKind (b : Block) (a : Nat) : Option Nat :=
  match b.lip.bindings.find? fun x => x.2 = a with
  | some (uid, _) => (b.lip.kinds.find? fun x => x.1 = uid).map (·.2)
  | none => none

/-- A partner that "replace partner" for address `a` waits for: unbound, and of the kind bound there
(assumption 147, DEDUCED). -/
def replaces (b : Block) (a uid kind : Nat) : Bool :=
  !(b.lip.bindings.any fun x => x.1 = uid) && (b.boundKind a).all (· == kind)

/-- The address's binding moves to `uid`, and the record is rewritten (R548, step 2). -/
def bindMove (a uid : Nat) (b : Block) : Block :=
  let bindings := if b.lip.bindings.any fun x => x.2 = a then
      b.lip.bindings.map fun (x : Nat × Nat) => if x.2 = a then (uid, a) else x
    else b.lip.bindings ++ [(uid, a)]
  { b with lip := { b.lip with bindings, replace := none } } |>.bindWrite

/-- "Replace partner" for address `a` (R548): a fitting partner already assigned elsewhere is released with ORDER, the
lowest address first; otherwise the choice waits for the next one that announces (assumption 147, DEDUCED). -/
def replaceOrder (a : Nat) (b : Block) : Block :=
  let fits := (b.lip.partners.filter fun p => p.confirmed && p.addr != a && b.replaces a p.uid p.kind).map (·.addr)
  match fits with
  | [] => { b with lip := { b.lip with replace := some a } }
  | x :: xs =>
    match b.partnerAt (xs.foldl min x) with
    | some p => b |>.bindMove a p.uid |>.forget p.addr |>.lipPost (releaseFrame p.addr p.uid 7) |>.partnerEvent p.uid p.addr 3
    | none => b

/-- A bound address that another partner holds: an event of MAIN, of a code of its own choice, names both UIDs (R550)
(assumption 147, DEDUCED). -/
def heldEvent (uid : Nat) (b : Block) : Block :=
  match b.lip.bindings.find? fun x => x.1 = uid with
  | some (_, a) =>
    match b.partnerAt a with
    | some p => (b.sysEvent (3 * 2 ^ 13 + (Config.freeWord b.free).toNat % 2 ^ 13) 0x33 uid p.uid).draw 1
    | none => b
  | none => b

/-- The address for a UID (R370). -/
def chooseAddr (b : Block) (uid : Nat) : Option Nat :=
  let free (a : Nat) : Bool := !(b.lip.partners.any (·.addr == a))
  match b.lip.bindings.find? fun x => x.1 = uid with
  | some (_, a) => if free a then some a else ((List.range 64).map (· + 0x10)).find? free
  | none => ((List.range 64).map (· + 0x10)).find? free

/-- An ANNOUNCE answered (R370, R371, R373, R390); of several causes to refuse one is named (assumption 150,
DESIGN CHOICE). -/
def announce (uid kind : Nat) (image : Bool) (b : Block) : Block :=
  if !b.is Reg.HDR.CAN_RUN then b
  else
    match b.lip.partners.find? fun p => p.uid = uid && !p.confirmed with
    | some _ => b
    | none =>
      let b := match b.lip.partners.find? fun p => p.uid = uid with
        | some p => b.lose p false
        | none => b
      let b := { b with lip := { b.lip with kinds := (uid, kind) :: b.lip.kinds.filter fun (x : Nat × Nat) => x.1 != uid } }
      let b := match b.lip.replace with
        | some a => b.cond (b.replaces a uid kind) (bindMove a uid)
        | none => b
      if b.lip.partners.any fun p => !p.confirmed && p.uid % 2 ^ 56 = uid % 2 ^ 56 then b
      else if 6 ≤ kind then b |>.refuse uid 4 |>.lipRun
      else if kind = 0 ∧ b.rd Reg.TICK.SECT_NMAX_NMAX ≤ b.boomCount then b |>.refuse uid 2 |>.lipRun
      else if image ∧ (b.nodeImage kind).2 = 0 ∧ ¬ b.is Reg.UPD.USTAT_LOADER_ONLY then b |>.refuse uid 3 |>.lipRun
      else
        match b.chooseAddr uid with
        | none => b |>.refuse uid 5 |>.lipRun
        | some a =>
          let seq0 := match b.lip.lastSeq.find? fun x => x.1 = uid with
            | some (_, q) => (q + 0x80) % 256
            | none => 0
          let p : Partner := { addr := a, uid, kind, image, seq0, since := b.now, heard := true }
          let b := b.heldEvent uid
          { b with lip := { b.lip with
              partners := b.lip.partners ++ [p]
              lastSeq := (uid, seq0) :: b.lip.lastSeq.filter fun (x : Nat × Nat) => x.1 != uid } }
            |>.lipPost (lipFrame 3 0x04 a (uid56 uid ++ leBytes 1 seq0) 0) |>.lipRun

/-- A partner HEARTBEAT (R372, R377, R378, R382). The state of one that needs an image is resent once it has been loaded
(R23); one that reports LOADER again, but for a report on its way at the end of a load, needs another. -/
def partnerBeat (a state : Nat) (b : Block) : Block :=
  match b.partnerAt a with
  | none => b
  | some p =>
    let i := a - 0x10
    let b := b.setPartner a fun p => { p with
      missed := 0, heard := true, state, confirmed := true, loaded := p.loaded && (state != 0 || 0 < p.grace) }
    let b := if p.confirmed then b
      else
        b |>.wr (Reg.CAN.NODE_ASSIGNED i) 1 |>.wr (Reg.CAN.NODE_BOOM i) (bit (p.kind = 0)) |>.wr (Reg.CAN.NODE_READY i) 0
          |>.wr (Reg.CAN.NODE_SEQ i) p.seq0 |>.partnerEvent p.uid a 1
    if state ≠ 2 then b |>.wr (Reg.CAN.NODE_READY i) 0 |>.setPartner a fun p => { p with resend := none }
    else if !b.is (Reg.CAN.NODE_READY i) && p.resend.isNone && (!p.image || p.loaded) then b |>.resendStart a |>.lipRun
    else b

/-- An ASSIGN lapses 3 epochs after it (R372). -/
def assignLapse (a : Nat) (b : Block) : Block :=
  match b.partnerAt a with
  | some p => if !p.confirmed && p.since + 3000 ≤ b.now then b.forget a else b
  | none => b

/-- A partner is declared lost (R377). -/
def partnerLoss (a : Nat) (b : Block) : Block :=
  match b.partnerAt a with
  | some p => if p.confirmed && 3 ≤ p.missed then b |>.lose p true |>.lipRun else b
  | none => b

/-- The epoch's end (R377); what goes out once per epoch may again (R374, R388). -/
def lipEpoch (b : Block) : Block :=
  let f (p : Partner) : Partner :=
    { p with
      missed := if p.heard then 0 else if 0 < p.grace then p.missed else p.missed + 1
      heard := false, grace := p.grace - 1 }
  let s (t : BtSend) : BtSend := { t with holdSent := false }
  { b with lip := { b.lip with partners := b.lip.partners.map f, send := b.lip.send.map s, discovered := false } }

/-- DISCOVER (R374). -/
def discover (b : Block) : Block :=
  let frame (flags : Nat) : TxEntry :=
    lipFrame 3 0x07 0xFF (leBytes 1 flags ++ leBytes 1 1 ++ leBytes 2 0 ++ leBytes 4 (b.rd Reg.SEC.UID_LO_UID)) 0
  if !b.is Reg.HDR.CAN_RUN then b
  else if b.lip.discover then { b with lip := { b.lip with discover := false } } |>.lipPost (frame 1) |>.lipRun
  else if b.is Reg.CAN.NOACK_ALONE && !b.lip.discovered then
    { b with lip := { b.lip with discovered := true } } |>.lipPost (frame 0) |>.lipRun
  else b

/-- Boom nodes beyond `SECT_NMAX` released, highest addresses first (R53). -/
def releaseExcess : Nat → Block → Block
  | 0, b => b
  | n + 1, b =>
    if b.boomCount ≤ b.rd Reg.TICK.SECT_NMAX_NMAX then b
    else
      let a := (b.lip.partners.filter fun p => p.kind = 0).foldl (fun m p => max m p.addr) 0
      match b.partnerAt a with
      | some p =>
        releaseExcess n (b |>.forget a |>.lipPost (releaseFrame a p.uid 2) |>.partnerEvent p.uid a 3)
      | none => b

/-- A report (R383). -/
def lipReport (a : Nat) (pulse : Bool) (chan value ft : Nat) (b : Block) : Block :=
  match b.partnerAt a with
  | some p =>
    if !p.confirmed then b
    else
      let k := a * 4 + chan
      if pulse then
        { b with lip := { b.lip with pulse := (k, value, ft) :: b.lip.pulse.filter fun (x : Nat × Nat × Nat) => x.1 != k } }
      else
        { b with lip := { b.lip with press := (k, value, ft) :: b.lip.press.filter fun (x : Nat × Nat × Nat) => x.1 != k } }
  | none => b

/-! Block transfer (R386 to R388). -/

/-- The bytes of a transfer that the part sends: from the image, or from SRAM, each as MAIN reads it; 0 where the fences
deny MAIN. -/
def btBytes (t : BtSend) (o n : Nat) (b : Block) : Block × List Byte :=
  if t.content = 1 then (b, (List.range n).map fun i => b.flashByte (t.addr + o + i))
  else
    match b.fetch 5 (t.addr + o) n with
    | (b, some bs) => (b, bs)
    | (b, none) => (b, List.replicate n (0 : Byte))

def setSend (peer : Nat) (f : BtSend → BtSend) (b : Block) : Block :=
  let g (t : BtSend) : BtSend := if t.peer = peer then f t else t
  { b with lip := { b.lip with send := b.lip.send.map g } }

def dropSend (peer : Nat) (b : Block) : Block :=
  { b with lip := { b.lip with
      send := b.lip.send.filter (·.peer != peer)
      outbox := b.lip.outbox.filter fun (e : TxEntry) => !frameTo [0x40, 0x41, 0x43, 0x45] peer e } }

/-- What a transfer posts next is under way: the end of its last frame is awaited, under a new mark (R387). -/
def sendOn (peer : Nat) (f : BtSend → BtSend) (b : Block) : Block :=
  let mark := b.lip.marks + 1
  let now := b.md.pools
  { b with lip := { b.lip with marks := mark } }
    |>.setSend peer fun t => f { t with gone := !b.is (Reg.HDR.EN 0x26), since := now, mark }

/-- A frame whose end tells that what was posted has gone out. -/
def lastFrame (t : BtSend) (e : TxEntry) : TxEntry := { e with tag := t.peer + 0x40, mark := t.mark }

def blocksOf (len : Nat) : Nat := ceilDiv len 448

/-- The frames of a block from index `from_` wait for the queue; the last one carries the tag by which its end is seen. -/
def postBlock (t : BtSend) (from_ : Nat) (b : Block) : Block :=
  let n := min 448 (t.len - 448 * t.block)
  let k := ceilDiv n 7
  match b.btBytes t (448 * t.block) n with
  | (b, bs) =>
    b.each ((List.range k).filter (from_ ≤ ·)) fun i =>
      let e := lipFrame 6 0x41 t.peer (leBytes 1 (i + t.block % 4 * 64) ++ (bs.drop (7 * i)).take 7) 0
      lipPost (if i + 1 = k then lastFrame t e else e)

/-- BT_END over the whole content (assumption 100, DEDUCED). -/
def postEnd (t : BtSend) (b : Block) : Block :=
  match b.btBytes t 0 t.len with
  | (b, bs) => b.lipPost (lastFrame t (lipFrame 6 0x43 t.peer (leBytes 4 (crc32 bs) ++ leBytes 4 t.len) 0))

def openFrame (t : BtSend) : TxEntry :=
  lastFrame t (lipFrame 6 0x40 t.peer (leBytes 1 t.content ++ leBytes 1 0 ++ leBytes 4 t.len ++ leBytes 2 t.tag) 0)

def sendTo (b : Block) (peer : Nat) : Option BtSend := b.lip.send.find? (·.peer == peer)

/-- What the transfer's stage posts: BT_OPEN, the block from index `from_` on, or BT_END. -/
def btPost (peer from_ : Nat) (b : Block) : Block :=
  match b.sendTo peer with
  | none => b
  | some t =>
    if t.stage = 0 then b |>.lipPost (openFrame t) |>.lipRun
    else if t.stage = 1 then b |>.postBlock t from_ |>.lipRun
    else if t.stage = 2 then b |>.postEnd t |>.lipRun
    else b

/-- What the sender does next: the current block, BT_END after the last, or a pause (R388), which a block sent again does
not take. -/
def btGoOn (peer from_ : Nat) (again : Bool) (b : Block) : Block :=
  match b.sendTo peer with
  | none => b
  | some t =>
    if t.block < blocksOf t.len then
      if t.content = 2 ∧ 1 ≤ b.ladder ∧ ¬ again then b.setSend peer fun t => { t with stage := 3 }
      else b |>.sendOn peer (fun t => { t with stage := 1 }) |>.btPost peer from_
    else b |>.sendOn peer (fun t => { t with stage := 2, timeouts := 0 }) |>.btPost peer 0

/-- A node image load fails (R379, R394, BU07): once more after a first CRC_FAIL or REFUSED, else RELEASE with LOAD_FAIL. -/
def loadFailed (peer : Nat) (again : Bool) (b : Block) : Block :=
  match b.partnerAt peer, b.sendTo peer with
  | some p, some t =>
    if t.content ≠ 1 then b.dropSend peer
    else if again && p.failed = 0 then
      b |>.setPartner peer (fun p => { p with failed := 1 })
        |>.sendOn peer (fun t => { t with block := 0, stage := 0, timeouts := 0 }) |>.btPost peer 0
    else
      b |>.forget peer |>.lipPost (releaseFrame peer p.uid 6) |>.partnerEvent p.uid peer 3
        |>.verdict (Verdict.bu 7) 0x26 |>.lipRun
  | _, _ => b.dropSend peer

/-- A transfer to a peer begins with BT_OPEN (R386); a snapshot's waits while step 1 is shed (R388). -/
def sendStart (t : BtSend) (b : Block) : Block :=
  let b := { b with lip := { b.lip with send := b.lip.send ++ [t] } }
  if t.content = 2 ∧ 1 ≤ b.ladder then b.setSend t.peer fun t => { t with stage := 3 }
  else b |>.sendOn t.peer id |>.btPost t.peer 0

/-- A node image load starts for the lowest waiting address, to which nothing else is sent (R379, R386); the loader loads none
(R442). -/
def imageLoad (b : Block) : Block :=
  if b.is Reg.UPD.USTAT_LOADER_ONLY || b.lip.send.any fun t => t.content = 1 then b
  else
    let wait := b.lip.partners.filter fun p => p.confirmed && p.image && p.state = 0 && (b.sendTo p.addr).isNone
    match wait with
    | [] => b
    | p0 :: ps =>
      let a := (ps.map (·.addr)).foldl min p0.addr
      let kind := match b.partnerAt a with | some p => p.kind | none => 0
      let img := b.nodeImage kind
      b.sendStart { peer := a, content := 1, tag := kind, addr := imageBase + img.1, len := img.2 }

/-- A received BT_ACK (R386, R387, R379). To BUSY the sender offers the transfer again as to no answer
(assumption 170, DESIGN CHOICE). -/
def btAck (peer code block index : Nat) (b : Block) : Block :=
  match b.sendTo peer with
  | none => b
  | some t =>
    if t.stage = 0 then
      if code = 0 then
        b |>.setSend peer (fun t => { t with block := 0, timeouts := 0, opened := true }) |>.btGoOn peer 0 false
      else if code = 4 then b.loadFailed peer true
      else b
    else if t.stage = 1 then
      if code = 0 ∧ block = t.block + 1 then
        b |>.setSend peer (fun t => { t with block := t.block + 1, timeouts := 0 }) |>.btGoOn peer 0 false
      else if code = 1 ∧ block = t.block then b.btGoOn peer index true
      else b
    else if t.stage = 2 then
      if code = 2 then b |>.dropSend peer |>.cond (t.content = 1) (·.setPartner peer fun p => { p with grace := 10, state := 1, loaded := true })
      else if code = 3 then b.loadFailed peer true
      else b
    else b

def ackFrame (peer code block index : Nat) : TxEntry :=
  lipFrame 6 0x42 peer (leBytes 1 code ++ leBytes 2 block ++ leBytes 1 index) 0

def setRecv (peer : Nat) (f : BtRecv → BtRecv) (b : Block) : Block :=
  let g (t : BtRecv) : BtRecv := if t.peer = peer then f t else t
  { b with lip := { b.lip with recv := b.lip.recv.map g } }

/-- A frame of a transfer has come from the peer (R387). -/
def recvNow (peer : Nat) (b : Block) : Block := b.setRecv peer fun t => { t with since := b.md.pools }

/-- A received BT_OPEN (R386) (assumption 100, DEDUCED). -/
def btOpen (peer content len tag : Nat) (b : Block) : Block :=
  if !b.is Reg.HDR.CAN_RUN || !(b.lip.partners.any fun p => p.addr = peer && p.confirmed) then b
  else if b.lip.recv.any (·.peer == peer) then b |>.recvNow peer |>.lipPost (ackFrame peer 5 0 0) |>.lipRun
  else if (content = 3 ∧ len = 1056)
      ∨ (0x80 ≤ content ∧ 0 < len ∧ len < 2 ^ 24 ∧ ¬ b.is Reg.UPD.USTAT_LOADER_ONLY) then
    let t : BtRecv := { peer, content, tag, len, since := b.md.pools }
    { b with lip := { b.lip with recv := b.lip.recv ++ [t] } }
      |>.lipPost (ackFrame peer 0 0 0) |>.lipRun
  else b |>.lipPost (ackFrame peer 4 0 0) |>.lipRun

/-- A received BT_DATA (R386, R387). -/
def btData (peer head : Nat) (data : List Byte) (b : Block) : Block :=
  let b := b.recvNow peer
  match b.lip.recv.find? (·.peer == peer) with
  | none => b
  | some t =>
    if head / 64 ≠ t.block % 4 ∨ blocksOf t.len ≤ t.block then b
    else
      let i := head % 64
      let n := min 448 (t.len - 448 * t.block)
      let k := ceilDiv n 7
      let frames := (i, data.take (min 7 (n - 7 * i))) :: t.frames.filter fun (f : Nat × List Byte) => f.1 != i
      let b := b.setRecv peer fun t => { t with frames }
      if i + 1 ≠ k then b
      else
        match (List.range k).find? fun j => !(frames.any fun f => f.1 = j) with
        | some j => b |>.lipPost (ackFrame peer 1 t.block j) |>.lipRun
        | none =>
          let bytes := (List.range k).flatMap fun j => match frames.find? fun f => f.1 = j with | some f => f.2 | none => []
          b |>.setRecv peer (fun t => { t with data := t.data ++ bytes, frames := [], block := t.block + 1 })
            |>.lipPost (ackFrame peer 0 (t.block + 1) 0) |>.lipRun

/-- A received BT_END (R386). -/
def btEnd (peer crc len : Nat) (b : Block) : Block :=
  match b.lip.recv.find? (·.peer == peer) with
  | none => b
  | some t =>
    let ok := t.block = blocksOf t.len && len = t.len && crc = crc32 t.data
    let drop := b.lip.recv.filter (·.peer != peer)
    let delivered := if ok then some (t.content, t.tag, t.data) else b.lip.delivered
    { b with lip := { b.lip with recv := drop, delivered } }
      |>.lipPost (ackFrame peer (if ok then 2 else 3) t.block 0) |>.lipRun

/-- A received BT_ABORT: the transfers with the peer end. -/
def btAbort (peer : Nat) (b : Block) : Block :=
  let drop := b.lip.recv.filter (·.peer != peer)
  let b := { b with lip := { b.lip with recv := drop } }
  if b.lip.send.any (·.peer == peer) then b.loadFailed peer false else b

/-- No BT_ACK for 20 pools after the last frame posted has ended (R387) (assumption 100, DEDUCED). -/
def btAckTimeout (peer : Nat) (b : Block) : Block :=
  match b.sendTo peer with
  | none => b
  | some t =>
    if t.stage = 3 ∨ ¬ t.gone ∨ b.md.pools < t.since + 20 then b
    else if 2 ≤ t.timeouts then
      b |>.lipPost (lipFrame 6 0x44 peer (leBytes 1 2) 0) |>.loadFailed peer false |>.lipRun
    else
      b |>.sendOn peer (fun t => { t with timeouts := t.timeouts + 1 }) |>.btPost peer 0

/-- A receiver gives up after 200 pools (R387). -/
def btRecvTimeout (peer : Nat) (b : Block) : Block :=
  let late (t : BtRecv) : Bool := t.peer = peer && t.since + 200 ≤ b.md.pools
  { b with lip := { b.lip with recv := b.lip.recv.filter fun t => !late t } }

/-- MAIN's export of the snapshot slot `tag` to a peer (R386): header and samples stored. -/
def exportStart (peer tag : Nat) (b : Block) : Block :=
  if !b.is Reg.HDR.CAN_RUN || !(b.lip.partners.any fun p => p.addr = peer && p.confirmed) || (b.sendTo peer).isSome then b
  else
    let slotSize := if b.is Reg.GSNAP.CFG_SLOT then 0x20000 else 0x10000
    let a := 0x20180000 + tag / 4 * 0x40000 + tag % 4 * slotSize
    let t : BtSend := { peer, content := 2, tag, addr := a, len := 64 }
    let (b, head) := b.btBytes t 12 4
    b.sendStart { t with len := 64 + leValue head }

/-- BT_HOLD for a paused export, once per epoch (R388). -/
def btHold (peer tag : Nat) (b : Block) : Block :=
  match if b.ladder = 0 || !b.is Reg.HDR.CAN_RUN then none else b.sendTo peer with
  | some t =>
    if t.content = 2 ∧ t.tag = tag ∧ t.stage = 3 ∧ ¬ t.holdSent then
      b |>.setSend peer (fun t => { t with holdSent := true })
        |>.lipPost (lipFrame 6 0x45 peer (leBytes 2 t.block) 0) |>.lipRun
    else b
  | none => b

/-- Paused exports go on where they stopped when step 1 is restored (R69, R388). -/
def btResume (b : Block) : Block :=
  if b.ladder = 0 then b.each (b.lip.send.filter (·.stage == 3)) fun t b =>
    if t.opened then b.btGoOn t.peer 0 false
    else b |>.sendOn t.peer (fun t => { t with stage := 0 }) |>.btPost t.peer 0
  else b

/-! What MAIN's LIP service is told to do (R362, R382, R384). -/

/-- A CFG_SET value held for a partner: sent at once when the partner is READY, with the resend when one is under way, and
otherwise with the next (R382). -/
def configOrder (a index value : Nat) (b : Block) : Block :=
  match b.partnerAt a with
  | none => b
  | some p =>
    let rest := b.lip.cfg.filter fun (c : Nat × Nat × Nat) => !(c.1 = p.uid && c.2.1 = index)
    let b := { b with lip := { b.lip with cfg := rest ++ [(p.uid, index, value)] } }
    if p.resend.isSome then b |>.resendStart a |>.lipRun
    else if b.is (Reg.CAN.NODE_READY (a - 0x10)) then
      b |>.lipPost (lipFrame 4 0x08 a (leBytes 1 index ++ leBytes 1 0 ++ leBytes 4 value ++ leBytes 2 0) 0) |>.lipRun
    else b

/-- A QUIET for a partner, or for all with `a` 0xFF, takes the place of the one before (R384). -/
def quietOrder (a limit pools : Nat) (b : Block) : Block :=
  let till := if pools = 0 then 0 else b.md.pools + pools
  { b with lip := { b.lip with quiet := b.lip.quiet.filter (fun (q : Nat × Nat × Nat) => q.1 != a) ++ [(a, limit, till)] } }
    |>.lipPost (lipFrame 1 0x06 a (leBytes 1 limit ++ leBytes 1 0 ++ leBytes 2 pools) 0) |>.lipRun

/-- An order to MAIN's LIP service, for which the table has no row of its own (assumption 171, DESIGN CHOICE). -/
def lipOrder (o : LipOrder) (b : Block) : Block :=
  if !b.is Reg.HDR.CAN_RUN then b
  else match o with
    | .replace a => b |>.replaceOrder (a + 0x10) |>.lipRun
    | .config a index value => b.configOrder (a + 0x10) index.toNat value.toNat
    | .quiet (some a) limit pools => b.cond (b.partnerAt (a + 0x10)).isSome (quietOrder (a + 0x10) limit.toNat pools.toNat)
    | .quiet none limit pools => b.quietOrder 0xFF limit.toNat pools.toNat
    | .export_ a slot => b.exportStart (a + 0x10) slot

end Block

/-- SECT_CMD_QUEUE (R37, R45, R380): drip 92. -/
def execSectCmdQueue (s : State) : Host.Outcome State Fault Refusal := s.run Block.sectQueue

/-- SYNC_QUEUE (R37, R366): drip 95. -/
def execSyncQueue (s : State) : Host.Outcome State Fault Refusal := s.run Block.syncQueue

/-- HEARTBEAT_QUEUE (R37, R376): drip 97 of pool 5. -/
def execHeartbeatQueue (s : State) : Host.Outcome State Fault Refusal := s.run Block.beatQueue

/-- ANNOUNCE (R370). -/
def execAnnounce (uid : BitVec 64) (kind : Fin 16) (image : Bool) (s : State) : Host.Outcome State Fault Refusal :=
  s.run (Block.announce uid.toNat kind image)

/-- PARTNER_HEARTBEAT (R372, R378): the partner's address and state, and an order to MAIN's LIP service that has come
meanwhile (R548, R382, R384) (assumption 147, DEDUCED; assumption 171, DESIGN CHOICE). -/
def execPartnerHeartbeat (addr : Fin 64) (st : Fin 4) (order : Option LipOrder) (s : State) :
    Host.Outcome State Fault Refusal :=
  s.run fun b =>
    let b := match order with
      | some o => b.lipOrder o
      | none => b
    b.partnerBeat (addr + 0x10) st

/-- ASSIGN_LAPSE (R372). -/
def execAssignLapse (addr : Fin 64) (s : State) : Host.Outcome State Fault Refusal := s.run (Block.assignLapse (addr + 0x10))

/-- PARTNER_LOSS (R377). -/
def execPartnerLoss (addr : Fin 64) (s : State) : Host.Outcome State Fault Refusal := s.run (Block.partnerLoss (addr + 0x10))

/-- DISCOVER (R374). -/
def execDiscover (s : State) : Host.Outcome State Fault Refusal := s.run Block.discover

/-- NODE_IMAGE_LOAD (R379). -/
def execNodeImageLoad (s : State) : Host.Outcome State Fault Refusal := s.run Block.imageLoad

/-- BT_OPEN (R386). -/
def execBtOpen (peer : Fin 64) (content : Byte) (len : Word) (tag : BitVec 16) (s : State) :
    Host.Outcome State Fault Refusal := s.run (Block.btOpen (peer + 0x10) content.toNat len.toNat tag.toNat)

/-- BT_DATA (R386): byte 0 and the content bytes. -/
def execBtData (peer : Fin 64) (head : Byte) (data : List Byte) (s : State) : Host.Outcome State Fault Refusal :=
  s.run (Block.btData (peer + 0x10) head.toNat data)

/-- BT_ACK (R386, R387). -/
def execBtAck (peer : Fin 64) (code : Fin 6) (block : BitVec 16) (index : Byte) (s : State) :
    Host.Outcome State Fault Refusal := s.run (Block.btAck (peer + 0x10) code block.toNat index.toNat)

/-- BT_END (R386). -/
def execBtEnd (peer : Fin 64) (crc len : Word) (s : State) : Host.Outcome State Fault Refusal :=
  s.run (Block.btEnd (peer + 0x10) crc.toNat len.toNat)

/-- BT_ABORT (R387, R379). -/
def execBtAbort (peer : Fin 64) (s : State) : Host.Outcome State Fault Refusal := s.run (Block.btAbort (peer + 0x10))

/-- BT_ACK_TIMEOUT (R387). -/
def execBtAckTimeout (peer : Fin 64) (s : State) : Host.Outcome State Fault Refusal :=
  s.run (Block.btAckTimeout (peer + 0x10))

/-- BT_RECEIVE_TIMEOUT (R387). -/
def execBtReceiveTimeout (peer : Fin 64) (s : State) : Host.Outcome State Fault Refusal :=
  s.run (Block.btRecvTimeout (peer + 0x10))

/-- BT_HOLD (R388). -/
def execBtHold (peer : Fin 64) (tag : Fin 8) (s : State) : Host.Outcome State Fault Refusal :=
  s.run (Block.btHold (peer + 0x10) tag)

/-- REPORT (R383): REPORT_PULSE or REPORT_PRESS of a channel. -/
def execReport (addr : Fin 64) (pulse : Bool) (chan : Fin 4) (value : BitVec 16) (ft : BitVec 48) (s : State) :
    Host.Outcome State Fault Refusal := s.run (Block.lipReport (addr + 0x10) pulse chan value.toNat ft.toNat)

end Sys2Proof.Machine
end

