-- ==== Sys2Proof/Machine/Radio.lean ====
section
/-! DEFINITION. The co-op radio link (13_coop_radio.md, R395 to R415, R420, R421). -/

namespace Sys2Proof.Machine
open Crypto
namespace Block

/-! Frame format (Table RAD-2, R398). -/

/-- Frame control of a unicast data frame (assumption 102, PRESUMED). -/
def fcUni : Nat := 0xDC69
/-- Frame control of a broadcast data frame (assumption 102, PRESUMED). -/
def fcBcast : Nat := 0xD849

/-- Where the auxiliary security header begins. -/
def auxAt (uni : Bool) : Nat := if uni then 21 else 15

def isUni (psdu : List Byte) : Bool := leValue (psdu.take 2) = fcUni

/-- The CCM* nonce of R399 (PRESUMED order of IEEE 802.15.4: most significant octet first, assumption 7). -/
def radioNonce (src fc : Nat) : List Byte := beBytes 8 src ++ beBytes 4 fc ++ [5]

/-- A PSDU with its 4-octet FCS (Table RAD-1). -/
def withFcs (f : List Byte) : List Byte := f ++ leBytes 4 (crc32 f)

/-- The key slot of a key index. -/
def keyOfIndex (i : Nat) : Nat := if i = 1 then 3 else 4

/-- The RADIO core runs, and no test of the radio or of RADSEC has failed (Table ERR-1). -/
def radioFit (b : Block) : Bool := b.agents.radio && !b.pageFailed 0x28 && !b.pageFailed 0x29

/-- The radio runs: its domain is on, or a DARK window is open (R413). -/
def radioOn (b : Block) : Bool := (b.running 6 || b.timedDomain 6) && b.radioFit

def setRadio (f : Radio → Radio) (b : Block) : Block := { b with radio := f b.radio }

/-- Time that passes in DARK, at whose end a window may have closed. -/
def dozeOn (aon : Nat) (b : Block) : Block := b.cond (!b.powered) fun b => (b.doze aon).showDomains

/-- The RADIO core has no frame under way (R27). -/
def radioIdle (b : Block) : Bool := b.radio.queue.isEmpty && b.radio.taken.isNone && b.radio.tx.isNone

/-- The RADIO core in reset: what its software held is gone, but for the last beacon, from which MAIN counts RA01. AON keeps
the replay table, the hardware its queue and counts (assumption 53, DEDUCED). -/
def radioReset (b : Block) : Block :=
  b.setRadio fun r =>
    { replay := r.replay, new3 := r.new3, new4 := r.new4, queue := r.queue, frames := r.frames
      micRun := r.micRun, beaconAt := r.beaconAt, ra01 := r.ra01 }

/-! The core's RAM (R414). -/

def rdRam (b : Block) (a n : Nat) : List Byte := (List.range n).map fun i => Store.find ramDefault b.ramRadio (a + i)

def wrRam (a : Nat) (bs : List Byte) (b : Block) : Block :=
  { b with ramRadio := bs.zipIdx.foldl (fun m (v, i) => Store.put ramDefault (a + i) v m) b.ramRadio }

def holdValid (b : Block) : Bool :=
  leValue (b.rdRam 0x8000 4) = 0x444C4852
    && crc16 (b.rdRam 0x8000 62 ++ b.rdRam 0x8040 256) = leValue (b.rdRam 0x803E 2)

def holdMap (b : Block) : Nat := if b.holdValid then leValue (b.rdRam 0x8004 4) else 0

/-- Held batts wait for a core that this start has reloaded (R415). -/
def replayFirst (b : Block) : Bool := b.powered && b.holdValid && 2 < b.agents.tries.getD 2 0

def holdFull (b : Block) : Bool := b.holdMap % 2 ^ 30 = 2 ^ 30 - 1

/-- The hold header written anew (Table RAD-6). -/
def holdHeader (map : Nat) (b : Block) : Block :=
  let head := leBytes 4 0x444C4852 ++ leBytes 4 map ++ leBytes 4 b.radio.wantTag ++ List.replicate 50 0
  let want := leBytes 256 b.radio.wanted
  b.wrRam 0x8000 (head ++ leBytes 2 (crc16 (head ++ want)) ++ want)

/-! Receiving (R396, R398, R399, R401, R402, R405). -/

/-- The head of the queue as `RX_INFO` and `RX_BUF` show it. -/
def showRadioRx (b : Block) : Block :=
  let h := match b.radio.queue with | f :: _ => f.psdu | [] => []
  b |>.wr Reg.RAD.RX_INFO_LEN h.length |>.wrB Reg.RAD.RX_INFO_VALID (!b.radio.queue.isEmpty)
    |>.wr Reg.RAD.RX_INFO_COUNT b.radio.queue.length
    |>.each (List.range 64) fun i => wr (Reg.RAD.RX_BUF_DATA i) (leValue ((h.drop (4 * i)).take 4))

def dropFormat (b : Block) : Block := b |>.inc Reg.RAD.DROP_FORMAT |>.irq 0x28 2

/-- 100 consecutive frames of which more are bad than good (R421). -/
def mostlyBad (l : List Bool) : Bool := l.length = 100 && 50 < l.count false

/-- One more frame, good or bad; a rise of the bad ones above the good over 100 frames asks for the test (R421). -/
def countFrame (good : Bool) (b : Block) : Block :=
  let old := b.radio.frames
  let frames := (good :: old).take 100
  b |>.inc (if good then Reg.RAD.COUNTS_RX_OK else Reg.RAD.COUNTS_CRC_BAD) |>.setRadio (fun r => { r with frames })
    |>.cond (mostlyBad frames && !mostlyBad old) (·.askPlain 0x28)

/-- RADSEC opens a frame: the link frame and its source, or none where it is dropped (assumption 103, DEDUCED). -/
def radsecOpen (psdu : List Byte) (b : Block) : Block × Option (List Byte × Nat × Nat) :=
  let x := auxAt (isUni psdu)
  let src := leValue ((psdu.drop (x - 8)).take 8)
  let aux := (psdu.drop x).take 6
  let fc := leValue ((aux.drop 1).take 4)
  let idx := (aux.getD 5 0).toNat
  let ct := (psdu.drop (x + 6)).take (psdu.length - x - 10)
  let mic := psdu.drop (psdu.length - 4)
  if aux.headD 0 ≠ 0x0D#8 ∨ ¬ (idx = 1 ∨ idx = 2) then (b.inc Reg.RADSEC.BAD_SEC_COUNT, none)
  else
    match b.takeKey (keyOfIndex idx) with
    | (b, none) => (b.inc Reg.RADSEC.BAD_SEC_COUNT, none)
    | (b, some key) =>
      if b.radio.replay.any fun e => e.1 = src && fc ≤ e.2 then (b.inc Reg.RADSEC.COUNTS_REPLAY, none)
      else
        match ccmDecrypt (key.take 16) (radioNonce src fc) (psdu.take (x + 6)) ct mic with
        | some link => (b.setRadio fun r => { r with micRun := 0 }, some (link, src, fc))
        | none =>
          let n := b.radio.micRun + 1
          (b |>.inc Reg.RADSEC.COUNTS_MIC_FAIL |>.setRadio (fun r => { r with micRun := if n = 10 then 0 else n })
            |>.cond (n = 10) (·.err 0x29 0), none)

/-- The frame counter of a source stored, the least recently used of 8 replaced (R401) (assumption 104, DEDUCED). -/
def storeCounter (src fc : Nat) (b : Block) : Block :=
  b.setRadio fun r => { r with replay := ((src, fc) :: r.replay.filter fun e => e.1 != src).take 8 }

/-- A frame heard: PHR bits, PSDU with its FCS, RSSI, and the field time of the end of its SFD
(assumption 102, PRESUMED; assumption 104, DEDUCED; assumption 106, DESIGN CHOICE). A reloaded core replays its hold area before
any other reception (R415). -/
def radioReceive (modeSwitch fcs2 : Bool) (raw : List Byte) (rssi sfd : Nat) (b : Block) : Block :=
  if !b.radioOn || b.replayFirst then b
  else if modeSwitch || fcs2 || 255 < raw.length then b.dropFormat
  else
    let psdu := raw.take (raw.length - 4)
    let good := 4 ≤ raw.length && crc32 psdu = leValue (raw.drop (raw.length - 4))
    let b := b.countFrame good
    if !good then b
    else
      let fc := leValue (psdu.take 2)
      let uni := isUni psdu
      let x := auxAt uni
      if ¬ (fc = fcUni ∨ fc = fcBcast) ∨ psdu.length < x + 11 ∨ leValue ((psdu.drop 3).take 2) ≠ b.rd Reg.RAD.PAN_ID
          ∨ (¬ uni ∧ leValue ((psdu.drop 5).take 2) ≠ 0xFFFF) then b.dropFormat
      else if uni && leValue ((psdu.drop 5).take 8) ≠ b.uid then b
      else
        match b.radsecOpen psdu with
        | (b, none) => b
        | (b, some (link, src, cnt)) =>
          let t := (link.headD 0).toNat
          let base := b.rd (Reg.RAD.BASE_EXT_EXT 0) + b.rd (Reg.RAD.BASE_EXT_EXT 1) * 2 ^ 32
          if t = 0 ∨ 6 < t then (b.storeCounter src cnt).dropFormat
          else if t ≤ 4 ∧ base ≠ 0 ∧ src ≠ base then
            b |>.storeCounter src cnt |>.inc Reg.RAD.DROP_NOT_BASE |>.irq 0x28 2
          else if 8 ≤ b.radio.queue.length then b |>.inc Reg.RAD.DROP_QUEUE |>.irq 0x28 2
          else
            let f : RadioRx := { psdu := psdu.take (x + 6) ++ link, link, src, rssi, sfd }
            b |>.storeCounter src cnt |>.setRadio (fun r => { r with queue := r.queue ++ [f] }) |>.showRadioRx
              |>.irq 0x28 0 |>.cond uni (·.answerBytes (withFcs (leBytes 2 0x1002 ++ (psdu.drop 2).take 1)))

/-- `RX_POP`: the core takes the head frame. -/
def rxPop (b : Block) : Block :=
  match b.radio.queue with
  | f :: rest =>
    b |>.setRadio (fun r => { r with queue := rest, taken := some f }) |>.wr Reg.RAD.RSSI_LAST f.rssi
      |>.wr (Reg.RAD.LAST_SFD_FT 0) (f.sfd % 2 ^ 32) |>.wr (Reg.RAD.LAST_SFD_FT 1) (f.sfd / 2 ^ 32) |>.showRadioRx
  | [] => b

/-- The frame taken last, when it is of the type. -/
def takenOf (b : Block) (t : Nat) : Option RadioRx :=
  b.radio.taken.bind fun f => if b.radioOn && (f.link.headD 0).toNat = t then some f else none

def handled (b : Block) : Block := b.setRadio fun r => { r with taken := none }

/-! Transmitting (R400, R403, R404, R410, R420). -/

/-- R404: a data frame of the type may be sent in this mode. -/
def txAllowed (b : Block) (kind : Nat) : Bool :=
  match b.mode with
  | .wake | .pump | .field | .service => b.ladder < 2
  | .dark => kind = 6 && b.is Reg.RAD.DARK_TX_EN
  | .safe => kind = 6 && b.is Reg.UPD.USTAT_LOADER_ONLY
  | _ => false

/-- A QUIET_TX entry is in force (R410). -/
def quietTx (b : Block) : Bool := b.ftDrips < b.radio.quietTo

def txFinish (res : Nat) (b : Block) : Block :=
  b |>.setRadio (fun r => { r with tx := none }) |>.wr Reg.RAD.TX_STAT_RES res |>.irq 0x28 1

/-- The frame as it is sent (Table RAD-2): its security header, its ciphertext, MIC and FCS. -/
def secureFrame (key psdu : List Byte) (idx fc : Nat) : List Byte :=
  let x := auxAt (isUni psdu)
  let src := leValue ((psdu.drop (x - 8)).take 8)
  let head := psdu.take x ++ [0x0D] ++ leBytes 4 fc ++ leBytes 1 idx
  let (ct, mic) := ccmEncrypt (key.take 16) (radioNonce src fc) head (psdu.drop (x + 6))
  withFcs (head ++ ct ++ mic)

/-- A data frame of Table RAD-2 as the core leaves it in `TX_BUF`: its frame control, PAN, addresses, and a link frame of a
length that keeps the PSDU within 255 octets (R395, R398). -/
def sendable (b : Block) (psdu : List Byte) : Bool :=
  let uni := isUni psdu
  let x := auxAt uni
  (uni || leValue (psdu.take 2) = fcBcast && leValue ((psdu.drop 5).take 2) = 0xFFFF)
    && leValue ((psdu.drop 3).take 2) = b.rd Reg.RAD.PAN_ID && leValue ((psdu.drop (x - 8)).take 8) = b.uid
    && x + 7 ≤ psdu.length && psdu.length ≤ x + 6 + (if uni then 220 else 226)

/-- The part of the medium that the radio is tuned to: channel and rate, those of a LISTEN entry while it runs (R410). -/
def tuned (b : Block) : Nat × Nat :=
  match b.radio.listen with
  | some (chan, rate, until_) => if b.ftDrips < until_ then (chan, rate) else (b.rd Reg.RAD.PHY_CHAN, b.rd Reg.RAD.PHY_RATE)
  | none => (b.rd Reg.RAD.PHY_CHAN, b.rd Reg.RAD.PHY_RATE)

/-- An item for mailbox 3 (R408): its payload placed in the buffer, and queued where there is room
(assumption 106, DESIGN CHOICE). -/
def queueItem (tag ptr : Nat) (bs : List Byte) (b : Block) : Block × Bool :=
  if 4 ≤ b.radio.items.length then (b |>.inc Reg.RAD.DROP_QUEUE |>.irq 0x28 2, false)
  else
    match b.store 7 ptr bs with
    | (b, true) => (b.setRadio fun r => { r with items := r.items ++ [(tag, bs.length, ptr)] }, true)
    | (b, false) => (b, false)

/-- Mailbox 3 posted to while it is empty (R408). -/
def itemPump (b : Block) : Block :=
  match b.radio.items with
  | (tag, len, ptr) :: rest =>
    if (b.heldNotice 3).isSome || !b.powered then b
    else b |>.setRadio (fun r => { r with items := rest }) |>.mbxPost 3 2 ptr len tag
  | [] => b

/-- The result of a MSG reported (Table RAD-5); `buf` is where the core places it. -/
def txReport (kind mseq res buf : Nat) (b : Block) : Block :=
  b.cond (kind = 5) fun b => (b.queueItem 0x42 buf (leBytes 1 mseq ++ leBytes 1 res ++ leBytes 2 0)).1.itemPump

/-- A data frame sent, or refused: one that a mode does not allow waits in the core (R404)
(assumption 105, DEDUCED). -/
def txFrame (psdu : List Byte) (idx buf : Nat) (b : Block) : Block :=
  let uni := isUni psdu
  let link := psdu.drop (auxAt uni + 6)
  let kind := (link.headD 0).toNat
  let mseq := (link.getD 1 0).toNat
  let fc := b.rd Reg.RADSEC.FC_FC
  let refuse (res : Nat) (b : Block) : Block := b |>.txFinish res |>.txReport kind mseq res buf
  if b.quietTx then b |> refuse 7
  else if !b.radioOn || !b.txAllowed kind then
    b |>.setRadio (fun r => { r with waiting := r.waiting ++ [(psdu, idx, buf)] }) |> refuse 7
  else
    match if idx = 1 ∨ idx = 2 then b.takeKey (keyOfIndex idx) else (b, none) with
    | (b, none) => b |> refuse 6
    | (b, some key) =>
      if fc = 0xFFFFFFFF then b |> refuse 8 |>.verdict (Verdict.ra 4) 0x29
      else
        let t : RadioTx := { uni, key := keyOfIndex idx, kind, mseq }
        b |>.wr Reg.RADSEC.FC_FC (fc + 1) |>.setRadio (fun r => { r with tx := some t }) |>.wr Reg.RAD.TX_STAT_RES 1
          |>.answerBytes (secureFrame key psdu idx fc)

/-- `TX_GO`: the frame in `TX_BUF`; one that is no data frame of Table RAD-2 is not sent (assumption 151, DESIGN CHOICE). -/
def txGo (buf : Nat) (b : Block) : Block :=
  let psdu := ((List.range 64).flatMap fun i => leBytes 4 (b.rd (Reg.RAD.TX_BUF_DATA i))).take (b.rd Reg.RAD.TX_CTL_LEN)
  if b.radio.tx.isSome || !b.sendable psdu then b
  else b.txFrame psdu (b.rd Reg.RAD.TX_CTL_KEYIDX) buf

/-- A frame that the core builds: placed in `TX_BUF` and sent. -/
def txBuilt (psdu : List Byte) (idx buf : Nat) (b : Block) : Block :=
  b |>.each (List.range 64) (fun i => wr (Reg.RAD.TX_BUF_DATA i) (leValue ((psdu.drop (4 * i)).take 4)))
    |>.wr Reg.RAD.TX_CTL_LEN psdu.length |>.wr Reg.RAD.TX_CTL_KEYIDX idx |>.txGo buf

/-- The first frame that waits is sent once the mode allows it (R404, Table MODE-3). -/
def txWaiting (b : Block) : Block :=
  match b.radio.waiting with
  | (psdu, idx, buf) :: rest =>
    let kind := ((psdu.drop (auxAt (isUni psdu) + 6)).headD 0).toNat
    if b.radioOn && b.txAllowed kind && !b.quietTx && b.radio.tx.isNone then
      b |>.setRadio (fun r => { r with waiting := rest }) |>.txBuilt psdu idx buf
    else b
  | [] => b

/-- The end of a transmission with its one result (R106, R403); a rewrite of its key that waited is installed (R107). -/
def txEnd (res buf : Nat) (b : Block) : Block :=
  match b.radio.tx with
  | some t =>
    let r := if t.keyLost then 5 else res
    b |>.txFinish r |>.installPending t.key |>.txReport t.kind t.mseq r buf
  | none => b

/-- RADIO_TX_END: the channel was found busy `busy` times before it was clear; beyond `BACKOFFS` the attempt fails, else
the frame is sent and, when unicast, acknowledged (R403). -/
def txDone (busy buf : Nat) (b : Block) : Block := b.txEnd (if b.rd Reg.RAD.MAC_BACKOFFS < busy then 4 else 2) buf

/-- RADIO_ACK_TIMEOUT: a retry, or NOACK after the last. -/
def ackTimeout (buf : Nat) (b : Block) : Block :=
  match b.radio.tx with
  | some t =>
    if !t.uni then b
    else if t.tries < b.rd Reg.RAD.MAC_RETRIES ∧ ¬ t.keyLost then
      b.setRadio fun r => { r with tx := some { t with tries := t.tries + 1 } }
    else b.txEnd 3 buf
  | none => b

/-! Link frames (R406 to R412). -/

/-- CORR: fragments of one CSEQ joined in order; a complete message posted on mailbox 4. -/
def onCorr (buf : Nat) (b : Block) : Block :=
  match b.takenOf 1 with
  | none => b
  | some f =>
    let b := b.handled
    let cseq := (f.link.getD 1 0).toNat
    let fi := (f.link.getD 2 0).toNat
    let i := fi % 16
    let data := f.link.drop 6
    let rx := b.agents.gnss && (b.mode == .wake || b.mode == .pump || b.mode == .field || b.mode == .service)
    let so := match b.radio.corr with
      | some (s, n, bs) => if s = cseq ∧ n = i then some bs else if i = 0 then some [] else none
      | none => if i = 0 then some [] else none
    match so with
    | some bs =>
      let all := bs ++ data
      if !rx || f.link.length < 7 then b.setRadio fun r => { r with corr := none }
      else if fi.testBit 7 then
        let b := b.setRadio fun r => { r with corr := none }
        match b.store 7 buf all with
        | (b, true) => b.mbxPost 4 2 buf all.length 0x30
        | (b, false) => b
      else b.setRadio fun r => { r with corr := some (cseq, i + 1, all) }
    | none => b.setRadio fun r => { r with corr := none }

def setWanted (i : Nat) (v : Bool) (b : Block) : Block :=
  b.setRadio fun r => { r with
    wanted := if v then r.wanted ||| 2 ^ i else if r.wanted.testBit i then r.wanted - 2 ^ i else r.wanted }

/-- A complete batt in DARK (R414): into a free slot of the hold area, or discarded. -/
def holdBatt (i : Nat) (batt : List Byte) (b : Block) : Block × Bool :=
  let m := b.holdMap
  match (List.range 30).find? fun k => !m.testBit k with
  | some k =>
    (b |>.wrRam (0x8140 + k * 0x420) (leBytes 2 i ++ leBytes 2 0 ++ batt.drop 4) |>.setWanted i false
      |>.holdHeader (m + 2 ^ k) |>.setRadio fun r => { r with stored := r.listening.isSome }, true)
  | none => (b, false)

/-- BATT: a wanted fragment kept; the fifth completes the batt. -/
def onBatt (buf : Nat) (b : Block) : Block :=
  match b.takenOf 3 with
  | none => b
  | some f =>
    let b := b.handled
    let fi := (f.link.getD 1 0).toNat
    let i := leValue ((f.link.drop 2).take 2)
    let data := f.link.drop 8
    if 4 < fi ∨ i ≥ 2048 ∨ leValue ((f.link.drop 4).take 4) ≠ b.radio.wantTag ∨ ¬ b.radio.wanted.testBit i
        ∨ data.length ≠ (if fi = 4 then 208 else 212) then b
    else
      let old := match b.radio.parts.find? (·.index == i) with | some p => p.frags | none => []
      let others := b.radio.parts.filter (·.index != i)
      if old.isEmpty ∧ 4 ≤ others.length then b
      else
        let gained := !(old.any (·.1 == fi))
        let frags := if gained then (fi, data) :: old else old
        if frags.length < 5 then
          let last := if gained then b.now else match b.radio.parts.find? (·.index == i) with | some p => p.last | none => b.now
          let p : BattPart := { index := i, frags, last }
          b.setRadio fun r => { r with parts := others ++ [p] }
        else
          let b := b.setRadio fun r => { r with parts := others }
          let batt := (List.range 5).flatMap fun k => match frags.find? (·.1 == k) with | some e => e.2 | none => []
          if b.mode == .dark then (b.holdBatt i batt).1
          else
            match b.queueItem 0x40 buf (leBytes 2 i ++ leBytes 2 0 ++ leBytes 4 b.radio.wantTag ++ batt) with
            | (b, true) => b |>.setWanted i false |>.itemPump
            | (b, false) => b

/-- BATT_FRAGMENT_TIMEOUT: 30 s without a fragment. -/
def battTimeout (i : Nat) (b : Block) : Block :=
  b.setRadio fun r => { r with parts := r.parts.filter fun (p : BattPart) => !(p.index == i && p.last + 300000 ≤ b.now) }

/-- SCHED: a new VERSION replaces the table; executed marks stay with their IDs (R410). -/
def onSched (buf : Nat) (b : Block) : Block :=
  match b.takenOf 4 with
  | none => b
  | some f =>
    let b := b.handled
    let m := (f.link.getD 1 0).toNat
    let ver := leValue ((f.link.drop 2).take 2)
    if m = 0 ∨ 8 < m ∨ f.link.length < 4 + 12 * m ∨ b.radio.schedVer = some ver then b
    else
      let entry (k : Nat) : SchedEntry :=
        let e := f.link.drop (4 + 12 * k)
        let id := leValue (e.take 2)
        { id, kind := (e.getD 2 0).toNat, chan := (e.getD 3 0).toNat, start := leValue ((e.drop 4).take 4)
          dur := leValue ((e.drop 8).take 2), rate := (e.getD 10 0).toNat
          done := b.radio.sched.any fun (o : SchedEntry) => o.id == id && o.done }
      let b := b.setRadio fun r => { r with sched := (List.range m).map entry, schedVer := some ver }
      (b.queueItem 0x43 buf f.link).1.itemPump

/-- SCHED_ENTRY_START: source time has reached the entry's start. -/
def schedStart (k : Nat) (b : Block) : Block :=
  match b.radio.sched[k]? with
  | some e =>
    let due : Int := (e.start * 10000 : Nat) + b.eraOfs
    if e.done || (b.ftDrips : Int) < due || !b.radioFit then b
    else
      let b := b.setRadio fun r => { r with sched := r.sched.set k { e with done := true } }
      let dur := e.dur * 10000
      if e.kind = 2 then b.setRadio fun r => { r with quietTo := max r.quietTo (b.ftDrips + dur) }
      else if e.kind = 1 then
        let chan := if e.chan = 0xFF then b.tuned.1 else e.chan
        let b := b.setRadio fun r => { r with listen := some (chan, e.rate, b.ftDrips + dur) }
        if b.mode == .dark then
          (b.setRadio fun r => { r with listening := some (b.now + dur), stored := false }).showDomains
        else b
      else b
  | none => b

/-- A unicast data frame that the core builds (Table RAD-2). -/
def uniFrame (b : Block) (dest link : List Byte) : List Byte :=
  leBytes 2 fcUni ++ leBytes 1 b.radio.macSeq ++ leBytes 2 (b.rd Reg.RAD.PAN_ID) ++ dest ++ leBytes 8 b.uid
    ++ [0x0D, 0, 0, 0, 0, 2] ++ link

/-- It takes the next sequence number and is sent under the link key. -/
def sendUni (dest link : List Byte) (buf : Nat) (b : Block) : Block :=
  b |>.setRadio (fun r => { r with macSeq := (r.macSeq + 1) % 256 }) |>.txBuilt (b.uniFrame dest link) 2 buf

/-- A MSG to send (tag 0x51 of Table RAD-5), taken from mailbox 2 when the transmitter is free (assumption 152, DESIGN CHOICE). -/
def msgNotice (buf : Nat) (b : Block) : Block :=
  match b.heldNotice 2 with
  | some x =>
    if !b.radioOn || b.radio.tx.isSome || x.tag ≠ 0x51 then b
    else
      match b.fetch 7 x.ptr (min x.len 228) with
      | (b, some bs) => b |>.hold 2 none |>.cond (8 < bs.length) (sendUni (bs.take 8) (bs.drop 8) buf)
      | (b, none) => b.hold 2 none
  | none => b

/-- MSG: one received is posted unless it repeats the last one of its source (R409); else one that MAIN gives is sent. -/
def onMsg (buf : Nat) (b : Block) : Block :=
  match b.takenOf 5 with
  | none => b.msgNotice buf
  | some f =>
    let b := b.handled
    let mseq := (f.link.getD 1 0).toNat
    if b.radio.lastMsg.any (· == (f.src, mseq)) then b
    else
      let b := b.setRadio fun r => { r with lastMsg := (f.src, mseq) :: r.lastMsg.filter fun (e : Nat × Nat) => e.1 != f.src }
      (b.queueItem 0x41 buf (leBytes 8 f.src ++ f.link)).1.itemPump

/-- `BCN_POST`: a base time sample paired with `LAST_SFD` (R411). -/
def bcnPost (b : Block) : Block :=
  let sfd := b.rd (Reg.RAD.LAST_SFD_FT 0) + b.rd (Reg.RAD.LAST_SFD_FT 1) * 2 ^ 32
  b.timeSample false (b.rd Reg.RAD.BCN_S_S) (b.rd Reg.RAD.BCN_NS_NS) sfd

/-- TIME: a beacon; with GNSS_TIME and a small uncertainty it is a base time sample. -/
def onTime (b : Block) : Block :=
  match b.takenOf 2 with
  | none => b
  | some f =>
    let u (o n : Nat) : Nat := leValue ((f.link.drop o).take n)
    let p := max 1 (min 60 (u 3 1))
    let b := b.handled.setRadio fun r => { r with beaconAt := b.now - (b.ftDrips - f.sfd / 65536), period := p, missed := 0, ra01 := false }
    if (u 1 1).testBit 0 ∧ u 14 2 ≤ 1000 ∧ 16 ≤ f.link.length then
      { b with time := { b.time with period := p } }
        |>.wr Reg.RAD.BCN_S_S (u 6 4) |>.wr Reg.RAD.BCN_NS_NS (u 10 4) |>.wr Reg.RAD.BCN_UNC_US (u 14 2) |>.bcnPost
    else b

/-- WANTED_MAP_NOTICE: tag 0x50 taken from mailbox 2. -/
def wantedNotice (b : Block) : Block :=
  match b.heldNotice 2 with
  | some x =>
    if !b.agents.radio || x.tag ≠ 0x50 then b
    else
      match b.fetch 7 x.ptr 264 with
      | (b, some bs) =>
        let tag := leValue (bs.take 4)
        let same := decide (tag = b.radio.wantTag)
        b |>.hold 2 none |>.setRadio fun r => { r with
          wantTag := tag, wanted := leValue ((bs.drop 8).take 256), parts := if same then r.parts else [] }
      | (b, none) => b.hold 2 none
  | none => b

/-- A NEED to the base (R412), where one may be sent (R404, R410) (assumption 107, DEDUCED). -/
def sendNeed (dark : Bool) (b : Block) : Block :=
  match (List.range 2048).find? b.radio.wanted.testBit with
  | none => b
  | some lo =>
    if !b.txAllowed 6 || b.quietTx then b else
    let first := lo / 8 * 8
    let n := min 128 ((2048 - first) / 8)
    let link := leBytes 1 6 ++ leBytes 1 (bit dark + 2 * bit b.holdFull) ++ leBytes 2 first ++ leBytes 4 b.radio.wantTag
      ++ leBytes 1 n ++ leBytes 1 0 ++ leBytes n (b.radio.wanted / 2 ^ first)
    let base := leBytes 4 (b.rd (Reg.RAD.BASE_EXT_EXT 0)) ++ leBytes 4 (b.rd (Reg.RAD.BASE_EXT_EXT 1))
    b |>.setRadio (fun r => { r with lastNeed := some b.now }) |>.sendUni base link 0

/-- NEED in powered modes, no more often than every `NEED_PER` s. -/
def need (b : Block) : Block :=
  let due := match b.radio.lastNeed with
    | some t => decide (t + 10000 * b.rd Reg.RAD.DARK_NEED_PER ≤ b.now)
    | none => true
  b.cond (b.powered && b.radioOn && due && b.radio.tx.isNone) (sendNeed false)

/-! DARK (R413, R415). -/

/-- BEACON_WINDOW: around the expected beacon, or after 3 misses one of a full period every 15 minutes. -/
def beaconWindow (b : Block) : Block :=
  if b.mode != .dark || !b.radioFit then b
  else
    let r := b.radio
    let win := 10 * b.rd Reg.RAD.DARK_BCN_WIN
    if r.missed < 3 then
      let expect := r.beaconAt + (r.missed + 1) * r.period * 10000
      if b.now + win / 2 < expect then b
      else (b.setRadio fun r => { r with window := some (b.now + win), missed := r.missed + 1 }).showDomains
    else if r.searchAt.any fun t => b.now < t + 9000000 then b
    else (b.setRadio fun r => { r with
      window := some (b.now + 10000 * r.period), searchAt := some b.now }).showDomains

/-- LISTEN_WINDOW_END: a NEED with DARK if a batt was stored. -/
def listenEnd (b : Block) : Block :=
  match b.radio.listening with
  | some t =>
    if b.mode != .dark || b.now < t then b
    else
      b |>.cond (b.radio.stored && b.is Reg.RAD.DARK_TX_EN) (sendNeed true)
        |>.setRadio (fun r => { r with listening := none, stored := false, listen := none })
        |>.showDomains
  | none => b

/-- HOLD_AREA_REPLAY: the next held batt posted on mailbox 3 while it is empty; after the last the magic is cleared
(assumption 106, DESIGN CHOICE). -/
def holdReplay (buf : Nat) (b : Block) : Block :=
  if !b.powered || !b.radioOn || !b.holdValid then b
  else
    let m := b.holdMap
    match (List.range 30).find? m.testBit with
    | none => b.wrRam 0x8000 (leBytes 4 0)
    | some k =>
      if (b.heldNotice 3).isSome then b
      else
        let slot := b.rdRam (0x8140 + k * 0x420) 1056
        let batt := leBytes 2 0x5442 ++ slot.take 2 ++ slot.drop 4
        let tag := b.rdRam 0x8008 4
        match b.store 7 buf (slot.take 2 ++ leBytes 2 0 ++ tag ++ batt) with
        | (b, true) =>
          let b := b.mbxPost 3 2 buf 1064 0x40
          let m := m - 2 ^ k
          if m = 0 then b.wrRam 0x8000 (leBytes 4 0)
          else
            let head := leBytes 4 0x444C4852 ++ leBytes 4 m ++ b.rdRam 0x8008 54
            b.wrRam 0x8000 (head ++ leBytes 2 (crc16 (head ++ b.rdRam 0x8040 256)))
        | (b, false) => b

/-- The pool edge's part: mailbox 3, frames that wait, and RA01 after 24 h without a beacon (Table RAD-9) (assumption 107, DEDUCED). -/
def radioPool (b : Block) : Block :=
  let b := (b.setRadio fun r => { r with listen := r.listen.filter fun e => b.ftDrips < e.2.2 }).itemPump.txWaiting
  if !b.radio.ra01 ∧ b.radio.beaconAt + 864000000 ≤ b.now then
    b |>.setRadio (fun r => { r with ra01 := true }) |>.verdict (Verdict.ra 1) 0x32
  else b

end Block

/-- TX_GO (R403); `buf` is where the core places a report. -/
def execTxGo (buf : Word) (s : State) : Host.Outcome State Fault Refusal := s.run (Block.txGo buf.toNat)

/-- RADIO_ACK_TIMEOUT (R403); `buf` is where the core places a report. -/
def execRadioAckTimeout (buf : Word) (s : State) : Host.Outcome State Fault Refusal := s.run (Block.ackTimeout buf.toNat)

/-- RADIO_TX_END (R403): how often CSMA-CA found the channel busy before it was clear. -/
def execRadioTxEnd (busy : Fin 8) (buf : Word) (s : State) : Host.Outcome State Fault Refusal :=
  s.run (Block.txDone busy buf.toNat)

/-- RADIO_FRAME_RECEIVE (R396, R398, R399, R401, R402, R405): AON cycles since the last event in DARK, PHR bits, PSDU,
RSSI, and SYS cycle of the SFD. -/
def execRadioFrameReceive (aon : Nat) (modeSwitch fcs2 : Bool) (psdu : List Byte) (rssi : Byte) (cyc : BitVec 14)
    (s : State) : Host.Outcome State Fault Refusal :=
  s.run fun b =>
    let b := b.dozeOn aon
    b.radioReceive modeSwitch fcs2 psdu rssi.toNat (b.ftAt (min 16367 cyc.toNat))

/-- RX_POP (R405). -/
def execRxPop (s : State) : Host.Outcome State Fault Refusal := s.run Block.rxPop

/-- BCN_POST (R411). -/
def execBcnPost (s : State) : Host.Outcome State Fault Refusal := s.run Block.bcnPost

/-- CORR (R406). -/
def execCorr (buf : Word) (s : State) : Host.Outcome State Fault Refusal := s.run (Block.onCorr buf.toNat)

/-- BATT (R407). -/
def execBatt (buf : Word) (s : State) : Host.Outcome State Fault Refusal := s.run (Block.onBatt buf.toNat)

/-- BATT_FRAGMENT_TIMEOUT (R407). -/
def execBattFragmentTimeout (i : BitVec 11) (s : State) : Host.Outcome State Fault Refusal :=
  s.run (Block.battTimeout i.toNat)

/-- SCHED (R410). -/
def execSched (buf : Word) (s : State) : Host.Outcome State Fault Refusal := s.run (Block.onSched buf.toNat)

/-- SCHED_ENTRY_START (R410): entry `k` of the table in force. -/
def execSchedEntryStart (aon : Nat) (k : Fin 8) (s : State) : Host.Outcome State Fault Refusal :=
  s.run fun b => b |>.dozeOn aon |>.schedStart k

/-- MSG (R409). -/
def execMsg (buf : Word) (s : State) : Host.Outcome State Fault Refusal := s.run (Block.onMsg buf.toNat)

/-- TIME (R411). -/
def execTime (s : State) : Host.Outcome State Fault Refusal := s.run Block.onTime

/-- WANTED_MAP_NOTICE (R407). -/
def execWantedMapNotice (s : State) : Host.Outcome State Fault Refusal := s.run Block.wantedNotice

/-- NEED (R412). -/
def execNeed (s : State) : Host.Outcome State Fault Refusal := s.run Block.need

/-- BEACON_WINDOW (R413). -/
def execBeaconWindow (aon : Nat) (s : State) : Host.Outcome State Fault Refusal :=
  s.run fun b => b |>.dozeOn aon |>.beaconWindow

/-- LISTEN_WINDOW_END (R413). -/
def execListenWindowEnd (aon : Nat) (s : State) : Host.Outcome State Fault Refusal :=
  s.run fun b => b |>.dozeOn aon |>.listenEnd

/-- HOLD_AREA_REPLAY (R415). -/
def execHoldAreaReplay (buf : Word) (s : State) : Host.Outcome State Fault Refusal := s.run (Block.holdReplay buf.toNat)

end Sys2Proof.Machine
end

