-- ==== Sys2Proof/Machine/Gnss.lean ====
section
/-! DEFINITION. The receiver (08_gnss_receiver.md): antennas, notches, starts, acquisition, tracking, the position,
heading and baseline solution, the record, and corrections. -/

namespace Sys2Proof.Machine
open Crypto
namespace Block

/-- R224: who may write a register of the GNSS core. -/
def coreMay (a : Actor) (b : Block) : Bool :=
  a == .gnss || ((a == .main || a == .debug) && b.mode == .service && b.level = 2)

def gnssRuns (b : Block) : Bool := rxMode b.mode && b.agents.gnss && b.running 2 && b.running 3

/-! Values in effect where a bound has moved past the stored one (R128). -/

def shortMa (b : Block) : Nat := max (b.rd Reg.GFE.DET_SHORT_MA) (b.rd Reg.GFE.DET_OPEN_MA + 5)
def jamHigh (b : Block) : Nat := max (b.rd Reg.GFE.JAMTHR_HIGH) (b.rd Reg.GFE.JAMTHR_WARN)
def dgnssAge (b : Block) : Nat := max (b.rd Reg.GPVT.RTK_DGNSS_AGE) (b.rd Reg.GPVT.RTK_RTK_AGE)
def headBeta (b : Block) : Nat := min (b.rd Reg.GBASE.HEAD_BETA) (b.rd Reg.GBASE.HEAD_ALPHA)

/-! Antennas (R226 to R228). -/

def setDet (a d : Nat) (b : Block) : Block :=
  b |>.wr (Reg.GFE.ANT_STAT_DET a) d |>.cond (d != b.antDet a) (·.irq 0x14 2)

/-- The class of an average current. -/
def antClass (b : Block) (a ma : Nat) : Nat :=
  if b.is (Reg.GFE.ANT_CFG_FORCE_PRESENT a) then 1
  else if ma < b.rd Reg.GFE.DET_OPEN_MA then 2 else if b.shortMa < ma then 3 else 1

def antAUse (b : Block) : Bool := b.antDet 0 = 1 && !b.gnss.absent.getD 0 false

/-- ANT_A is open: the receiver acquires nothing (R226) (assumption 142, DEDUCED). -/
def noneAcquired (b : Block) : Bool := b.antDet 0 = 2 || b.gnss.absent.getD 0 false

/-- ANT_A found open (R226). -/
def openA (b : Block) : Block := b |>.err 0x14 2 |>.verdict (Verdict.gn 1) 0x14

/-- Detection at a receiver start (R226): an antenna without bias draws no current. -/
def detect (ma : List Nat) (b : Block) : Block :=
  let b := b.each [0, 1] fun a b =>
    let m := if b.is (Reg.GFE.ANT_CFG_BIAS_EN a) then ma.getD a 0 else 0
    let d := b.antClass a m
    { b with gnss := { b.gnss with
        absent := b.gnss.absent.set a (d == 2), goodPools := b.gnss.goodPools.set a 0
        shortAt := b.gnss.shortAt.set a (if d = 3 then some b.now else none) } }
      |>.wr (Reg.GFE.ANT_STAT_BIAS_ON a) (b.rd (Reg.GFE.ANT_CFG_BIAS_EN a)) |>.wr (Reg.GFE.ANT_STAT_I_MA a) (min 255 m)
      |>.setDet a d
  b |>.cond (b.antDet 0 = 2) openA |>.cond (b.antDet 1 = 2 && !b.cal.ant.isEmpty) (·.verdict (Verdict.gn 7) 0x14)

/-- R227: the limit trips and the bias switch opens. -/
def biasShort (a : Nat) (b : Block) : Block :=
  if b.is (Reg.GFE.ANT_STAT_BIAS_ON a) then
    { b with gnss := { b.gnss with shortAt := b.gnss.shortAt.set a (some b.now) } }
      |>.wr (Reg.GFE.ANT_STAT_BIAS_ON a) 0 |>.wr (Reg.GFE.ANT_STAT_I_MA a) 0 |>.setDet a 3 |>.err 0x14 a
  else b

/-- R227: a retry 10 s after the trip, at which the current `ma` is drawn; above 60 mA the limit trips again
(assumption 84, DEDUCED). -/
def biasRetry (a ma : Nat) (b : Block) : Block :=
  match b.gnss.shortAt.getD a none with
  | some t =>
    if b.now < t + 100000 || !b.is (Reg.GFE.ANT_CFG_BIAS_EN a) || !b.running 2 then b
    else
      let b := b |>.wr (Reg.GFE.ANT_STAT_BIAS_ON a) 1
      if 60 < ma then b.biasShort a
      else
        let d := b.antClass a ma
        { b with gnss := { b.gnss with shortAt := b.gnss.shortAt.set a (if d = 3 then some b.now else none) } }
          |>.wr (Reg.GFE.ANT_STAT_I_MA a) ma |>.setDet a d
  | none => b

/-- `BIAS_EN` written while the receiver runs moves the switch (R226); a tripped one closes at its retry only (R227). -/
def biasSwitch (a : Nat) (b : Block) : Block :=
  let on := b.is (Reg.GFE.ANT_CFG_BIAS_EN a)
  b.cond (b.running 2 && rxMode b.mode && !b.gnss.startDue && (!on || b.antDet a != 3))
    (wrB (Reg.GFE.ANT_STAT_BIAS_ON a) on)

/-- The pool's current (R226, R228): a present antenna may be found open or short; pools within the limits count. -/
def biasPool (a ma : Nat) (b : Block) : Block :=
  let on := b.is (Reg.GFE.ANT_STAT_BIAS_ON a)
  if !on && b.antDet a = 3 then b
  else
    let ma := if on then ma else 0
    let d := b.antClass a ma
    let good := if d = 1 then b.gnss.goodPools.getD a 0 + 1 else 0
    let b := { b with gnss := { b.gnss with goodPools := b.gnss.goodPools.set a good } }
      |>.wr (Reg.GFE.ANT_STAT_I_MA a) (min 255 ma)
    if b.antDet a = 1 ∧ d ≠ 1 then
      let at_ := if d = 3 then some b.now else none
      { b with gnss := { b.gnss with shortAt := b.gnss.shortAt.set a at_ } } |>.setDet a d
        |>.cond (a = 0 && d = 2) openA
    else b

/-- R228 (assumption 84, DEDUCED): with the antenna back, the class that its loss had made LASTING ends as a RETEST ends
one (R493) (assumption 161, DESIGN CHOICE). -/
def reclassify (a : Nat) (b : Block) : Block :=
  if b.antDet a = 2 ∧ ¬ b.gnss.absent.getD a false ∧ 10 ≤ b.gnss.goodPools.getD a 0 then
    b |>.setDet a 1 |>.cond (a = 0) fun b => b |>.freeClasses (· == ⟨0x14, 2, 0⟩) |>.showLasting
  else b

/-! Notches (R229). -/

/-- FREQ and CUR as signed 24-bit numbers. -/
def notchFreq (b : Block) (k : Nat) : Int := b.rdI (Reg.GNOTCH.NSTAT_CUR k)

def notchGated (b : Block) (k : Nat) : Bool := !b.running 2 || (4 ≤ k && 4 ≤ b.ladder)

/-- A notch follows its mode: FIXED engages at its centre, OFF releases. -/
def notchApply (k : Nat) (b : Block) : Block :=
  let m := b.rd (Reg.GNOTCH.CFG_MODE k)
  if m = 2 ∧ ¬ b.notchGated k then
    b |>.wr (Reg.GNOTCH.NSTAT_CUR k) (b.rd (Reg.GNOTCH.CFG_FREQ k)) |>.wr (Reg.GNOTCH.NSTAT_ACTIVE k) 1
      |>.wr (Reg.GNOTCH.NSTAT_CONV k) 1 |>.cond (!b.is (Reg.GNOTCH.NSTAT_ACTIVE k)) (·.irq 0x15 k)
  else b |>.wr (Reg.GNOTCH.NSTAT_ACTIVE k) 0 |>.wr (Reg.GNOTCH.NSTAT_CONV k) 0

/-- The strongest of the peaks, each a frequency from L1 in Hz and a level in dB above the noise floor. -/
def strongest (peaks : List (Int × Nat)) : Option (Int × Nat) :=
  peaks.foldl (fun a p => match a with | some q => if q.2 < p.2 then some p else a | none => some p) none

/-- The peaks on the antenna of notch `k` that it may engage on: in the band, high enough, and 100 kHz from every other
engaged notch, which is also to say that no other holds them. -/
def freePeaks (b : Block) (k : Nat) (peaks : List (Int × Nat)) : List (Int × Nat) :=
  let others := (List.range 8).filter fun j => j / 4 = k / 4 && j != k && b.is (Reg.GNOTCH.NSTAT_ACTIVE j)
  peaks.filter fun p => p.1.natAbs ≤ 8184000 && b.rd Reg.GNOTCH.THR_THR ≤ p.2
    && others.all fun j => 100000 ≤ (p.1 - b.notchFreq j).natAbs

/-- Since when the peak of an engaged notch has been below the threshold. -/
def setLow (k : Nat) (t : Option Nat) (b : Block) : Block :=
  { b with gnss := { b.gnss with notchLow := b.gnss.notchLow.set k t } }

/-- An AUTO notch engages on the strongest of the peaks that qualify; an engaged one tracks its peak, the strongest within
100 kHz of its centre, and keeps the drip at which that fell below the threshold (assumption 84, DEDUCED). -/
def notchEngage (k : Nat) (peaks : List (Int × Nat)) (b : Block) : Block :=
  if b.rd (Reg.GNOTCH.CFG_MODE k) ≠ 1 ∨ b.notchGated k then b
  else if b.is (Reg.GNOTCH.NSTAT_ACTIVE k) then
    match strongest ((b.freePeaks k peaks).filter fun p => decide ((p.1 - b.notchFreq k).natAbs < 100000)) with
    | some p => b |>.setLow k none |>.wrI (Reg.GNOTCH.NSTAT_CUR k) p.1
    | none => b.setLow k (some ((b.gnss.notchLow.getD k none).getD b.now))
  else
    match strongest (b.freePeaks k peaks) with
    | some p =>
      { b with gnss := { b.gnss with notchAt := b.gnss.notchAt.set k b.now, notchLow := b.gnss.notchLow.set k none } }
        |>.wrI (Reg.GNOTCH.NSTAT_CUR k) p.1 |>.wr (Reg.GNOTCH.NSTAT_ACTIVE k) 1 |>.wr (Reg.GNOTCH.NSTAT_CONV k) 0
        |>.irq 0x15 k
    | none => b

/-- An AUTO notch releases when its peak has stayed below the threshold for 10,000 drips. -/
def notchRelease (k : Nat) (b : Block) : Block :=
  if b.rd (Reg.GNOTCH.CFG_MODE k) = 1 ∧ b.is (Reg.GNOTCH.NSTAT_ACTIVE k)
      ∧ (b.gnss.notchLow.getD k none).any (fun t => t + 10000 ≤ b.now) then
    b |>.wr (Reg.GNOTCH.NSTAT_ACTIVE k) 0 |>.wr (Reg.GNOTCH.NSTAT_CONV k) 0
  else b

/-- An engaged notch has converged 200 drips after the onset of its peak. -/
def notchConverge (b : Block) : Block :=
  b.each (List.range 8) fun k b =>
    b.cond (b.is (Reg.GNOTCH.NSTAT_ACTIVE k) && b.gnss.notchAt.getD k 0 + 200 ≤ b.now) (wr (Reg.GNOTCH.NSTAT_CONV k) 1)

/-! The jamming scale (R230). -/

def jamPool (a : Nat) (power : Int) (b : Block) : Block :=
  let lvl := (clampInt 0 255 (power - b.gnss.floor.getD a 0 - 4 * (b.rd (Reg.GFE.ANT_CFG_ANT_GAIN a) : Int))).toNat
  let old := b.rd (Reg.GFE.JAM_LVL a)
  let high := b.jamHigh
  let n := if high ≤ lvl then b.gnss.jamPools.getD a 0 + 1 else 0
  { b with gnss := { b.gnss with jamPools := b.gnss.jamPools.set a n } }
    |>.wr (Reg.GFE.JAM_LVL a) lvl |>.wr (Reg.GFE.JAM_PEAK a) (max lvl (b.rd (Reg.GFE.JAM_PEAK a)))
    |>.cond (b.rd Reg.GFE.JAMTHR_WARN ≤ lvl) (·.irq 0x14 0)
    |>.cond (high ≤ lvl && old < high) (fun b => b |>.irq 0x14 1 |>.err 0x14 (3 + a))

/-- The end of 100 consecutive pools at or above `HIGH`. -/
def jamStay (a : Nat) (b : Block) : Block :=
  let n := b.gnss.jamPools.getD a 0
  if 100 ≤ n then
    { b with gnss := { b.gnss with jamPools := b.gnss.jamPools.set a (n - 100) } } |>.err 0x14 (5 + a)
  else b

/-- What the front end shows of a pool, and GN04 (a cold start without a fix after 35 s) (assumption 85, DEDUCED). -/
def gnssPool (f : Front) (b : Block) : Block :=
  if !b.running 2 || !rxMode b.mode then b
  else
    let b := b.each [0, 1] fun a b =>
      b |>.biasPool a (f.ma.getD a 0) |>.jamPool a (f.power.getD a 0) |>.wr (Reg.GFE.AGC_GAIN a) (f.agc.getD a 0)
    if b.gnss.kind = 3 ∧ ¬ b.gnss.fixed ∧ b.gnss.startedAt + 350000 ≤ b.now then
      let n := b.gnss.coldFails + 1
      { b with gnss := { b.gnss with fixed := true, coldFails := if 2 ≤ n then 0 else n } }
        |>.cond (2 ≤ n) (·.verdict (Verdict.gn 4) 0x31)
    else b

/-! Starts (R231). -/

/-- HOT, WARM or COLD: `fresh` lists the satellites whose ephemeris is less than 4 h old, and whether each is visible, which
only HOT asks (assumption 90, DEDUCED). -/
def startKind (b : Block) (fresh : List (Fin 32 × Bool)) : Nat :=
  let held := fresh.filter fun p => b.gnss.eph.any (·.1 == p.1.val + 1)
  let count (l : List (Fin 32 × Bool)) : Nat := (l.map (·.1)).eraseDups.length
  let u (o : Nat) : Nat := leValue ((b.gnss.apos.drop o).take 4)
  if count held < 5 ∨ b.gnss.apos.length < 28 then 3
  else if 5 ≤ count (held.filter (·.2)) ∧ u 12 ≤ 10000 ∧ u 24 ≤ 2000 then 1
  else if u 12 ≤ 300000 ∨ u 24 ≤ 60000 then 2 else 3

/-- A receiver start (R223, R226, R230, R231, R235). -/
def gnssStart (f : Front) (fresh : List (Fin 32 × Bool)) (b : Block) : Block :=
  if !b.gnssRuns || !b.gnss.startDue then b
  else
    let kind := b.startKind fresh
    let g : Gnss := { b.gnss with
      startDue := false, kind, startedAt := b.now, fixed := false, floor := f.floor, jamPools := [0, 0]
      chans := b.gnss.chans.map fun k => { slip := k.slip || k.state = 3 }
      search := none, edged := false, zRun := 0, noZ := 0, headValid := false, headSet := false
      blFixed := false, outTol := 0, coldJob := none }
    let b := { b with gnss := g } |>.each (List.range 48) (fun c => wr (Reg.GTRK.CFG_EN c) 0)
      |>.wr Reg.GACQ.SSTAT_BUSY 0 |>.detect f.ma |>.each (List.range 8) notchApply
    let b := { b with gnss := { b.gnss with coldDue := kind = 3 && !b.noneAcquired } }
    b.each [0, 1] fun a => wr (Reg.GFE.AGC_GAIN a) (f.agc.getD a 0)

/-! Assistance (R232). -/

/-- A notice of tag 0x10, 0x11 or 0x12 taken from mailbox 0. -/
def assist (b : Block) : Block :=
  match b.heldNotice 0 with
  | some x =>
    if !b.agents.gnss || !(x.tag = 0x10 || x.tag = 0x11 || x.tag = 0x12) then b
    else
      match b.fetch 6 x.ptr (if x.tag = 0x10 then 100 else if x.tag = 0x11 then 36 else 28) with
      | (b, some bs) =>
        let id := (bs.headD 0).toNat
        let put (l : List (Nat × List Byte)) : List (Nat × List Byte) := (id, bs) :: l.filter fun e => e.1 != id
        let g := b.gnss
        let g : Gnss := if x.tag = 0x10 then { g with eph := put g.eph }
          else if x.tag = 0x11 then { g with alm := put g.alm } else { g with apos := bs }
        { b with gnss := g } |>.hold 0 none
      | (b, none) => b.hold 0 none
  | none => b

/-- R232: decoded data posted in pools 4 to 9 while mailbox 1 is empty; what a record overwrote goes first
(assumption 89, DEDUCED). -/
def navPost (page : Bool) (ptr : Nat) (data : List Byte) (b : Block) : Block :=
  if !b.gnssRuns || b.pool < 4 || (b.heldNotice 1).isSome then b
  else
    let n := if page then 36 else 100
    let bs := padTo n data
    let id := (bs.headD 0).toNat
    let put (l : List (Nat × List Byte)) : List (Nat × List Byte) := (id, bs) :: l.filter fun e => e.1 != id
    let g := b.gnss
    let g : Gnss := if page then { g with alm := put g.alm } else { g with eph := put g.eph }
    let b := { b with gnss := g }
    match b.gnss.repost with
    | some (p, len, tag) => { b with gnss := { b.gnss with repost := none } } |>.mbxPost 1 1 p len tag
    | none =>
      match b.store 6 ptr bs with
      | (b, true) => b.mbxPost 1 1 ptr n (if page then 0x21 else 0x20)
      | (b, false) => b

/-! Acquisition (R233 to R236). -/

/-- `GACQ.CMD.START`: the search runs from the next ms boundary (assumption 88, DEDUCED). -/
def acqStart (a : Actor) (b : Block) : Block :=
  if !b.coreMay a || !b.running 3 || b.gnss.search.isSome || b.noneAcquired then b
  else
    let lanes := (List.range 8).filter fun l => b.is (Reg.GACQ.LANE_EN l)
    let ms := (b.rd Reg.GACQ.SEARCH_TCOH + 1) * (b.rd Reg.GACQ.SEARCH_NCOH + 1)
    let s : Search := { lanes, thr := b.rd Reg.GACQ.SEARCH_THR, endAt := b.now + (10 - b.drip % 10) + 10 * ms }
    { b with gnss := { b.gnss with search := some s } } |>.wr Reg.GACQ.SSTAT_BUSY 1 |>.wr Reg.GACQ.SSTAT_RES 0

/-- The satellites of a list of PRN (minus 1) and elevation that stand at or above the mask (R240). -/
def aboveMask (b : Block) (seen : List (Fin 32 × Fin 91)) : List Nat :=
  ((seen.filter fun s => b.rd Reg.GPVT.CFG_MASK ≤ s.2.val).map (·.1.val)).eraseDups

/-- The channel of `n` channels from `lo` on that holds PRN `p` (minus 1) in PLL, as latched. -/
def pllChan (b : Block) (lo p : Nat) : Option Nat :=
  (List.range 24).map (· + lo) |>.find? fun c =>
    b.rd (Reg.GTRK.CSTAT_STATE c) = 3 && b.rd (Reg.GTRK.CFG_PRN c) = p

/-- The bank set for ANT_B (R234): a lane for each satellite that ANT_A tracks above the mask and ANT_B does not, at ANT_A's
Doppler, eight in a pass of 4 ms. -/
def aidLanes (seen : List (Fin 32 × Fin 91)) (b : Block) : Block :=
  let due := ((b.aboveMask seen).filterMap fun p => (b.pllChan 0 p).map fun c => (p, c)).filter
    fun s => (b.pllChan 24 s.1).isNone
  b |>.each (List.range 8) (fun l b => match due[l]? with
      | some (p, c) => b |>.wr (Reg.GACQ.LANE_PRN l) p |>.wr (Reg.GACQ.LANE_ANT l) 1 |>.wr (Reg.GACQ.LANE_EN l) 1
          |>.wr (Reg.GACQ.LANE_DOPP l) (b.rd (Reg.GTRK.CSTAT_DOPP c))
      | none => b.wr (Reg.GACQ.LANE_EN l) 0)
    |>.wr Reg.GACQ.SEARCH_TCOH 0 |>.wr Reg.GACQ.SEARCH_NCOH 3

/-- A search begun by the GNSS core for ANT_B, which it aids by ANT_A (R234), or on the lanes as they stand. -/
def acqBegin (a : Actor) (aid : Option (List (Fin 32 × Fin 91))) (b : Block) : Block :=
  match aid with
  | some seen =>
    if a != .gnss || !b.gnssRuns || !b.antBUse || b.gnss.search.isSome || b.noneAcquired then b
    else b |>.aidLanes seen |>.acqStart a
  | none => b.acqStart a

def acqAbort (a : Actor) (b : Block) : Block :=
  if b.coreMay a && b.gnss.search.isSome then
    { b with gnss := { b.gnss with search := none } } |>.wr Reg.GACQ.SSTAT_BUSY 0 |>.wr Reg.GACQ.SSTAT_RES 2
  else b

/-- The search ends: best code bin and ratio of each lane. -/
def acqEnd (found : List (BitVec 11 × Byte)) (b : Block) : Block :=
  match b.gnss.search with
  | some s =>
    if b.now < s.endAt then b
    else
      { b with gnss := { b.gnss with search := none } } |>.wr Reg.GACQ.SSTAT_BUSY 0 |>.wr Reg.GACQ.SSTAT_RES 1
        |>.each s.lanes fun l b =>
          let (code, ratio) := found.getD l (0, 0)
          b |>.wr (Reg.GACQ.RES_CODE l) code.toNat |>.wr (Reg.GACQ.RES_RATIO l) ratio.toNat
            |>.wrB (Reg.GACQ.RES_DETECT l) (s.thr ≤ ratio.toNat)
  | none => b

/-- Samples that a snapshot slot holds, by its header; none where there is no good header. -/
def slotSamples (h : List Byte) : Option Nat :=
  if leValue (h.take 4) = 0x50414E53 ∧ crc16 (h.take 62) = leValue (h.drop 62) then some (leValue ((h.drop 12).take 4))
  else none

/-- The job that the registers ask for (R235). -/
def fftAsked (b : Block) : FftJob :=
  { src := b.rd Reg.GFFT.SRC_ADDR, dst := b.rd Reg.GFFT.DST_ADDR, mask := b.rd Reg.GFFT.PRNMASK_MASK
    k := b.rd Reg.GFFT.SPAN_K, blocks := b.rd Reg.GFFT.SPAN_BLOCKS + 1, thr := b.rd Reg.GFFT.SPAN_THR }

/-- A job begins on the blocks that its slot stores, of which it reads no more than it asks for (R235, R236). -/
def fftRun (j : FftJob) (b : Block) : Block :=
  if b.noneAcquired then b
  else if !b.allowedRange 1 j.src 64 0 || !b.allowedRange 1 j.dst 512 1 then b.wr Reg.GFFT.JSTAT_RES 4
  else
    let (b, h) := b.fetch 2 j.src 64
    let blocks := match h.bind slotSamples with | some n => min j.blocks (n / 32736) | none => 0
    if blocks = 0 then b.wr Reg.GFFT.JSTAT_RES 5
    else if !b.allowedRange 1 j.src (64 + 32736 * blocks) 0 then b.wr Reg.GFFT.JSTAT_RES 4
    else { b with gnss := { b.gnss with fft := some { j with blocks } } } |>.wr Reg.GFFT.JSTAT_RES 1

/-- A cold start's job is due, or the capture that it needs (R236). -/
def coldAhead (b : Block) : Bool := b.gnss.coldDue || b.gnss.grabs.any (·.cold) || b.gnss.coldJob.isSome

/-- A job that waited for a cold start's begins once the engine is free (R236) (assumption 160, DESIGN CHOICE). -/
def heldBegin (b : Block) : Block :=
  match b.gnss.fftHeld with
  | some j =>
    if b.gnss.fft.isSome || b.coldAhead then b
    else { b with gnss := { b.gnss with fftHeld := none } }.fftRun j
  | none => b

/-- A START (R236): ignored while a job runs; held while a cold start's job comes first (assumption 160, DESIGN CHOICE). -/
def fftBegin (b : Block) : Block :=
  if b.gnss.fft.isSome then b.err 0x17 0
  else if b.coldAhead then { b with gnss := { b.gnss with fftHeld := some b.fftAsked } }
  else b.fftRun b.fftAsked

/-- The cold start's job (R235, R236), as soon as the engine is free, and then one that it kept waiting. -/
def coldBegin (b : Block) : Block :=
  match b.gnss.coldJob with
  | some (base, blocks) =>
    if b.gnss.fft.isSome then b
    else
      let b := { b with gnss := { b.gnss with coldJob := none } } |>.wr Reg.GFFT.SRC_ADDR base
        |>.wr Reg.GFFT.PRNMASK_MASK 0xFFFFFFFF |>.wr Reg.GFFT.SPAN_K 20 |>.wr Reg.GFFT.SPAN_BLOCKS (blocks - 1)
      b |>.fftRun b.fftAsked |>.heldBegin
  | none => b.heldBegin

/-- START of a search job (R235, R236) (assumption 88, DEDUCED). -/
def fftStart (a : Actor) (b : Block) : Block := b.cond (b.coreMay a && b.running 3) fftBegin

/-- ABORT ends the job that runs, or one that is held (R236) (assumption 160, DESIGN CHOICE). -/
def fftAbort (a : Actor) (b : Block) : Block :=
  if !b.coreMay a then b
  else if b.gnss.fft.isSome then { b with gnss := { b.gnss with fft := none } } |>.wr Reg.GFFT.JSTAT_RES 3 |>.coldBegin
  else if b.gnss.fftHeld.isSome then { b with gnss := { b.gnss with fftHeld := none } } |>.wr Reg.GFFT.JSTAT_RES 3
  else b

/-- The job ends with its result table (Table GNSS-3): ratio, code phase, Doppler and noise power by PRN. JOB_END is raised
with DONE alone (assumption 160, DESIGN CHOICE). -/
def fftEnd (found : List (Nat × Nat × Int × Nat)) (b : Block) : Block :=
  match b.gnss.fft with
  | some j =>
    let entry (p : Nat) : List Byte :=
      if j.mask.testBit p then
        let (r, c, d, n) := found.getD p (0, 0, 0, 0)
        leBytes 1 (p + 1) ++ leBytes 1 (bit (decide (j.thr ≤ r))) ++ leBytes 2 r ++ leBytes 4 (c % 261888)
          ++ leBytes 4 (unsignedOf 32 d) ++ leBytes 4 n
      else leBytes 1 (p + 1) ++ leBytes 15 2
    let prns := ((List.range 32).filter j.mask.testBit).length
    let b := { b with gnss := { b.gnss with fft := none } }
    match b.store 2 j.dst ((List.range 32).flatMap entry) with
    | (b, true) =>
      { b with gnss := { b.gnss with jobDone := some j.src } } |>.wr Reg.GFFT.JSTAT_RES 2 |>.wr Reg.GFFT.XFORMS_COUNT (j.blocks * (2 + prns * (2 * j.k + 1))) |>.irq 0x17 0
        |>.coldBegin
    | (b, false) => b |>.wr Reg.GFFT.JSTAT_RES 4 |>.coldBegin
  | none => b

/-! Tracking (R237 to R239). -/

def setChan (c : Nat) (f : Chan → Chan) (b : Block) : Block :=
  { b with gnss := { b.gnss with chans := b.gnss.chans.set c (f (b.gnss.chans.getD c {})) } }

def chan (b : Block) (c : Nat) : Chan := b.gnss.chans.getD c {}

/-- `CFG` of a channel written by the GNSS core: `EN` with a new detection starts pull-in, a clear leaves the channel idle; a
channel that tracks the satellite goes on, and one that acquires nothing is idle (R226). The 24 channels of ANT_B are gated
while it is shed (R228). -/
def chanConf (c : Nat) (prn sp : Nat) (en : Bool) (dopp : Nat) (b : Block) : Block :=
  let s := (b.chan c).state
  let tracks := b.is (Reg.GTRK.CFG_EN c) && b.rd (Reg.GTRK.CFG_PRN c) = prn && s != 0 && s != 5
  let b := b |>.wr (Reg.GTRK.CFG_PRN c) prn |>.wr (Reg.GTRK.CFG_SP c) sp |>.wrB (Reg.GTRK.CFG_EN c) en
    |>.wr (Reg.GTRK.CFG_DOPP c) dopp
  if tracks && en then b
  else if !en || (24 ≤ c && 4 ≤ b.ladder) || b.noneAcquired then
    b.setChan c fun k => { k with state := 0, slip := k.slip || k.state = 3 }
  else b.setChan c fun k => { k with state := 1, slip := k.slip || k.state = 3 }

/-- CHANNEL_ENABLE by the GNSS core. -/
def chanEnable (a : Actor) (c prn sp dopp : Nat) (b : Block) : Block :=
  b.cond (b.coreMay a && b.gnssRuns) (chanConf c prn sp true dopp)

def chanLock (c : Nat) (b : Block) : Block :=
  let s := (b.chan c).state
  b.cond (s = 1 || s = 2) (setChan c fun k => { k with state := 3 })

def chanCoast (c cn0 : Nat) (b : Block) : Block :=
  if (b.chan c).state = 3 ∧ cn0 < b.rd Reg.GTRK.COAST_CN0_LOSS then
    { b with gnss := { b.gnss with coasted := true } } |>.setChan c fun k => { k with state := 4, slip := true, coastAt := b.now }
  else b

def chanResume (c cn0 : Nat) (b : Block) : Block :=
  let k := b.chan c
  if k.state = 4 ∧ b.rd Reg.GTRK.COAST_CN0_LOSS + 3 < cn0 ∧ b.now ≤ k.coastAt + 100 * b.rd Reg.GTRK.COAST_MAX then
    b.setChan c fun k => { k with state := 3, slip := true }
  else b

def chanLost (c : Nat) (b : Block) : Block :=
  let k := b.chan c
  if k.state = 4 ∧ k.coastAt + 100 * b.rd Reg.GTRK.COAST_MAX ≤ b.now then b.setChan c fun k => { k with state := 5 } else b

/-- ANT_B is shed (R228): its channels and notches are gated. -/
def gateAntB (b : Block) : Block :=
  b |>.each ((List.range 24).map (· + 24)) (fun c => setChan c fun k => { k with state := 0, slip := k.slip || k.state = 3 })
    |>.each [4, 5, 6, 7] fun k b => b |>.wr (Reg.GNOTCH.NSTAT_ACTIVE k) 0 |>.wr (Reg.GNOTCH.NSTAT_CONV k) 0

/-- ANT_B is restored (R228): its FIXED notches engage again, and its channels return by re-acquisition. -/
def ungateAntB (b : Block) : Block := b.each [4, 5, 6, 7] notchApply

/-- The channels latched at one sample (R238), whether or not the core runs. -/
def chanLatch (obs : List ChanObs) (b : Block) : Block :=
  b |>.each obs (fun o b =>
      let c := o.chan.val
      let b := b.cond (o.fll && (b.chan c).state = 1) (setChan c fun k => { k with state := 2 })
      b |>.wr (Reg.GTRK.CSTAT_BITSYNC c) (bit o.bitsync) |>.wr (Reg.GTRK.CSTAT_CN0 c) o.cn0.toNat
        |>.wr (Reg.GTRK.CSTAT_DOPP c) o.dopp.toNat |>.wr (Reg.GTRK.CODE_PHASE c) (o.phase.toNat % 1047552)
        |>.wr (Reg.GTRK.CODE_MS c) o.ms |>.wr (Reg.GTRK.CARR_CYC c) o.carr.toNat
        |>.cond o.half (setChan c fun k => { k with slip := true }))
    |>.each (List.range 48) (fun c b =>
        let k := b.chan c
        b |>.wr (Reg.GTRK.CSTAT_STATE c) k.state |>.wr (Reg.GTRK.CSTAT_SLIP c) (bit k.slip)
          |>.setChan c fun k => { k with slip := false })
    |>.irq 0x18 0

/-- The epoch edge (R40, R47, R52, R257): a new record is due. -/
def recordEdge (b : Block) : Block :=
  if !b.gnssRuns then { b with gnss := { b.gnss with edged := false, unposted := none } }
  else
    let missed := b.gnss.edged && !b.gnss.recPosted
    let coasting := b.gnss.chans.any (·.state == 4)
    { b with gnss := { b.gnss with
        edged := true, epochFt := b.ft, epochEra := b.era, epochAt := b.now, single := !b.antBUse, solved := false, recPosted := false
        unposted := if missed then some (b.tick.overran.contains OvrBlock.gpvt) else none
        skip := b.is (Reg.HDR.TICK_DEGRADE 4) || missed, coasted := coasting } }

/-- The epoch edge (R238, R40). -/
def epochLatch (obs : List ChanObs) (b : Block) : Block := b |>.recordEdge |>.cond (b.running 3) (chanLatch obs)

/-- R52: the record of the epoch before is abandoned; its overrun counts once (assumption 28, DEDUCED). -/
def abandon (b : Block) : Block :=
  match b.gnss.unposted with
  | some counted =>
    let b := { b with gnss := { b.gnss with unposted := none } } |>.wr Reg.TICK.GPVT_LAT_LAT 0x3FF
      |>.wr (Reg.HDR.TICK_DEGRADE 4) 1
    if counted then b
    else
      let b := { b with tick := { b.tick with overran := b.tick.overran.filter fun (o : OvrBlock) => o != OvrBlock.gpvt } }
        |>.overrun OvrBlock.gpvt
      { b with tick := { b.tick with overran := b.tick.overran.filter fun (o : OvrBlock) => o != OvrBlock.gpvt } }
  | none => b

/-! The solution (R240, R241, R244, R245, R249). -/

/-- A latched channel whose phase has not slipped. -/
def cleanPll (b : Block) (lo p : Nat) : Bool :=
  match b.pllChan lo p with | some c => !b.is (Reg.GTRK.CSTAT_SLIP c) | none => false

/-- Age of the base epoch in ms at the measurement (R248). -/
def baseAge (b : Block) (tow : Nat) : Option Nat := b.gnss.baseTow.map fun t => (tow + 604800000 - t) % 604800000

/-- RTK is attempted (R249). -/
def rtkTried (b : Block) (f : NavFix) : Bool :=
  b.baseAge f.tow |>.any fun a =>
    a ≤ 1000 * b.rd Reg.GPVT.RTK_RTK_AGE && f.dist ≤ 10 * b.rd Reg.GPVT.RTK_DMAX && b.ladder < 5

def hasEph (b : Block) (p : Nat) : Bool := b.gnss.eph.any (·.1 == p + 1)

/-- The satellites used on ANT_A (R240): in PLL, at or above the mask, with ephemeris. -/
def usedSats (b : Block) (f : NavFix) : List Nat :=
  (b.aboveMask f.seen).filter fun p => (b.pllChan 0 p).isSome && b.hasEph p

/-- Table GNSS-6. -/
def fixType (b : Block) (f : NavFix) : Nat :=
  let tried := b.rtkTried f
  if !b.antAUse || (b.usedSats f).length < 4 then 0
  else if tried && b.rd Reg.GPVT.RTK_RATIO ≤ f.ratio then 5
  else if tried && !b.gnss.newStation then 4
  else if 4 ≤ f.corrected && (b.baseAge f.tow).any (· ≤ 1000 * b.dgnssAge) then 3
  else if f.pdop ≤ b.rd Reg.GPVT.CFG_PDOP_MAX then 2
  else 0

/-- mm/s that the yaw rate gives a point `d` mm from the axle. -/
def yawSpeed (omega d : Int) : Int := roundDiv (omega * d * 2 * 3141592653590) (2 ^ 32 * 10 ^ 12)

/-- The measured heading of R241, if any, in 2^-32 turn. -/
def headingOf (b : Block) (f : NavFix) (velValid blValid : Bool) : Option Nat :=
  let v := isqrt (f.ve * f.ve + f.vn * f.vn).toNat
  if velValid && 10 * b.rd Reg.GBASE.HEAD_VMIN ≤ v then
    let vl := yawSpeed b.gnss.omega (b.cal.ant.getD 5 0)
    let vf : Int := isqrt ((v : Int) * v - vl * vl).toNat
    some (unsignedOf 32 ((atanTurn f.vn f.ve : Int) + atanTurn vf vl))
  else if blValid then
    let nom : Int := atanTurn (b.cal.ant.getD 1 0) (-(b.cal.ant.getD 2 0))
    some (unsignedOf 32 ((atanTurn f.blN f.blE : Int) - nom))
  else none

/-- The heading filter (R241, R260) (assumption 86, DEDUCED). -/
def headingStep (z : Option Nat) (b : Block) : Block :=
  let g := b.gnss
  let pred := unsignedOf 32 ((g.theta : Int) + roundDiv g.omega 10)
  match z with
  | none =>
    let n := g.noZ + 1
    { b with gnss := { g with theta := pred, zRun := 0, noZ := n, headValid := g.headValid && n < 600, lastEra := g.epochEra } }
  | some z =>
    let p := if g.headSet ∧ g.lastEra = g.epochEra then pred else z
    let e := signedOf 32 (unsignedOf 32 ((z : Int) - p))
    let theta := unsignedOf 32 ((p : Int) + roundDiv ((b.rd Reg.GBASE.HEAD_ALPHA : Int) * e) 256)
    let omega := g.omega + roundDiv ((b.headBeta : Int) * e * 10) 256
    let n := g.zRun + 1
    { b with gnss := { g with
      theta, omega, zRun := n, noZ := 0, headSet := true, headValid := g.headValid || 10 ≤ n, lastEra := g.epochEra } }

/-- The baseline of the epoch (R244, R245, R257): whether it is valid, and the satellites in common. -/
def baselineStep (f : NavFix) (b : Block) : Block × Bool :=
  let common := ((List.range 32).filter fun p => b.cleanPll 0 p && b.cleanPll 24 p).length
  let en := b.is Reg.GBASE.CFG_EN && !b.gnss.single
  let nom := (b.cal.ant.getD 0 0).toNat
  let len := isqrt (f.blE * f.blE + f.blN * f.blN + f.blU * f.blU).toNat
  let inTol := ((len : Int) - nom).natAbs ≤ b.rd Reg.GBASE.CFG_TOL
  let min_ := b.rd Reg.GBASE.CFG_MIN_SATS
  let was := b.gnss.blFixed
  let fixed := en && (was || (!b.gnss.skip && min_ ≤ common && 30 ≤ f.blRatio && inTol))
  let valid := fixed && !b.gnss.skip && min_ ≤ common + 1
  let out := if valid && !inTol then b.gnss.outTol + 1 else 0
  let discard := decide (3 ≤ out)
  let recent := b.gnss.discards.filter fun t => b.now < t + 6000000
  let ds := if discard then b.now :: recent else recent
  let keep := fixed && !discard
  let ok := valid && !discard
  let b := { b with gnss := { b.gnss with
      blFixed := keep, outTol := if discard then 0 else out, discards := if 5 ≤ ds.length then [] else ds } }
  let b := b |>.cond discard (fun b => b |>.sysEvent 0x11 0x31 len nom |>.cond (5 ≤ ds.length) (·.verdict (Verdict.gn 5) 0x31))
    |>.wrB Reg.GBASE.BSTAT_VALID ok |>.wrB Reg.GBASE.BSTAT_FIXED keep |>.wrB Reg.GBASE.BSTAT_SINGLE b.gnss.single
    |>.wr Reg.GBASE.BSTAT_COMMON common
    |>.cond (keep && !was) (·.irq 0x19 0) |>.cond (was && !keep) (·.irq 0x19 1)
  let b := b.cond ok fun b => b |>.wrI Reg.GBASE.E_MM f.blE |>.wrI Reg.GBASE.N_MM f.blN |>.wrI Reg.GBASE.U_MM f.blU
    |>.wr Reg.GBASE.LEN_MM (min 65535 len) |>.wr Reg.GBASE.LEN_RATIO (min 65535 f.blRatio)
    |>.wrI Reg.GBASE.LINE_BIAS_BIAS f.lineBias
  (b, ok)

def sat (w v : Nat) : Nat := min (2 ^ w - 1) v
def satI (w : Nat) (v : Int) : Nat := unsignedOf w (clampInt (-(2 ^ (w - 1) : Nat)) ((2 ^ (w - 1) : Nat) - 1) v)

/-- 2^-32 turn as 0.01°. -/
def centi (n : Nat) : Nat := (n * 36000 + 2 ^ 31) / 2 ^ 32 % 36000

/-- Bytes 0 to 125 of Table GNSS-7. -/
def pvtBytes (b : Block) (f : NavFix) (fix : Nat) (bl : Bool) : List Byte :=
  let used := b.usedSats f
  let ok := 2 ≤ fix
  let vel := ok && 4 ≤ f.doppler
  let head := b.gnss.headValid
  let jam (a : Nat) := b.rd (Reg.GFE.JAM_LVL a)
  let warn (a : Nat) : Bool := b.rd Reg.GFE.JAMTHR_WARN ≤ jam a
  let flags := [false, vel, bl, head, b.gnss.single, ok, warn 0, warn 1, b.gnss.coasted, bl && b.rtkTried f]
  let flagWord := (flags.zipIdx).foldl (fun a (v, i) => a + bit v * 2 ^ i) 0
  let common := b.rd Reg.GBASE.BSTAT_COMMON
  let th := b.gnss.theta
  let s := sinTurn th
  let c := cosTurn th
  let len := isqrt (f.blE * f.blE + f.blN * f.blN + f.blU * f.blU).toNat
  let dx := mulQ40 f.blE s + mulQ40 f.blN c - b.cal.ant.getD 1 0
  let dy := mulQ40 f.blN s - mulQ40 f.blE c - b.cal.ant.getD 2 0
  let d := b.timeDelta (f.week * 604800 + f.tow / 1000) (f.tow % 1000 * 1000000 + f.ns) b.gnss.epochFt
  let cn0 := used.foldl (fun a p => a + match b.pllChan 0 p with | some c => b.rd (Reg.GTRK.CSTAT_CN0 c) | none => 0) 0
  let age := match b.baseAge f.tow with | some a => min 65534 (a / 100) | none => 0xFFFF
  let on (v : Bool) (l : List Byte) : List Byte := if v then l else l.map fun _ => 0
  leBytes 2 0x5650 ++ leBytes 1 1 ++ leBytes 1 fix ++ leBytes 2 flagWord
    ++ leBytes 1 used.length ++ leBytes 1 (if b.gnss.single then 0 else common)
    ++ leBytes 8 b.gnss.epochFt ++ leBytes 1 b.gnss.epochEra ++ leBytes 1 0
    ++ on ok (leBytes 2 f.week ++ leBytes 4 f.tow ++ leBytes 4 (satI 32 f.lat) ++ leBytes 4 (satI 32 f.lon)
      ++ leBytes 4 (satI 32 f.height) ++ leBytes 2 (sat 16 f.hacc) ++ leBytes 2 (sat 16 f.vacc))
    ++ on vel (leBytes 4 (satI 32 f.ve) ++ leBytes 4 (satI 32 f.vn) ++ leBytes 4 (satI 32 f.vu)
      ++ leBytes 2 (sat 16 (isqrt (f.ve * f.ve + f.vn * f.vn).toNat)) ++ leBytes 2 (centi (atanTurn f.vn f.ve)))
    ++ on head (leBytes 2 (centi th) ++ leBytes 2 (satI 16 (roundDiv (b.gnss.omega * 36000) (2 ^ 32))))
    ++ on bl (leBytes 4 (satI 32 f.blE) ++ leBytes 4 (satI 32 f.blN) ++ leBytes 4 (satI 32 f.blU) ++ leBytes 2 (sat 16 len)
      ++ leBytes 2 (satI 16 dx) ++ leBytes 2 (satI 16 dy) ++ leBytes 2 (centi (atanTurn f.blN f.blE)))
    ++ on ok (leBytes 4 (satI 32 d) ++ leBytes 4 (satI 32 f.drift))
    ++ leBytes 2 age ++ leBytes 2 (if age = 0xFFFF then 0xFFFF else b.gnss.station.getD 0xFFFF)
    ++ on ok (leBytes 1 (sat 8 f.pdop)) ++ leBytes 1 (if used.isEmpty then 0 else cn0 / used.length)
    ++ leBytes 1 (jam 0) ++ leBytes 1 (jam 1) ++ leBytes 2 (if b.rtkTried f then sat 16 f.ratio else 0)
    ++ on bl (leBytes 2 (sat 16 f.blRatio)) ++ List.replicate 26 0

/-- A record staged in `GPVT.REC` (R242, R243) (assumption 111, DEDUCED). -/
def recStage (bs : List Byte) (b : Block) : Block :=
  b.each (List.range 32) fun i => wr (Reg.GPVT.REC_WORD i) (leValue ((bs.drop (4 * i)).take 4))

/-- Bytes 0 to 125 of the record of a coarse-time solution (R255): the position of the snapshot at the header's field time,
from the satellites used; the rest does not apply (assumption 143, DESIGN CHOICE). -/
def snapRecord (b : Block) (f : NavFix) (used ft era : Nat) : List Byte :=
  let jam (a : Nat) := b.rd (Reg.GFE.JAM_LVL a)
  leBytes 2 0x5650 ++ leBytes 1 1 ++ leBytes 1 1 ++ leBytes 2 0 ++ leBytes 1 used ++ leBytes 1 0
    ++ leBytes 8 ft ++ leBytes 1 era ++ leBytes 7 0
    ++ leBytes 4 (satI 32 f.lat) ++ leBytes 4 (satI 32 f.lon) ++ leBytes 4 (satI 32 f.height)
    ++ leBytes 2 (sat 16 f.hacc) ++ leBytes 2 (sat 16 f.vacc) ++ List.replicate 48 0
    ++ leBytes 2 0xFFFF ++ leBytes 2 0xFFFF ++ leBytes 1 (sat 8 f.pdop) ++ leBytes 1 0
    ++ leBytes 1 (jam 0) ++ leBytes 1 (jam 1) ++ List.replicate 30 0

/-- The satellites that the result table of a job shows as detected (Table GNSS-3), by PRN minus 1. -/
def detected (t : List Byte) : List Nat := (List.range 32).filter fun p => (t.getD (16 * p + 1) 0).toNat.testBit 0

/-- A coarse-time solution of the snapshot in the slot at `a` (R255): it needs the job that found its satellites, and
ephemeris valid at its time for at least five of them (assumption 143, DESIGN CHOICE). -/
def solveSnap (f : NavFix) (a : Nat) (b : Block) : Block :=
  if !b.gnssRuns || b.gnss.jobDone ≠ some a then b
  else
    match b.fetch 6 a 64 with
    | (b, some h) =>
      match b.fetch 6 (b.rd Reg.GFFT.DST_ADDR) 512 with
      | (b, some t) =>
        let valid := f.seen.map (·.1.val)
        let used := ((detected t).filter fun p => b.hasEph p && valid.contains p).length
        if (slotSamples h).isNone ∨ used < 5 then b
        else b.recStage (b.snapRecord f used (leValue ((h.drop 16).take 8)) (h.getD 24 0).toNat)
      | (b, none) => b
    | (b, none) => b

/-- PVT_SOLUTION: one solution of the epoch, staged in `GPVT.REC`. -/
def solve (f : NavFix) (b : Block) : Block :=
  if !b.gnssRuns || !b.gnss.edged || b.gnss.solved || b.gnss.recPosted then b
  else
    let fix := b.fixType f
    let (b, bl) := b.baselineStep f
    let b := b.headingStep (b.headingOf f (2 ≤ fix && 4 ≤ f.doppler) bl)
    let b := { b with gnss := { b.gnss with
        solved := true, newStation := b.gnss.newStation && fix != 5
        coldFails := if 2 ≤ fix ∧ b.gnss.kind = 3 ∧ ¬ b.gnss.fixed then 0 else b.gnss.coldFails
        fixed := b.gnss.fixed || 2 ≤ fix } }
    b |>.cond b.gnss.baseTow.isSome (fun b => b |>.wr Reg.GPVT.BASE_ID (b.gnss.station.getD 0)
        |>.wr Reg.GPVT.BASE_DIST (sat 16 f.dist))
      |>.recStage (b.pvtBytes f fix bl)

/-! The record (R243). -/

/-- `GPVT.POST` (assumption 89, DEDUCED). -/
def postRecord (a : Actor) (b : Block) : Block :=
  if !b.coreMay a || !b.running 3 then b
  else
    let raw := (List.range 32).flatMap fun i => leBytes 4 (b.rd (Reg.GPVT.REC_WORD i))
    let snap := (raw.getD 3 0).toNat = 1
    if snap && a == .gnss && (b.pool < 4 || (b.heldNotice 1).isSome) then b
    else if !snap && leValue ((raw.drop 8).take 8) ≠ b.gnss.epochFt then b |>.wr Reg.GPVT.PSTAT_STALE 1 |>.irq 0x1B 1
    else
      let lat := b.now - b.gnss.epochAt
      let late := !snap && 300 < lat
      let f0 := (raw.getD 4 0).toNat / 2 * 2 + bit late
      let body := (raw.take 126).set 4 (BitVec.ofNat 8 f0)
      let r := body ++ leBytes 2 (crc16 body)
      let seq := b.rd Reg.GPVT.PSTAT_SEQ
      let ptr := b.rd Reg.GPVT.RING_ADDR + 128 * (seq % 4)
      let nav := match b.heldNotice 1 with
        | some x => if x.tag = 0x20 ∨ x.tag = 0x21 then some (x.ptr, x.len, x.tag) else b.gnss.repost
        | none => b.gnss.repost
      let b := (b.store 2 ptr r).1
      let b := b |>.recStage r |>.mbxPost 1 1 ptr 128 1 |>.wr Reg.GPVT.PSTAT_SEQ (seq + 1) |>.wr Reg.GPVT.PSTAT_STALE 0
        |>.wrB Reg.GPVT.PSTAT_LATE late |>.irq 0x1B 0
      let b := { b with gnss := { b.gnss with repost := nav } }
      if snap then b
      else
        let b := { b with gnss := { b.gnss with recPosted := true } }
          |>.wr Reg.GPVT.PSTAT_LAT (min 1023 lat) |>.wr Reg.TICK.GPVT_LAT_LAT (min 1023 (max lat (b.rd Reg.TICK.GPVT_LAT_LAT)))
        let b := if late then b |>.overrun .gpvt |>.wr (Reg.HDR.TICK_DEGRADE 4) 1
          else { b with gnss := { b.gnss with posted := r, postedSeq := seq + 1 } } |>.wr (Reg.HDR.TICK_DEGRADE 4) 0
        let i (o n : Nat) : Int := leSigned ((r.drop o).take n)
        let u (o n : Nat) : Nat := leValue ((r.drop o).take n)
        if 2 ≤ u 3 1 then
          let t : TimeRec := { ft := u 8 8, week := u 18 2, tow := u 20 4, lat := i 24 4, lon := i 28 4, height := i 32 4,
                               drift := i 84 4 }
          let b := if (u 4 1).testBit 5 then { b with gnss := { b.gnss with timeRec := some t } } else b
          let d := i 80 4
          b.gnssSample (if d = 2147483647 ∨ d = -2147483648 then
            b.timeDelta (u 18 2 * 604800 + u 20 4 / 1000) (u 20 4 % 1000 * 1000000) (u 8 8) else d)
        else b

/-! Corrections (R246, R247). -/

/-- Bits of a message, most significant first. -/
def rtcmBits (m : List Byte) (from_ n : Nat) : Nat :=
  beValue (m.take 12 ++ List.replicate (12 - m.length) 0) / 2 ^ (96 - from_ - n) % 2 ^ n

/-- The frames of a payload: each good message, or none for one that is bad or cut off. -/
def rtcmFrames : Nat → List Byte → List (Option (List Byte))
  | 0, _ => []
  | _, [] => []
  | fuel + 1, bs =>
    let len := (bs.getD 1 0).toNat % 4 * 256 + (bs.getD 2 0).toNat
    if bs.getD 0 0 ≠ 0xD3#8 ∨ bs.length < len + 6 then [none]
    else
      let ok := crc24q (bs.take (len + 3)) = beValue ((bs.drop (len + 3)).take 3)
      (if ok then some ((bs.drop 3).take len) else none) :: rtcmFrames fuel (bs.drop (len + 6))

/-- One frame handled (assumption 87, DEDUCED). -/
def rtcmFrame (m : Option (List Byte)) (b : Block) : Block :=
  match m with
  | none => b.inc Reg.GPVT.RTCM_BAD
  | some m =>
    let t := rtcmBits m 0 12
    let id := rtcmBits m 12 12
    if t = 1005 then
      let b := b.inc Reg.GPVT.RTCM_OK
      if b.gnss.station = some id then { b with gnss := { b.gnss with refPos := m } }
      else
        let old := b.gnss.station
        { b with gnss := { b.gnss with
            station := some id, refPos := m, obs := [], baseObs := [], baseTow := none, newStation := old.isSome } }
          |>.sysEvent 0x13 0x31 id (old.getD 0xFFFF)
    else if t = 1074 then
      if b.gnss.station = some id then
        let b := b.inc Reg.GPVT.RTCM_OK
        let obs := b.gnss.obs ++ [m]
        if rtcmBits m 54 1 = 1 then { b with gnss := { b.gnss with obs } }
        else { b with gnss := { b.gnss with obs := [], baseObs := obs, baseTow := some (rtcmBits m 24 30) } }
      else b
    else b.inc Reg.GPVT.RTCM_UNSUP

/-- A corrections notice taken from mailbox 4 (assumption 87, DEDUCED). -/
def rtcmReceive (b : Block) : Block :=
  match b.heldNotice 4 with
  | some x =>
    if !b.gnssRuns || x.tag ≠ 0x30 then b
    else
      match b.fetch 6 x.ptr x.len with
      | (b, some bs) => b |>.hold 4 none |>.each (rtcmFrames (bs.length + 1) bs) rtcmFrame
      | (b, none) => b.hold 4 none
  | none => b

end Block

/-- GNSS_START (R231): what the front end measures, and the satellites with fresh ephemeris, each with whether it is visible. -/
def execGnssStart (front : Front) (fresh : List (Fin 32 × Bool)) (s : State) : Host.Outcome State Fault Refusal :=
  s.run (Block.gnssStart front fresh)

/-- ANT_BIAS_SHORT (R227): ANT_A or ANT_B. -/
def execAntBiasShort (ant : Fin 2) (s : State) : Host.Outcome State Fault Refusal := s.run (Block.biasShort ant)

/-- ANT_BIAS_RETRY (R227): the current then drawn, in mA. -/
def execAntBiasRetry (ant : Fin 2) (ma : Byte) (s : State) : Host.Outcome State Fault Refusal :=
  s.run (Block.biasRetry ant ma.toNat)

/-- ANT_RECLASSIFY (R228). -/
def execAntReclassify (ant : Fin 2) (s : State) : Host.Outcome State Fault Refusal := s.run (Block.reclassify ant)

/-- NOTCH_ENGAGE (R229): the narrowband peaks on the antenna, each its frequency from L1 in Hz and its level in dB above the
noise floor. -/
def execNotchEngage (k : Fin 8) (peaks : List (Int × Byte)) (s : State) : Host.Outcome State Fault Refusal :=
  s.run (Block.notchEngage k (peaks.map fun p => (p.1, p.2.toNat)))

/-- NOTCH_RELEASE (R229). -/
def execNotchRelease (k : Fin 8) (s : State) : Host.Outcome State Fault Refusal := s.run (Block.notchRelease k)

/-- JAM_STAY (R230). -/
def execJamStay (ant : Fin 2) (s : State) : Host.Outcome State Fault Refusal := s.run (Block.jamStay ant)

/-- ASSISTANCE_NOTICE (R232). -/
def execAssistanceNotice (s : State) : Host.Outcome State Fault Refusal := s.run Block.assist

/-- NAV_DATA_POST (R232): subframe data (tag 0x20) or a page (tag 0x21), and the buffer it is placed in. -/
def execNavDataPost (page : Bool) (ptr : Word) (data : List Byte) (s : State) : Host.Outcome State Fault Refusal :=
  s.run (Block.navPost page ptr.toNat data)

/-- GACQ_START (R233): on the lanes as they stand, or the core's search on ANT_B, with the elevations of the satellites
(R234). -/
def execGacqStart (actor : Actor) (aid : Option (List (Fin 32 × Fin 91))) (s : State) : Host.Outcome State Fault Refusal :=
  s.run (Block.reach actor 0x16 true (Block.acqBegin actor aid))

/-- GACQ_ABORT (R233). -/
def execGacqAbort (actor : Actor) (s : State) : Host.Outcome State Fault Refusal := s.run (Block.reach actor 0x16 true (Block.acqAbort actor))

/-- GACQ_SEARCH_END (R233): what each lane found. -/
def execGacqSearchEnd (found : List (BitVec 11 × Byte)) (s : State) : Host.Outcome State Fault Refusal :=
  s.run (Block.acqEnd found)

/-- GFFT_START (R236). -/
def execGfftStart (actor : Actor) (s : State) : Host.Outcome State Fault Refusal := 
  s.run (Block.reach actor 0x17 true (Block.fftStart actor))

/-- GFFT_ABORT (R236). -/
def execGfftAbort (actor : Actor) (s : State) : Host.Outcome State Fault Refusal := 
  s.run (Block.reach actor 0x17 true (Block.fftAbort actor))

/-- GFFT_JOB_END (R235): ratio, code phase, Doppler and noise power of each PRN. -/
def execGfftJobEnd (found : List (Nat × Nat × Int × Nat)) (s : State) : Host.Outcome State Fault Refusal :=
  s.run (Block.fftEnd found)

/-- CHANNEL_ENABLE (R237): PRN minus 1, spacing and Doppler of a detection. -/
def execChannelEnable (actor : Actor) (chan : Fin 48) (prn : Fin 32) (sp : Fin 16) (dopp : BitVec 16) (s : State) :
    Host.Outcome State Fault Refusal := 
  s.run (Block.reach actor 0x18 true (Block.chanEnable actor chan prn sp dopp.toNat))

/-- CHANNEL_PLL_LOCK (R237). -/
def execChannelPllLock (chan : Fin 48) (s : State) : Host.Outcome State Fault Refusal := s.run (Block.chanLock chan)

/-- CHANNEL_COAST (R239): the C/N0 in dB-Hz. -/
def execChannelCoast (chan : Fin 48) (cn0 : Byte) (s : State) : Host.Outcome State Fault Refusal :=
  s.run (Block.chanCoast chan cn0.toNat)

/-- CHANNEL_COAST_RESUME (R239). -/
def execChannelCoastResume (chan : Fin 48) (cn0 : Byte) (s : State) : Host.Outcome State Fault Refusal :=
  s.run (Block.chanResume chan cn0.toNat)

/-- CHANNEL_LOST (R239). -/
def execChannelLost (chan : Fin 48) (s : State) : Host.Outcome State Fault Refusal := s.run (Block.chanLost chan)

/-- GPVT_RECORD_ABANDON (R52). -/
def execGpvtRecordAbandon (s : State) : Host.Outcome State Fault Refusal := s.run Block.abandon

/-- PVT_SOLUTION (R240, R241, R244, R245), or the coarse-time solution of a snapshot (R255). -/
def execPvtSolution (fix : NavFix) (s : State) : Host.Outcome State Fault Refusal :=
  s.run (match fix.slot with | some a => Block.solveSnap fix a.toNat | none => Block.solve fix)

/-- POST (R243). -/
def execPost (actor : Actor) (s : State) : Host.Outcome State Fault Refusal := 
  s.run (Block.reach actor 0x1B true (Block.postRecord actor))

/-- RTCM_RECEIVE (R246, R247). -/
def execRtcmReceive (s : State) : Host.Outcome State Fault Refusal := s.run Block.rtcmReceive

end Sys2Proof.Machine
end

