-- ==== Sys2Proof/Machine/Snap.lean ====
section
/-! DEFINITION. Snapshots (08_gnss_receiver.md, R250 to R255, R259). -/

namespace Sys2Proof.Machine
namespace Block

def snapSlots (b : Block) : Nat := if b.is Reg.GSNAP.CFG_SLOT then 2 else 4
def snapSize (b : Block) : Nat := if b.is Reg.GSNAP.CFG_SLOT then 0x20000 else 0x10000

/-- The address of slot `i` of an antenna's bank. -/
def snapBase (b : Block) (ant i : Nat) : Nat := 0x20180000 + ant * 0x40000 + i * b.snapSize

/-- `SLOTS` of slot `i` of an antenna: 0 empty, 1 full, 2 partial. -/
def setSnapSlot (ant i v : Nat) (b : Block) : Block :=
  let k := 4 ^ (4 * ant + i)
  let w := b.rd Reg.GSNAP.SLOTS_S
  b.wr Reg.GSNAP.SLOTS_S (w - w / k % 4 * k + v * k)

/-- The next slot of an antenna in ring order that is not held (R250). -/
def pickSlot (b : Block) (ant : Nat) : Option Nat :=
  let n := b.snapSlots
  (List.range n).map (fun i => (b.gnss.nextSlot.getD ant 0 + i) % n)
    |>.find? fun i => !(b.rd Reg.GSNAP.HOLD_HOLD).testBit (4 * ant + i)

/-- `GSNAP.CMD.START` (assumption 91, DEDUCED). -/
def snapStart (ant len : Nat) (b : Block) : Block :=
  if !b.powered || !b.running 2 then b
  else if !b.gnss.grabs.isEmpty || b.gnss.request.isSome || ant = 0 || len = 3 then b.wr Reg.GSNAP.SSTAT_RES 3
  else { b with gnss := { b.gnss with request := some (ant, len) } }

/-- One antenna's capture begins, or finds every slot held. -/
def grabBegin (ant ms : Nat) (cold : Bool) (b : Block) : Block :=
  match b.pickSlot ant with
  | some i =>
    let g : Grab := { ant, slot := i, want := 16368 * ms, ft := b.ft, era := b.era, began := b.now, cold }
    { b with gnss := { b.gnss with
        grabs := b.gnss.grabs ++ [g], nextSlot := b.gnss.nextSlot.set ant ((i + 1) % b.snapSlots) } }
      |>.setSnapSlot ant i 0 |>.wr Reg.GSNAP.SSTAT_BUSY 1 |>.wr Reg.GSNAP.SSTAT_RES 0
  | none => b.wr Reg.GSNAP.SSTAT_RES 3

/-- CAPTURE_BEGIN: a pool edge, or in SNAPSHOT at its trigger (R251); the cold start's capture comes first (R259). -/
def captureBegin (b : Block) : Block :=
  let here := if b.powered then b.drip = 0 && b.running 2 else b.mode == .snapshot
  if !here || !b.gnss.grabs.isEmpty then b
  else
    let cold := b.gnss.coldDue
    let req := b.gnss.request
    let b := { b with gnss := { b.gnss with coldDue := false, request := none } }
    let b := b.cond cold (grabBegin 0 (if b.is Reg.GSNAP.CFG_SLOT then 8 else 4) true)
    match req with
    | some (ants, len) =>
      let ms := 2 ^ (len + 1)
      b |>.cond (ants.testBit 0 && !cold) (grabBegin 0 ms false) |>.cond (ants.testBit 1) (grabBegin 1 ms false)
        |>.cond (ants.testBit 0 && cold) (wr Reg.GSNAP.SSTAT_RES 3) |>.heldBegin |>.showDomains
    | none => b.heldBegin

/-- A sample with the I or Q code at an end of the range. -/
def clipped (v : Byte) : Bool :=
  let q := v.toNat / 16
  let i := v.toNat % 16
  q = 0 || q = 15 || i = 0 || i = 15

/-- Bytes 0 to 61 of Table GNSS-8 (R252, R253) (assumption 91, DEDUCED). -/
def snapHeader (b : Block) (g : Grab) (stored : Nat) (part clip : Bool) : List Byte :=
  let a := g.ant
  let notches := ((List.range 4).filter fun k => b.is (Reg.GNOTCH.NSTAT_ACTIVE (4 * a + k))).length
  let flags := bit part + 2 * bit (decide (0 < notches)) + 4 * bit clip + 8 * bit (b.antDet a = 3)
  let unknown := leBytes 2 0xFFFF ++ leBytes 4 0 ++ leBytes 4 0 ++ leBytes 2 0xFFFF
  let time := match b.gnss.timeRec with
    | some t =>
      let d := g.ft / 65536 - t.ft / 65536
      let ns := t.tow * 1000000 + d * 100000
      let ms := ns / 1000000
      leBytes 2 (t.week + ms / 604800000) ++ leBytes 4 (ms % 604800000) ++ leBytes 4 (ns % 1000000)
        ++ leBytes 2 (min 0xFFFF (d / 10000000))
    | none => unknown
  let pos := match b.gnss.timeRec with
    | some t => leBytes 4 (unsignedOf 32 t.lat) ++ leBytes 4 (unsignedOf 32 t.lon) ++ leBytes 4 (unsignedOf 32 t.height)
        ++ leBytes 2 (satI 16 t.drift)
    | none => leBytes 4 0x80000000 ++ leBytes 4 0 ++ leBytes 4 0 ++ leBytes 2 0x8000
  leBytes 4 0x50414E53 ++ leBytes 1 1 ++ leBytes 1 a ++ leBytes 1 flags ++ leBytes 1 1
    ++ leBytes 4 g.want ++ leBytes 4 stored ++ leBytes 8 g.ft ++ leBytes 1 g.era ++ leBytes 1 (b.rd (Reg.GFE.JAM_LVL a))
    ++ time ++ leBytes 2 0xFFFF ++ leBytes 1 (b.rd (Reg.GFE.AGC_GAIN a)) ++ leBytes 1 notches
    ++ leBytes 2 0xFFFF ++ leBytes 4 16368000 ++ pos

/-- A capture ends with the samples it stored (R250, R254): its header, its slot, its result
(assumption 91, DEDUCED; assumption 92, DEDUCED). -/
def grabEnd (g : Grab) (samples : Option (List Byte)) (count : Nat) (cut : Bool) (b : Block) : Block :=
  let n := min count (min g.want (b.snapSize - 64))
  let base := b.snapBase g.ant g.slot
  let (b, ok) := match samples with
    | some l => b.store 2 (base + 64) (l.take n)
    | none => (b.scramble (base + 64) n, true)
  let part := cut || n < g.want || !ok
  let clip := match samples with
    | some l => decide (n < 100 * ((l.take n).filter clipped).length)
    | none => false
  let h := b.snapHeader g n part clip
  let b := (b.store 2 base (h ++ leBytes 2 (crc16 h))).1
  b |>.setSnapSlot g.ant g.slot (if part then 2 else 1) |>.wr Reg.GSNAP.SSTAT_BUSY 0
    |>.wr Reg.GSNAP.SSTAT_RES (if part then 2 else 1) |>.inc Reg.GSNAP.SEQ_COUNT |>.irq 0x1A 0
    |>.cond g.cold (fun b => { b with gnss := { b.gnss with coldJob := some (base, n / 32736) } }.coldBegin)

/-- Samples that the time since the start of a capture has brought. -/
def grabTime (b : Block) (g : Grab) : Nat := if b.powered then (b.now - g.began) * 16368 / 10 else g.want

/-- Every running capture ends with the samples given for its antenna. -/
def snapEnd (sa sb : List Byte) (cut : Bool) (b : Block) : Block :=
  let gs := b.gnss.grabs
  { b with gnss := { b.gnss with grabs := [] } } |>.each gs fun g b =>
    let l := if g.ant = 0 then sa else sb
    b.grabEnd g (some l) (min l.length (b.grabTime g)) cut

/-- What runs has ended, and with it, in SNAPSHOT, the domains a capture needs (Table MODE-1). -/
def snapStop (sa sb : List Byte) (cut : Bool) (b : Block) : Block := b |>.snapEnd sa sb cut |>.showDomains

/-- GSMP is gated under a capture (R254): what it had stored stands, and the model does not know it
(assumption 92, DEDUCED). -/
def snapGate (b : Block) : Block :=
  let gs := b.gnss.grabs
  { b with gnss := { b.gnss with grabs := [], request := none, coldDue := false } }
    |>.each gs fun g b => b.grabEnd g none (b.grabTime g) true

/-- SNAPSHOT_INTERVAL (R251). -/
def snapInterval (b : Block) : Block :=
  if b.mode == .snapshot && b.gnss.snapAt + 10000 * b.rd Reg.PWR.SNAP_INTERVAL ≤ b.now && b.gnss.grabs.isEmpty then
    { b with gnss := { b.gnss with
      snapAt := b.now, request := some (b.rd Reg.PWR.SNAP_ANT, b.rd Reg.PWR.SNAP_LEN) } }
  else b

end Block

/-- GSNAP_START (R251): the antennas and the length code of the write. -/
def execGsnapStart (ant : Fin 4) (len : Fin 4) (s : State) : Host.Outcome State Fault Refusal :=
  s.run (Block.snapStart ant len)

/-- SNAPSHOT_INTERVAL (R251): AON cycles since the last event of the mode. -/
def execSnapshotInterval (aon : Nat) (s : State) : Host.Outcome State Fault Refusal :=
  s.run fun b => b |>.doze aon |>.snapInterval

/-- CAPTURE_BEGIN (R250, R251, R259). -/
def execCaptureBegin (s : State) : Host.Outcome State Fault Refusal := s.run Block.captureBegin

/-- GSNAP_ABORT (R254): the samples so far of ANT_A and ANT_B. -/
def execGsnapAbort (sa sb : List Byte) (s : State) : Host.Outcome State Fault Refusal := 
  s.run (Block.snapStop sa sb true)

/-- CAPTURE_END (R252 to R254): in SNAPSHOT the AON cycles the capture took, and the samples of ANT_A and ANT_B. -/
def execCaptureEnd (aon : Nat) (sa sb : List Byte) (s : State) : Host.Outcome State Fault Refusal :=
  s.run fun b => b |>.doze aon |>.snapStop sa sb false

end Sys2Proof.Machine
end

