-- ==== Sys2Proof/Machine/Sram.lean ====
section
/-! DEFINITION. Banks and beats, scrub and injection, fence commits and the bandwidth ledger
(06_shared_memory_mailboxes.md, R154 to R168, R180 to R184). -/

namespace Sys2Proof.Machine

namespace Block

/-- The ledger's number of a pair (Table BWL-1). -/
def pairOf (master bank : Nat) : Nat := master * 8 + bank

def creditOf (b : Block) (master bank : Nat) : Nat := Store.find (fun _ => 0) b.sram.credit (pairOf master bank)

/-- The scrub has words left to read in the bank in this drip (R157, R164). -/
def scrubWants (b : Block) (bank : Nat) : Bool :=
  b.powered && Store.find (fun _ => 0) b.sram.scrubbed bank < b.rd Reg.ECC.SCRUB_RATE

/-- Which request of one cycle a bank grants (R164): masters by index, 10 the flash controller, 11 the recorder mirror, 12
an ECC write-back or test access, 13 the scrub. `late` is from cycle 15,000. -/
def grantOf (b : Block) (bank : Nat) (late : Bool) (requests : List Nat) : Nat :=
  let credited (m : Nat) : Bool := b.creditOf m bank != 0
  let scrub := requests.contains 13 && b.scrubWants bank
  let masters := (List.range 10).filter requests.contains
  if requests.contains 0 && credited 0 then 0
  else if requests.contains 12 then 12
  else if late && scrub then 13
  else match masters.find? credited with
    | some m => m
    | none => if scrub then 13 else masters.headD (if requests.contains 10 then 10 else 11)

/-- A request that another grant puts off (R167). -/
def putOff (master bank kind : Nat) (b : Block) : Block :=
  { b with
    sram := { b.sram with wanted := Store.put (fun _ => 0) (pairOf master bank) (if kind = 1 then 2 else 1) b.sram.wanted }
    resp := {} }

/-- Bits of a stored codeword that change by themselves before the access. -/
def upsetWord (a : Nat) (m : BitVec 39) (b : Block) : Block := b.setFlip a (b.flipOf a ^^^ m)

/-- The data of an access whose address has been checked (R154, R156). `size` 0 word, 1 half-word, 2 byte. -/
def accessData (master a kind size v : Nat) (b : Block) : Block :=
  let w := a / 4 * 4
  let n := if size = 0 then 4 else if size = 1 then 2 else 1
  let at_ := a / n * n
  if kind = 1 then
    if size = 0 then { b.writeWord w v with resp := {} }
    else match b.writePart master at_ (leBytes n v) with
      | (b, ok) => if ok then { b with resp := {} } else b.answerErr
  else
    match b.readWord master w with
    | (b, none) => b.answerErr
    | (b, some x) => b.answer (x / 256 ^ (at_ - w) % 256 ^ n)

/-- An address phase that has been granted its beat (R159, R161), and its data. A denied access has used the beat
(assumption 131, DESIGN CHOICE). `more` beats follow in the burst. -/
def accessGranted (master a kind size v more : Nat) (b : Block) : Block :=
  let b := b.beat master (bankOf a)
  if b.allowed (masterAgent master) (a / 4 * 4) kind then
    { b with sram := { b.sram with
        bursts := if more = 0 then b.sram.bursts else b.sram.bursts ++ [(master, a / 4 * 4 + 4, kind, more)] } }
      |>.accessData master a kind (if more = 0 then size else 0) v
  else b |>.violation master a kind |>.answerErr

/-- The burst of a master (R161). -/
def burstOf (b : Block) (master : Nat) : Option (Nat × Nat × Nat × Nat) := b.sram.bursts.find? (·.1 = master)

/-- What an access outside SRAM answers (R116). -/
def lostAccess (master a : Nat) (b : Block) : Block := if faults master a then b.answerErr else b.answer 0

/-- The next beat of a burst: its address was checked at the address phase (R161, R180). -/
def burstBeat (master a kind left v : Nat) (b : Block) : Block :=
  let rest := b.sram.bursts.filter fun (x : Nat × Nat × Nat × Nat) => x.1 != master
  let b := { b with sram := { b.sram with
      bursts := if left ≤ 1 then rest else rest ++ [(master, a + 4, kind, left - 1)] } }
  if isSram a then b |>.beat master (bankOf a) |>.accessData master a kind 0 v
  else b |>.outside master a |>.lostAccess master a

/-- A master's access, with the other requests for a beat of the same bank in the same cycle. `phase` gives the beats that
follow an address phase; without it, the request is for the next beat of the master's burst (assumption 134, DESIGN
CHOICE). -/
def sramAccess (master a kind size v : Nat) (phase : Option Nat) (rivals : List Nat) (late : Bool) (upset : BitVec 39)
    (b : Block) : Block :=
  let granted (a : Nat) : Bool := b.grantOf (bankOf a) late (master :: rivals) = master
  match phase, b.burstOf master with
  | some more, none =>
    if !isSram a then b |>.outside master a |>.lostAccess master a
    else
      let b := b.cond (upset != 0) (·.upsetWord (a / 4 * 4) upset)
      if granted a then b |>.accessGranted master a kind size v more |>.postsDue |>.captureDue else b.putOff master (bankOf a) kind
  | none, some (_, at_, k, left) =>
    let b := b.cond (upset != 0 && isSram at_) (·.upsetWord at_ upset)
    if granted at_ || !isSram at_ then b |>.burstBeat master at_ k left v |>.postsDue |>.captureDue else b.putOff master (bankOf at_) k
  | _, _ => { b with resp := {} }

/-! Scrub (R157, R184). -/

/-- Passes over all of SRAM since the scrub started (R157) (assumption 76, DEDUCED). -/
def scrubPasses (b : Block) : Nat :=
  (List.range 8).foldl (fun m k => min m (Store.find (fun _ => 0) b.sram.scrubTotal k / 65536)) (2 ^ 40)

/-- A test that has the class does not count it toward escalation. -/
def spare (c : ErrClass) (b : Block) : Block :=
  let mark (t : Test) : Test := if t.raised.contains c then { t with spared := c :: t.spared } else t
  { b with test := { b.test with pend := b.test.pend.map mark, running := b.test.running.map mark } }

/-- An error that the scrub logs on a word that a master has overtaken (R184): logged and tested as any other (R486), but its
pass counts toward no escalation, unless the class is in test for an error that does. -/
def scrubLog (n a : Nat) (b : Block) : Block :=
  let c : ErrClass := ⟨0x0A, n, a⟩
  let counted := (b.test.pend ++ b.test.running).any fun t => t.raised.contains c && !t.spared.contains c
  (if n = 1 then b.logDed a else b.err 0x0A 0 (sub := a)) |>.cond (!counted) (spare c)

/-- The scrub's read of its next word in a bank, where the bank grants it (R164). `late`: from cycle 15,000. `overtaken`:
a master's write to the word comes in the same cycle or before the write-back (assumption 76, DEDUCED). -/
def scrubRead (bank : Nat) (late : Bool) (rivals : List Nat) (upset : BitVec 39) (overtaken : Bool) (b : Block) : Block :=
  if !b.scrubWants bank || b.grantOf bank late (13 :: rivals) != 13 then b
  else
    let done := Store.find (fun _ => 0) b.sram.scrubbed bank
    let total := Store.find (fun _ => 0) b.sram.scrubTotal bank
    let a := 0x20000000 + bank * 0x40000 + total % 65536 * 4
    let before := b.scrubPasses
    let b := { b with sram := { b.sram with
        scrubbed := Store.put (fun _ => 0) bank (done + 1) b.sram.scrubbed
        scrubTotal := Store.put (fun _ => 0) bank (total + 1) b.sram.scrubTotal } }
    let b := b |>.cond (before < b.scrubPasses) (·.inc Reg.ECC.PASS_PASSES) |>.cond late (·.charge bank)
      |>.cond (upset != 0) (·.upsetWord a upset)
    match eccJudge (b.flipOf a) with
    | .good => b
    | .double => if overtaken then b.scrubLog 1 a else b.logDed a
    | .single s =>
      if overtaken then
        b |>.wr Reg.ECC.SBE_ADDR_ADDR a |>.wr Reg.ECC.SBE_INFO_SYNDROME (s + 64)
          |>.wr Reg.ECC.SBE_INFO_BANK bank |>.wr Reg.ECC.SBE_INFO_MASTER 0xF |>.inc Reg.ECC.COUNT_SBE |>.irq 0x0A 0
          |>.scrubLog 0 a
      else (b.readWord 0xF a).1

/-- The scrub restarts at the beginning of each bank (R157). -/
def scrubRestart (b : Block) : Block := { b with sram := { b.sram with scrubbed := [], scrubTotal := [] } }

/-- Set bits of a word. -/
def popCount (n : Nat) : Nat := ((List.range 32).filter n.testBit).length

/-- A write of `ECC.INJ` (Table ECC-1): honoured in SERVICE, with one or two bits set. -/
def eccInject (mask : Nat) (b : Block) : Block :=
  let a := b.rd Reg.ECC.INJ_ADDR_ADDR
  if b.mode == .service && (popCount mask = 1 || popCount mask = 2) && isSram a then
    { b with sram := { b.sram with inject := some (a / 4, mask) } }
  else b

/-! Fence commits (R160, R161). -/

/-- The `PERM` word of a region. -/
def permWord (b : Block) (n : Nat) : Nat :=
  b.rd (Reg.FENCE.PERM_EN n) + b.rd (Reg.FENCE.PERM_MAIN n) * 2 ^ 4 + b.rd (Reg.FENCE.PERM_GNSS n) * 2 ^ 8
    + b.rd (Reg.FENCE.PERM_RADIO n) * 2 ^ 12 + b.rd (Reg.FENCE.PERM_LOOP n) * 2 ^ 16 + b.rd (Reg.FENCE.PERM_HOST n) * 2 ^ 20

/-- The pending rules, each limit at its effective value (R128). -/
def pendingRules (b : Block) : List (Nat × Nat × Nat) :=
  (List.range 32).map fun n =>
    let base := b.rd (Reg.FENCE.BASE_ADDR n)
    (base, max (base + 0x1F) (b.rd (Reg.FENCE.LIMIT_ADDR n)), b.permWord n)

def fenceCommit (b : Block) : Block := b.wr Reg.HDR.FENCE_PENDING 1

def fenceApply (b : Block) : Block :=
  if b.is Reg.HDR.FENCE_PENDING then
    { b with sram := { b.sram with rules := b.pendingRules, bg := b.rd Reg.FENCE.BG_MAIN_X } }
      |>.wr Reg.FENCE.APPLIED_GEN (b.rd (Reg.HDR.GEN 0x07)) |>.wr Reg.HDR.FENCE_PENDING 0 |>.irq 0x07 1
  else b

/-! The bandwidth ledger (R164 to R168). -/

def resOf (b : Block) (master bank : Nat) : Nat := b.rd (Reg.BWL.RES_BEATS (pairOf master bank))

def bankSum (b : Block) (bank : Nat) : Nat := (List.range 10).foldl (fun a m => a + b.resOf m bank) 0

/-- One step of the admission walk (R165): the reservation of `m` is lowered until it is 0 or the sum fits. -/
def admitStep (bank m : Nat) (b : Block) : Block :=
  let excess := b.bankSum bank - 14731
  let old := b.resOf m bank
  let new := old - excess
  if excess = 0 ∨ old = new then b
  else b |>.wr (Reg.BWL.RES_BEATS (pairOf m bank)) new |>.clamped 0x08 6 (0x040 + 4 * pairOf m bank) 0 old new

/-- A write of a reservation (R165): clamped, stored, and the bank's walk from HOST upward to the written one. -/
def bwlWrite (master bank v : Nat) (b : Block) : Block :=
  if b.locked 0x08 then b
  else
    let v' := min 14731 v
    b |>.wr (Reg.BWL.RES_BEATS (pairOf master bank)) v'
      |>.cond (v' < v) (·.clamped 0x08 1 (0x040 + 4 * pairOf master bank) 0 v v')
      |>.each ((List.range 10).reverse.filter (master ≤ ·)) (admitStep bank)
      |>.bumpGen 0x08
      |> fun b => b.wr (Reg.BWL.TOTAL_SUM bank) (b.bankSum bank)

/-- The drip edge (R164, R167, R168): what each pair was granted, who was short of the drip's reservation with a request
that still waits, and the new credits. -/
def refill (b : Block) : Block :=
  let b := b.each (List.range 80) fun k b =>
    let g := Store.find (fun _ => 0) b.sram.granted k
    let short := g < Store.find (fun _ => 0) b.sram.reserved k && Store.find (fun _ => 0) b.sram.wanted k != 0
    let b := { b with sram := { b.sram with
        peak := Store.put (fun _ => 0) k (max g (Store.find (fun _ => 0) b.sram.peak k)) b.sram.peak } }
    if short then
      { b with sram := { b.sram with
          short := Store.put (fun _ => 0) k (min 65535 (Store.find (fun _ => 0) b.sram.short k + 1)) b.sram.short } }
        |>.wrBit Reg.BWL.YIELD_MASTER (k / 8) true |>.irq 0x08 0
    else b
  let credit := (List.range 80).foldl (fun c k => Store.put (fun _ => 0) k (b.rd (Reg.BWL.RES_BEATS k)) c) []
  { b with sram := { b.sram with reserved := credit, credit, last := b.sram.granted, granted := [], scrubbed := [] } }.postsDue

end Block

/-- SRAM_ACCESS (R154 to R164): `kind` 0 read, 1 write, 2 execute; `size` 0 word, 1 half-word, 2 byte; `phase` the beats
that follow the address phase, or none for a further beat of a burst; `rivals` the other requests of the cycle, as
`grantOf` numbers them; `upset` flips bits of the stored word beforehand. -/
def execSramAccess (master : Fin 10) (a : Word) (kind size : Fin 3) (v : Word) (phase : Option (Fin 8))
    (rivals : List (Fin 14)) (late : Bool) (upset : BitVec 39) (s : State) : Host.Outcome State Fault Refusal :=
  s.run (Block.sramAccess master a.toNat kind size v.toNat (phase.map (·.val)) (rivals.map (·.val)) late upset)

/-- SCRUB_READ (R157, R184). -/
def execScrubRead (bank : Fin 8) (late : Bool) (rivals : List (Fin 13)) (upset : BitVec 39) (overtaken : Bool) (s : State) :
    Host.Outcome State Fault Refusal := s.run (Block.scrubRead bank late (rivals.map (·.val)) upset overtaken)

/-- ECC_INJECT (Table ECC-1). -/
def execEccInject (mask : Word) (s : State) : Host.Outcome State Fault Refusal := s.run (Block.eccInject mask.toNat)

/-- FENCE_COMMIT (R160). -/
def execFenceCommit (s : State) : Host.Outcome State Fault Refusal := s.run Block.fenceCommit

/-- BWL_RES_WRITE (R165). -/
def execBwlResWrite (master : Fin 10) (bank : Fin 8) (v : BitVec 14) (s : State) : Host.Outcome State Fault Refusal :=
  s.run (Block.bwlWrite master bank v.toNat)

end Sys2Proof.Machine
end

