-- ==== Sys2Proof/Machine/Recorder.lean ====
section
/-! DEFINITION. The event recorder, its flash mirror, and the status LED (15_tag_and_recorder.md, R467 to R483). -/

namespace Sys2Proof.Machine

/-- A record's address (R467). -/
def recordAt (base i : Nat) : Nat := base + 32 * i

/-- Table LOG-1: the 32 bytes of a record. -/
def recordBytes (e : Event) (found : Bool) (occurrences lastSeen : Nat) : List Byte :=
  let body := leBytes 8 e.time ++ leBytes 2 e.code ++ leBytes 1 e.source
    ++ leBytes 1 (e.severity % 4 + e.cls % 4 * 4 + bit found * 16 + bit e.aon * 32)
    ++ leBytes 2 e.verdict ++ leBytes 2 occurrences ++ leBytes 4 e.arg0 ++ leBytes 4 e.arg1
    ++ leBytes 4 lastSeen ++ leBytes 1 e.era ++ [0]
  body ++ leBytes 2 (crc16 body)

/-- The verdict field of R467 from a 12-bit area-and-digits code (`WR_CODE.VERDICT`). -/
def wrVerdict (v : Nat) : Nat := v / 256 % 16 * 4096 + v % 256

namespace Block

/-- Bytes the recorder writes to SRAM: whole words with good check bits, under no fence (R155). -/
def putWords (a : Nat) (bs : List Byte) (b : Block) : Block :=
  b.each (List.range (bs.length / 4)) fun k b => b.writeWord (a + 4 * k) (leValue ((bs.drop (4 * k)).take 4))

/-- `MIRROR` and `LED_STAT.HELD` show what waits and what is held. -/
def showLog (b : Block) : Block :=
  b |>.wr Reg.LOG.MIRROR_PENDING (min 255 b.log.pending.length) |>.wr Reg.GPIO.LED_STAT_HELD b.log.verdicts.length

/-- A verdict enters the current set (R470): a full set drops the entry of lowest severity, the oldest first. -/
def holdVerdict (v sev : Nat) (b : Block) : Block :=
  let old := b.log.verdicts.find? (·.verdict == v)
  let rest := b.log.verdicts.filter (·.verdict != v)
  let low := rest.foldl (fun m x => min m x.severity) 3
  let rest := if rest.length < 16 then rest else rest.eraseP (·.severity == low)
  let sev := max sev (match old with | some x => x.severity | none => 0)
  { b with log := { b.log with verdicts := rest ++ [Held.mk v sev] } }

/-- An image awaits its append (R474). -/
def markPending (i : Nat) (fresh : Bool) (b : Block) : Block :=
  if b.log.pending.any (·.index == i) then
    { b with log := { b.log with pending := b.log.pending.map fun (p : Pending) =>
        if p.index = i ∧ fresh then { p with fresh := true } else p } }
  else { b with log := { b.log with pending := b.log.pending ++ [Pending.mk i b.now fresh] } }

/-- A record of severity WARN or STOP awaits its copy into the tag's summary (R459). -/
def markSummary (i : Nat) (b : Block) : Block :=
  if b.tag.sumQueue.contains i then b else { b with tag := { b.tag with sumQueue := b.tag.sumQueue ++ [i] } }

/-- Something has been recorded since the start or is restored (R475). -/
def anyRecord (b : Block) : Bool := b.rd Reg.LOG.HELD_FOUND != 0 || b.rd Reg.LOG.HELD_CIRC != 0

/-- A field of a record image. -/
def imageVal (img : List Byte) (o n : Nat) : Nat := leValue ((img.drop o).take n)

/-- The event repeats the newest record, whose image is given (R469). -/
def repeats (img : List Byte) (b : Block) (e : Event) : Bool :=
  b.anyRecord && imageVal img 8 2 = e.code && imageVal img 10 1 = e.source && imageVal img 16 4 = e.arg0
    && imageVal img 20 4 = e.arg1 && imageVal img 28 1 = e.era

/-- R469: the newest record counts one more occurrence. -/
def writeRepeat (img : List Byte) (e : Event) (b : Block) : Block :=
  let i := b.rd Reg.LOG.NEWEST_INDEX
  let a := recordAt b.log.base i
  let flags := imageVal img 11 1
  let time := imageVal img 0 8
  -- once the count has saturated, last-seen alone follows
  let full := imageVal img 14 2 = 65535
  let sev := if full then flags % 4 else max (flags % 4) e.severity
  let e' : Event :=
    { e with time, severity := sev, cls := if full then flags / 4 % 4 else max (flags / 4 % 4) e.cls, aon := flags.testBit 5
             verdict := if full || imageVal img 12 2 != 0 then imageVal img 12 2 else e.verdict }
  let seen := min 0xFFFFFFFF ((e.time - time) / 65536)
  b |>.putWords a (recordBytes e' (flags.testBit 4) (min 65535 (imageVal img 14 2 + 1)) seen)
    |>.markPending i false |>.cond (2 ≤ sev) (markSummary i)

/-- R467: a new record, founding until 512 are held, then circulating. -/
def writeNew (e : Event) (b : Block) : Block :=
  let found := b.rd Reg.LOG.HELD_FOUND
  let i := if found < 512 then found else 512 + b.log.circ % 512
  let b := if found < 512 then b.wr Reg.LOG.HELD_FOUND (found + 1)
    else { b with log := { b.log with circ := b.log.circ + 1 } }
      |>.wr Reg.LOG.HELD_CIRC (min 512 (b.rd Reg.LOG.HELD_CIRC + 1))
  let b := { b with tag := { b.tag with
      sumSlots := b.tag.sumSlots.map fun x => match x with | some (j, _) => if j = i then none else x | none => none
      sumQueue := b.tag.sumQueue.filter (· != i) } }
  b |>.putWords (recordAt b.log.base i) (recordBytes e (i < 512) 1 0)
    |>.wr Reg.LOG.NEWEST_INDEX i |>.inc Reg.LOG.TOTAL_COUNT |>.markPending i true
    |>.irq 0x0B 0 |>.cond (2 ≤ e.severity) (markSummary i)

/-- One event recorded (R467 to R471), and the verdict it carries held (R470) (assumption 60, DEDUCED). -/
def record (e : Event) (b : Block) : Block :=
  let (b, img) := if b.anyRecord then b.readRange 11 (recordAt b.log.base (b.rd Reg.LOG.NEWEST_INDEX)) 32 else (b, [])
  let b := if b.repeats img e then b.writeRepeat img e else b.writeNew e
  b |>.cond (e.verdict != 0) (fun b => b |>.irq 0x0B 1 |>.holdVerdict e.verdict e.severity) |>.showLog

/-- One event written: those of the AON buffer ahead of every event of the start (R472), then the queue; where events were
lost, a LOST record follows when room returns (R471) (assumption 60, DEDUCED). -/
def recordWrite (b : Block) : Block :=
  -- what is raised during a clear waits for the marker (R476)
  if b.flash.due.contains .found then b else
  match b.log.aon ++ b.log.queue with
  | [] => b
  | e :: _ =>
    let b := (if b.log.aon.isEmpty then { b with log := { b.log with queue := b.log.queue.drop 1 } }
      else { b with log := { b.log with aon := b.log.aon.drop 1 } }).record e
    if b.log.lost = 0 then b
    else
      let n := b.log.lost
      { b with log := { b.log with lost := 0 } } |>.sysEvent 1 0x0B n 0

/-! LOG flash (R473 to R475). -/

def slotAt (j : Nat) : Nat := logBase + 64 * j

/-- Table LOG-3: a slot's image. -/
def slotBytes (img : List Byte) (index seq total : Nat) : List Byte :=
  let body := padTo 32 img ++ leBytes 2 0x474C ++ leBytes 2 index ++ leBytes 4 seq ++ leBytes 4 total
    ++ List.replicate 16 (0xFF : Byte)
  body ++ leBytes 2 (crc16 body) ++ [0xFF, 0xFF]

/-- Nothing is programmed in a range of flash. -/
def erased (b : Block) (a n : Nat) : Bool := !(b.mem.any fun e => inRange a n e.1)

def logSectorErased (b : Block) (k : Nat) : Bool := b.erased (logBase + 4096 * k) 4096

/-- Index and write sequence of a valid slot (R475: a slot whose CRC fails is skipped). -/
def slotValid (b : Block) (j : Nat) : Option (Nat × Nat) :=
  let a := slotAt j
  if b.val (a + 32) 2 = 0x474C ∧ b.val (a + 60) 2 = crc16 (b.bytes a 60) then some (b.val (a + 34) 2, b.val (a + 36) 4)
  else none

/-- All valid slots: (slot, index, write sequence). -/
def logSlots (b : Block) : List (Nat × Nat × Nat) :=
  (List.range 2048).filterMap fun j =>
    if b.erased (slotAt j) 64 then none else (b.slotValid j).map fun (i, q) => (j, i, q)

/-- The write sequence of the newest FOUND_CLEAR marker; 0 none. -/
def markerSeq (l : List (Nat × Nat × Nat)) : Nat :=
  (l.filter (·.2.1 = 0xFFFF)).foldl (fun m e => max m e.2.2) 0

/-- The newest image of each index that R475 keeps. -/
def liveSlots (l : List (Nat × Nat × Nat)) : List (Nat × Nat × Nat) :=
  let m := markerSeq l
  l.filter fun e =>
    (512 ≤ e.2.1 || m ≤ e.2.2) && !(l.any fun x => x.2.1 == e.2.1 && e.2.2 < x.2.2)

/-- `MIRROR.FREE`: erased sectors. -/
def logFree (b : Block) : Nat := ((List.range 32).filter b.logSectorErased).length

/-- An image programmed into the next slot. -/
def programSlot (bs : List Byte) (b : Block) : Block :=
  let j := b.log.slot
  { b.programFlash (slotAt j) bs with log := { b.log with slot := (j + 1) % 2048 } }

/-- The oldest sector erased after its live images are appended again, each with its write sequence and the count of records
at this append (R473, Table LOG-3) (assumption 61, DEDUCED). -/
def logCompact (b : Block) : Block :=
  let cur := b.log.slot / 64
  match ((List.range 32).map fun k => (cur + 1 + k) % 32).find? fun k => !b.logSectorErased k with
  | some k =>
    let live := (liveSlots b.logSlots).filter fun e => e.1 / 64 = k
    b |>.each live (fun e b =>
      b.programSlot (slotBytes (b.bytes (slotAt e.1) 32) e.2.1 e.2.2 (b.rd Reg.LOG.TOTAL_COUNT))) |>.eraseFlash (logBase + 4096 * k) 4096
  | none => b

/-- At least two sectors are kept erased (R473). -/
def logRoom : Nat → Block → Block
  | 0, b => b
  | n + 1, b => if b.logFree < 2 then logRoom n b.logCompact else b

/-- One image appended, numbered with the next write sequence (assumption 61, DEDUCED). -/
def appendImage (img : List Byte) (index : Nat) (b : Block) : Block :=
  let b := b.programSlot (slotBytes img index b.log.seq (b.rd Reg.LOG.TOTAL_COUNT))
  let b := { b with log := { b.log with seq := b.log.seq + 1 } }
  let b := logRoom 32 b
  b.wr Reg.LOG.MIRROR_FREE b.logFree

/-- A pending image appended (R474); a slot that fails its program is left undefined and the image waits on. -/
def appendPending (p : Pending) (ok : Bool) (b : Block) : Block :=
  if ok then
    let (b, img) := b.readRange 11 (recordAt b.log.base p.index) 32
    { b with log := { b.log with
        pending := b.log.pending.filter (·.index != p.index)
        appended := Store.put (fun _ => 0) p.index b.now b.log.appended } }
      |>.appendImage img p.index |>.showLog
  else
    let j := b.log.slot
    { b.scramble (slotAt j) 64 with log := { b.log with slot := (j + 1) % 2048 } } |>.err 0x0B 0

/-- A new record may be appended at once; a changed one 10 s after its last append (R474). -/
def mayAppend (b : Block) (p : Pending) : Bool :=
  p.fresh || Store.find (fun _ => 0) b.log.appended p.index + 100000 ≤ b.now

/-- Every pending image appended (R474, `CMD.FLUSH`), unless LOG is LASTING. -/
def flush (b : Block) : Block := b.cond (!b.pageLasting 0x0B) fun b => b.each b.log.pending fun p b => b.appendPending p true

/-- SRAM, the circulating place, the totals and the mirror rebuilt from LOG (R475); the verdict set empties but for a
SAFE latch's own (R470). -/
def logRestore (b : Block) : Block :=
  let base := b.rd Reg.LOG.BASE_ADDR
  let all := b.logSlots
  let live := (liveSlots all).filter (·.2.1 < 1024)
  let newest := live.foldl (fun (m : Nat × Nat) e => if m.2 < e.2.2 then (e.2.1, e.2.2) else m) (0, 0)
  let seq := all.foldl (fun m e => max m e.2.2) 0
  let total := all.foldl (fun m e => max m (b.val (slotAt e.1 + 40) 4)) 0
  let circs := (live.map (·.2.1)).filter (512 ≤ ·)
  let lastCirc := live.foldl (fun (m : Nat × Nat) e => if 512 ≤ e.2.1 ∧ m.2 < e.2.2 then (e.2.1 - 511, e.2.2) else m) (0, 0)
  let gap := (List.range 2048).find? fun j =>
    b.erased (slotAt j) 64 && !b.erased (slotAt ((j + 2047) % 2048)) 64
  let verdicts := if b.md.safeLatch ∧ b.md.safeVerdict ≠ 0 then [Held.mk b.md.safeVerdict 3] else []
  let b := b |>.putWords base (List.replicate 32768 0) |>.each live (fun e b =>
    b.putWords (recordAt base e.2.1) (b.bytes (slotAt e.1) 32))
  { b with log := { b.log with
      base, circ := lastCirc.1, pending := [], appended := [], seq := seq + 1, slot := gap.getD 0, verdicts, clrKey := none } }
    |>.wr Reg.LOG.HELD_FOUND (live.length - circs.length) |>.wr Reg.LOG.HELD_CIRC circs.length
    |>.wr Reg.LOG.NEWEST_INDEX newest.1 |>.wr Reg.LOG.TOTAL_COUNT total |>.wr Reg.LOG.MIRROR_FREE b.logFree |>.showLog

/-- The recorder has rebuilt its records at this start (R475); until then events wait in the queue. -/
def recorderUp (b : Block) : Bool := b.powered && (b.md.running || b.mode != Mode.wake)

/-- R471: `WR_GO`. -/
def wrGo (b : Block) : Block :=
  if b.log.queue.length < 16 then
    b.raise { code := 3 * 8192 + b.rd Reg.LOG.WR_CODE_CODE, source := 0x30, severity := b.rd Reg.LOG.WR_CODE_SEV
              verdict := wrVerdict (b.rd Reg.LOG.WR_CODE_VERDICT), arg0 := b.rd Reg.LOG.WR_ARG0_ARG
              arg1 := b.rd Reg.LOG.WR_ARG1_ARG }
  else b.err 0x0B 1

/-- What waits for the founding records is dropped. -/
def foundDrop (b : Block) : Block :=
  { b with
    log := { b.log with pending := b.log.pending.filter (512 ≤ ·.index) }
    tag := { b.tag with
      sumQueue := b.tag.sumQueue.filter (512 ≤ ·)
      sumSlots := b.tag.sumSlots.map fun x => match x with | some (j, _) => if j < 512 then none else x | none => none } }

/-- The marker appended, and records 0 to 511 emptied (assumption 61, DEDUCED). -/
def foundMark (b : Block) : Block :=
  b |>.appendImage (List.replicate 32 0xFF) 0xFFFF |>.putWords b.log.base (List.replicate (512 * 32) 0)
    |>.wr Reg.LOG.HELD_FOUND 0

/-- The founding area cleared (R476): the marker, the empty records, and the record that begins them anew. -/
def foundClear (b : Block) : Block :=
  let n := b.rd Reg.LOG.HELD_FOUND
  b |>.foundDrop |>.foundMark |>.writeNew { code := 9, source := 0x0B, arg0 := n, time := b.ft, era := b.era } |>.showLog

/-- `CMD.FLUSH` (R474). -/
def flushCmd (b : Block) : Block := b.flashOwn .flush flush

/-- `CMD.FOUND_CLR` (R476): in RETURN and SERVICE, within 100 drips of the key. -/
def foundClr (b : Block) : Block :=
  let armed : Bool := match b.log.clrKey with | some t => b.now ≤ t + 100 | none => false
  let b := { b with log := { b.log with clrKey := none } }
  b.cond (armed && b.lifecycle = 3 && b.mode == .service) (·.flashOwn .found foundClear)

/-- A write of `CLR_KEY` (R476). -/
def clrKeyWrite (key : Nat) (b : Block) : Block :=
  { b with log := { b.log with clrKey := if key = 0x46434C52 then some b.now else none } }

/-! The status LED (R478 to R480). -/

/-- The verdict to show: highest severity, newest among equals. -/
def ledChoice (b : Block) : Nat :=
  (b.log.verdicts.foldl (fun (m : Nat × Nat) v => if m.2 ≤ v.severity then (v.verdict, v.severity) else m) (0, 0)).1

/-- A digit's blinks as intervals in ms, lit or dark, the last dark one taken by the gap that follows (Table LOG-5). -/
def ledDigit (d gap : Nat) : List (Bool × Nat) :=
  let n := if d = 0 then 1 else d
  (List.range n).flatMap fun k =>
    [(true, if d = 0 then 700 else 250), (false, if k + 1 = n then gap else 350)]

/-- The verdict cycle of Table LOG-5: area, tens, units. -/
def ledVerdict (v : Nat) : List (Bool × Nat) :=
  let area := v / 4096 % 16
  (List.range area).flatMap (fun k => [(true, 700), (false, if k + 1 = area then 1500 else 300)])
    ++ ledDigit (v / 16 % 16) 1500 ++ ledDigit (v % 16) 3000

/-- One cycle of the LED's pattern (Table LOG-5); empty for a constant level. -/
def ledIntervals (b : Block) : List (Bool × Nat) :=
  let p := b.rd Reg.GPIO.LED_STAT_PATTERN
  let v := b.rd Reg.GPIO.LED_STAT_SHOWN
  if p = 1 then
    let n := b.log.ledWinks
    (List.range n).flatMap fun k => [(true, 50), (false, if k + 1 = n then 2000 - 50 * n - 250 * (n - 1) else 250)]
  else if p = 2 then ledVerdict v
  else if p = 3 then [(true, 1000), (false, 1000)] ++ (if v = 0 then [] else ledVerdict v)
  else []

/-- The cycle of the pattern shown is still in progress (R478). -/
def ledBusy (b : Block) : Bool :=
  decide (b.now < b.log.ledFrom + 10 * (b.ledIntervals.foldl (fun n e => n + e.2) 0))

/-- The choice at the start of an LED cycle (R478, Table LOG-5, R479); the LED is dark while GPIO is LASTING (Table ERR-1). -/
def ledCycle (b : Block) : Block :=
  let v := b.ledChoice
  let p := if !b.powered || b.pageLasting 0x2C then 0 else if b.mode == .service && b.is Reg.GPIO.LED_OVR_EN then 4
    else if b.mode == .safe then 3 else if v = 0 then 1 else 2
  let v := if p = 2 then v else if p = 3 then (if b.md.safeVerdict = 0 then v else b.md.safeVerdict) else 0
  if b.ledBusy then b
  else { b with log := { b.log with
      ledFrom := b.now, ledWinks := match b.mode with | .wake => 1 | .pump => 2 | .field => 3 | _ => 4 } }
    |>.wr Reg.GPIO.LED_STAT_SHOWN v |>.wr Reg.GPIO.LED_STAT_PATTERN p |>.showLog

/-- The LED at `t` ms from the start of its cycle (R479): dark where nothing powers it, and the override's own in SERVICE. -/
def ledOn (b : Block) (t : Nat) : Bool :=
  if !b.powered || b.pageLasting 0x2C then false
  else if b.mode == .service && b.is Reg.GPIO.LED_OVR_EN then b.is Reg.GPIO.LED_OVR_ON
  else
    (b.ledIntervals.foldl (fun (acc : Nat × Bool) e =>
      (acc.1 + e.2, acc.2 || (e.1 && decide (acc.1 ≤ t) && decide (t < acc.1 + e.2)))) (0, false)).2

/-- The LED ball, after its polarity: high or low (Table GPIO-1), and none, high impedance, without power (R517). -/
def ledBall (b : Block) (t : Nat) : Option Bool :=
  if b.powered then some (b.ledOn t == b.is Reg.GPIO.LED_CFG_POL) else none

/-- `LED_ACK` (R478): the shown verdict leaves the set, but for a SAFE cause in SAFE. -/
def ledAck (b : Block) : Block :=
  let v := b.rd Reg.GPIO.LED_STAT_SHOWN
  if v = 0 || (b.mode == .safe && b.md.safeLatch && v = b.md.safeVerdict) then b
  else { b with log := { b.log with verdicts := b.log.verdicts.filter (·.verdict != v) } } |>.showLog

/-- R468: the severity that the part sets on a code of kind SYSTEM, ERR or TEST; others bring their own
(assumption 20, DEDUCED). -/
def severityOf (code sev : Nat) : Nat :=
  if code / 8192 = 0 then (if code = 4 then 3 else if code = 0x10 ∨ code = 0x12 then 2 else if code = 0x14 then max 2 sev else 0)
  else if code / 8192 = 1 then 1
  else if code / 8192 = 2 then (if code / 4 % 4 = 2 then max 2 sev else 1)
  else sev

end Block

/-- EVENT_RAISE (R471, R472, R558): a block or agent raises an event. -/
def execEventRaise (code : BitVec 16) (source : Fin 0x34) (sev : Fin 4) (verdict : BitVec 16) (a0 a1 : Word)
    (s : State) : Host.Outcome State Fault Refusal :=
  s.run (Block.raise { code := code.toNat, source, severity := Block.severityOf code.toNat sev
                       cls := if code.toNat / 8192 = 2 then code.toNat / 4 % 4 else 0
                       verdict := verdict.toNat, arg0 := a0.toNat, arg1 := a1.toNat })

/-- RECORD_WRITE (R469, R471): the recorder writes one queued event, once it has rebuilt its records at this start (R475). -/
def execRecordWrite (s : State) : Host.Outcome State Fault Refusal :=
  s.run fun b => b.cond b.recorderUp Block.recordWrite

/-- WR_GO (R471). -/
def execWrGo (s : State) : Host.Outcome State Fault Refusal := s.run Block.wrGo

/-- EVENT_PORT_WRITE (R471): a word written to the event port of the GNSS core (`radio` false) or the RADIO core;
the third raises the event. The first word is laid out as `WR_CODE` (assumption 20). -/
def execEventPortWrite (radio : Bool) (w : Word) (s : State) : Host.Outcome State Fault Refusal :=
  s.run fun b =>
    let l := (if radio then b.log.portRadio else b.log.portGnss) ++ [w]
    let keep (l : List Word) (b : Block) : Block :=
      if radio then { b with log := { b.log with portRadio := l } } else { b with log := { b.log with portGnss := l } }
    match l with
    | w0 :: w1 :: w2 :: _ =>
      b |> keep [] |>.raise { code := (if radio then 5 else 4) * 8192 + bitsOf 12 0 w0.toNat
                              source := if radio then 0x32 else 0x31, severity := bitsOf 17 16 w0.toNat
                              arg0 := w1.toNat, arg1 := w2.toNat }
    | l => b |> keep l

/-- LOG_APPEND (R473, R474): the oldest image that may be appended; `ok` is the flash's verify. -/
def execLogAppend (ok : Bool) (s : State) : Host.Outcome State Fault Refusal :=
  s.run fun b =>
    match b.log.pending.find? b.mayAppend with
    -- the mirror stops while LOG is LASTING (Table ERR-1)
    | some p => b.cond (b.powered && !b.pageLasting 0x0B) (·.flashTurn 2 (Block.appendPending p ok))
    | none => b

/-- FLUSH (R474). -/
def execFlush (s : State) : Host.Outcome State Fault Refusal := s.run Block.flushCmd

/-- CLR_KEY_WRITE (R476). -/
def execClrKeyWrite (key : Word) (s : State) : Host.Outcome State Fault Refusal := s.run (Block.clrKeyWrite key.toNat)

/-- FOUND_CLR (R476). -/
def execFoundClr (s : State) : Host.Outcome State Fault Refusal := s.run Block.foundClr

/-- LED_CYCLE_START (R478). -/
def execLedCycleStart (s : State) : Host.Outcome State Fault Refusal := s.run Block.ledCycle

/-- LED_ACK (R478). -/
def execLedAck (s : State) : Host.Outcome State Fault Refusal := s.run Block.ledAck

end Sys2Proof.Machine
end

