-- ==== Sys2Proof/Machine/Maps.lean ====
section
/-! DEFINITION. Checkpoints and the MAPS region (R209 to R213, R220). -/

namespace Sys2Proof.Machine
namespace Block

def homeBase : Nat := 0x10342000
def journalBase : Nat := 0x103C2000
def journalAt (i : Nat) : Nat := journalBase + 1024 * (i % 248)

/-- Inverted bytes, as MAPS holds them (R209). -/
def inverted (bs : List Byte) : List Byte := bs.map fun x => ~~~x

/-- Page 0 of a journal record (Table GAL-6). -/
def journalHead (t seq num id : Nat) (last fold : Bool) (data : List Byte) : List Byte :=
  let h := leBytes 2 0x524A ++ leBytes 2 t ++ leBytes 4 seq ++ leBytes 4 num ++ leBytes 4 id
    ++ leBytes 1 (bit last + 2 * bit fold) ++ [0xFF, 0xFF, 0xFF] ++ leBytes 4 (crc32 data)
  h ++ leBytes 2 (crc16 h)

/-- A valid journal record: its slot, tile, sequence, checkpoint and flags (R210). -/
structure Journal where
  slot : Nat
  tile : Nat
  seq : Nat
  num : Nat
  last : Bool
  fold : Bool
  deriving DecidableEq, Repr

def mapId (b : Block) : Nat := b.rd Reg.GAL0.MAP_ID_ID

def journalRead (b : Block) (i : Nat) : Option Journal :=
  let h := b.bytes (journalAt i) 26
  let v (o n : Nat) : Nat := leValue ((h.drop o).take n)
  let data := b.bytes (journalAt i + 256) 512
  if v 0 2 = 0x524A ∧ v 24 2 = crc16 (h.take 24) ∧ v 20 4 = crc32 data ∧ v 12 4 = b.mapId ∧ v 2 2 < 1024 then
    some { slot := i, tile := v 2 2, seq := v 4 4, num := v 8 4, last := (v 16 1).testBit 0, fold := (v 16 1).testBit 1 }
  else none

/-- Slots that hold nothing are not read twice: only sectors with programmed bytes are looked at. -/
def journal (b : Block) : List Journal :=
  (List.range 248).filterMap fun i => if b.erased (journalAt i) 1024 then none else b.journalRead i

/-- The last complete checkpoint (R210); a FOLD record carries its number too (R211) (assumption 138, DEDUCED). -/
def lastComplete (l : List Journal) : Nat := l.foldl (fun m j => if j.last || j.fold then max m j.num else m) 0

/-- Erased journal records, shown in `MAPSTAT.FREE`. -/
def journalFree (b : Block) : Nat := ((List.range 248).filter fun i => b.erased (journalAt i) 1024).length

def showFree (b : Block) : Block := b.wr Reg.GAL0.MAPSTAT_FREE b.journalFree

/-- The next erased slot from the write slot on; none when the journal is full. -/
def nextSlot (b : Block) : Option Nat :=
  ((List.range 248).map fun k => (b.gal.slot + k) % 248).find? fun i => b.erased (journalAt i) 1024

/-- The write slot moved to the next erased one. -/
def seekSlot (b : Block) : Block := { b with gal := { b.gal with slot := b.nextSlot.getD b.gal.slot } }

/-- A record programmed into the next erased slot: data pages first and page 0 last (R210). -/
def journalWrite (t num : Nat) (last fold : Bool) (data : List Byte) (b : Block) : Block :=
  let b := b.seekSlot
  let a := journalAt b.gal.slot
  let b := b |>.programFlash (a + 256) data |>.programFlash a (journalHead t b.gal.seq num b.mapId last fold data)
  { b with gal := { b.gal with slot := (b.gal.slot + 1) % 248, seq := b.gal.seq + 1 } }

/-! Checkpoints (R210, R220). -/

/-- A checkpoint starts, and with every start the count of 1,000 pools begins anew (assumption 176, DESIGN CHOICE); with no tile
dirty it writes nothing, and none starts while one runs, but that the forced one follows it. -/
def ckptStart (forced : Bool) (b : Block) : Block :=
  let b := { b with gal := { b.gal with ckptPools := 0 } }
  if b.gal.ckpt.isSome then
    { b with gal := { b.gal with ckpt := b.gal.ckpt.map fun (c : Ckpt) => { c with again := c.again || forced } } }
  -- a LASTING CKPT_FAIL keeps coverage in SRAM only (R220)
  else if b.gal.dirty.isEmpty || b.is Reg.GAL0.MAPSTAT_SUSP || b.isLasting ⟨0x10, 0, 0⟩ then b
  else
    { b with gal := { b.gal with
        ckpt := some { tiles := b.gal.dirty, num := b.rd Reg.GAL0.CKPT_NUM_NUM + 1, forced }, dirty := [] } }
      |>.wr Reg.GAL0.MAPSTAT_BUSY 1 |>.showDirty

/-- The forced checkpoint of the leaving sequence has ended (R75). -/
def forcedDone (b : Block) : Block :=
  { b with md := { b.md with leaving := b.md.leaving.map fun (l : Leave) =>
      if l.stage = 3 then { l with stage := 4 } else l } }

/-- The forced checkpoint, after one that runs (assumption 139, DEDUCED); with nothing to write it has ended at once. -/
def ckptRun (b : Block) : Block :=
  let b := b.ckptStart true
  b.cond b.gal.ckpt.isNone forcedDone

/-- The forced checkpoint starts (R24). -/
def ckptForce (b : Block) : Block :=
  { b with md := { b.md with leaving := b.md.leaving.map fun (l : Leave) => { l with stage := 3 } } }.ckptRun

/-- The running checkpoint ends (R210, R220). -/
def ckptClose (done : Bool) (c : Ckpt) (b : Block) : Block :=
  let b := { b with gal := { b.gal with ckpt := none } } |>.wr Reg.GAL0.MAPSTAT_BUSY 0 |>.flashGiveUp 3
  let b := if done then b |>.wr Reg.GAL0.CKPT_NUM_NUM c.num |>.irq 0x10 3
    else
      -- the tiles not yet recorded stay dirty
      { b with gal := { b.gal with dirty := b.gal.dirty ++ c.tiles.filter fun t => !b.gal.dirty.contains t } }
        |>.showDirty |>.err 0x10 0
  -- a forced checkpoint that follows is the one whose end counts (R80)
  if c.again then b.ckptRun else b.cond c.forced forcedDone

/-- One journal record of the running checkpoint (R210, R220); `ok` tells that it verified. -/
def ckptRecord (ok : Bool) (b : Block) : Block :=
  match b.gal.ckpt with
  | none => b
  | some c =>
    match c.tiles with
    | [] => b.ckptClose true c
    | t :: rest =>
      if b.nextSlot.isNone then b
      else if ok then
        let (b, data) := b.readRange 10 (coverBase + t * 512) 512
        let b := b |>.journalWrite t c.num rest.isEmpty false (inverted data) |>.showFree
        let c := { c with tiles := rest }
        if rest.isEmpty then b.ckptClose true c else { b with gal := { b.gal with ckpt := some c } }
      else
        -- the slot is abandoned with an open content
        let b := b.seekSlot
        let b := b |>.scramble (journalAt b.gal.slot) 1024 |>.showFree
        let b := { b with gal := { b.gal with slot := (b.gal.slot + 1) % 248, seq := b.gal.seq + 1 } }
        let c : Ckpt := { c with fails := c.fails + 1 }
        if 3 ≤ c.fails then b.ckptClose false c else { b with gal := { b.gal with ckpt := some c } }

/-- The moments of R210 at which a checkpoint starts by itself. -/
def ckptDue (b : Block) : Block :=
  if b.mode == .field && b.gal.ckpt.isNone && b.md.leaving.isNone
      && (1000 ≤ b.gal.ckptPools || 96 ≤ b.gal.dirty.length) then b.ckptStart false
  else
    match b.md.leaving with
    | some l => if l.stage = 2 ∧ l.goal = none ∧ b.gal.events.isEmpty ∧ b.gal.wasOpen.isEmpty ∧ l.closeAt ≤ b.tick.pools then b.ckptForce else b
    | none => b

/-! Folding (R211). -/

/-- A tile's current flash content: its newest valid record, or its home. -/
def flashTile (b : Block) (l : List Journal) (t : Nat) : List Byte :=
  match (l.filter fun j => j.tile = t).foldl (fun (m : Option Journal) j =>
      match m with
      | some x => if x.seq < j.seq then some j else m
      | none => some j) none with
  | some j => b.bytes (journalAt j.slot + 256) 512
  | none => b.bytes (homeBase + 512 * t) 512

/-- The home sector of 8 tiles folded (R211): records of all 8, the erase, and the home programmed. -/
def foldHome (h : Nat) (b : Block) : Block :=
  let l := b.journal
  let num := b.rd Reg.GAL0.CKPT_NUM_NUM
  let tiles := (List.range 8).map fun k => (8 * h + k, b.flashTile l (8 * h + k))
  let b := b.each tiles fun t => journalWrite t.1 num false true t.2
  let b := b.eraseFlash (homeBase + 4096 * h) 4096
  b.each tiles fun t => programFlash (homeBase + 512 * t.1) t.2

/-- The oldest journal sector: the first with programmed bytes after the write slot's, valid records or not. -/
def oldestSector (b : Block) : Option Nat :=
  ((List.range 62).map fun k => (b.gal.slot / 4 + 1 + k) % 62).find? fun k => !b.erased (journalBase + 4096 * k) 4096

/-- The oldest journal sector made free (R211), once the map has been restored (assumption 138, DEDUCED). -/
def journalFold (b : Block) : Block :=
  if b.is Reg.GAL0.MAPSTAT_SUSP || !b.is Reg.GAL0.MAPSTAT_RESTORED || 128 ≤ b.journalFree then b
  else match b.oldestSector with
    | none => b
    | some sector =>
      let l := b.journal
      let newest (j : Journal) : Bool := l.all fun x => x.tile != j.tile || x.seq ≤ j.seq
      let homes := ((l.filter fun j => j.slot / 4 = sector && newest j
        && b.bytes (journalAt j.slot + 256) 512 != b.bytes (homeBase + 512 * j.tile) 512).map (·.tile / 8)).eraseDups
      b |>.each homes foldHome |>.eraseFlash (journalBase + 4096 * sector) 4096 |>.showFree

/-! The map header, CLEAR and the restore (R212, R213). -/

def headerAt (k : Nat) : Nat := mapsBase + 4096 * k

/-- A valid header copy: its sequence (Table GAL-5). -/
def headerSeq (b : Block) (k : Nat) : Option Nat :=
  let h := b.bytes (headerAt k) 40
  if leValue (h.take 4) = 0x50414D4C ∧ leValue (h.drop 38) = crc16 (h.take 38) then some (leValue ((h.drop 4).take 4))
  else none

/-- The geometry bytes of the header: `CELL`, three bytes 0xFF, and the four plot fields. -/
def geometry (b : Block) : List Byte :=
  leBytes 1 (b.rd Reg.GAL0.GRID_CELL) ++ [0xFF, 0xFF, 0xFF] ++ leBytes 4 (b.rd Reg.GAL0.REF_LAT_LAT)
    ++ leBytes 4 (b.rd Reg.GAL0.REF_LON_LON) ++ leBytes 4 (b.rd Reg.GAL0.ORIG_E_E) ++ leBytes 4 (b.rd Reg.GAL0.ORIG_N_N)

/-- The valid copy with the higher sequence. -/
def headerNow (b : Block) : Option Nat :=
  match b.headerSeq 0, b.headerSeq 1 with
  | some x, some y => some (if x < y then 1 else 0)
  | some _, none => some 0
  | none, some _ => some 1
  | none, none => none

/-- The SRAM map emptied through the coverage port, up to a granule that its fence permissions deny it (R162, R163). -/
def emptyMap (b : Block) : Block :=
  let n := ((List.range 16384).takeWhile fun k => b.allowed 0 (coverBase + 32 * k) 1).length
  { b with
    mem := b.mem.filter fun e => !inRange coverBase (32 * n) e.1
    flips := b.flips.filter fun e => !inRange coverBase (32 * n) (e.1 * 4) }
    |>.cond (n < 16384) (·.violation 1 (coverBase + 32 * n) 1)

/-- A tile of SRAM loaded through the coverage port from its inverted flash content. -/
def loadTile (t : Nat) (data : List Byte) (b : Block) : Block := (b.store 1 (coverBase + 512 * t) (inverted data)).1

/-- The map restored from MAPS at the first entry into FIELD (R212). -/
def mapRestore (b : Block) : Block :=
  if b.is Reg.GAL0.MAPSTAT_RESTORED then b
  else
    let b := { b.emptyMap with gal := { b.gal with dirty := [], ckpt := none } } |>.wr Reg.GAL0.MAPSTAT_RESTORED 1
      |>.wr Reg.GAL0.MAPSTAT_DIRTY 0 |>.wr Reg.GAL0.MAPSTAT_BUSY 0
    let good := match b.headerNow with
      | some k => b.bytes (headerAt k + 12) 20 == b.geometry
      | none => false
    if !good then b |>.wr Reg.GAL0.MAPSTAT_SUSP 1 |>.err 0x10 3 |>.verdict (Verdict.se 5) 0x10 |>.showFree
    else
      let k := b.headerNow.getD 0
      let b := b |>.wr Reg.GAL0.MAP_ID_ID (b.val (headerAt k + 8) 4) |>.wr Reg.GAL0.MAPSTAT_SUSP 0
      let l := b.journal
      let num := lastComplete l
      let seq := l.foldl (fun m j => max m (j.seq + 1)) 1
      let newestSlot := l.foldl (fun (m : Nat × Nat) j => if m.1 < j.seq then (j.seq, (j.slot + 1) % 248) else m) (0, 0)
      -- homes: only tiles with programmed bytes hold anything
      let homes := (List.range 1024).filter fun t => !b.erased (homeBase + 512 * t) 512
      let b := b.each homes fun t b => b.loadTile t (b.bytes (homeBase + 512 * t) 512)
      let use := l.filter fun j => j.num ≤ num
      let b := b.each ((use.map (·.tile)).eraseDups) fun t b => b.loadTile t (b.flashTile use t)
      { b with gal := { b.gal with seq, slot := newestSlot.2 } } |>.wr Reg.GAL0.CKPT_NUM_NUM num |>.showFree

/-- The map cleared (R213). -/
def mapClear (b : Block) : Block :=
  if b.mode == .field then b
  else
    let old := match b.headerNow with | some k => 1 - k | none => 0
    let seq := match b.headerNow with | some k => (b.headerSeq k).getD 0 + 1 | none => 1
    let id := (Config.freeWord b.free).toNat
    let b := (b.draw 1).emptyMap
    let b := { b with gal := { b.gal with dirty := [], ckpt := none, seq := 1, slot := 0 } }
      |>.eraseFlash homeBase 0x80000 |>.eraseFlash journalBase 0x3E000
    let h := leBytes 4 0x50414D4C ++ leBytes 4 seq ++ leBytes 4 id ++ b.geometry ++ leBytes 6 b.ft
    b |>.eraseFlash (headerAt old) 4096 |>.programFlash (headerAt old) (h ++ leBytes 2 (crc16 h))
      |>.wr Reg.GAL0.MAP_ID_ID id |>.wr Reg.GAL0.MAPSTAT_SUSP 0 |>.wr Reg.GAL0.MAPSTAT_DIRTY 0
      |>.wr Reg.GAL0.MAPSTAT_BUSY 0 |>.forcedDone |>.flashGiveUp 3 |>.showFree

/-- `MAPCMD.CLEAR` (R213). -/
def clearCmd (b : Block) : Block := b.cond (b.mode != .field) (·.flashOwn .clear mapClear)

end Block

/-- CHECKPOINT_START (R210): the moments at which a checkpoint starts by itself. -/
def execCheckpointStart (s : State) : Host.Outcome State Fault Refusal := s.run Block.ckptDue

/-- CKPT (R210): a write of 1 to `MAPCMD.CKPT`. -/
def execCkpt (s : State) : Host.Outcome State Fault Refusal :=
  s.run fun b => b.cond b.powered (Block.ckptStart false)

/-- CHECKPOINT_RECORD_WRITE (R210, R220): `ok` tells that the record verified. -/
def execCheckpointRecordWrite (ok : Bool) (s : State) : Host.Outcome State Fault Refusal := s.run (Block.flashTurn 3 (Block.ckptRecord ok))

/-- JOURNAL_FOLD (R211). -/
def execJournalFold (s : State) : Host.Outcome State Fault Refusal :=
  s.run (Block.flashTurn 3 Block.journalFold)

/-- CLEAR (R213). -/
def execClear (s : State) : Host.Outcome State Fault Refusal := s.run Block.clearCmd

end Sys2Proof.Machine
end

