-- ==== Sys2Proof/Machine/Reset.lean ====
section
/-! DEFINITION. What resets keep and lose: the descent from the powered modes (R58, R80, R81), power-up of SYS, the reset
of MAIN (R86), and the loss of the AON domain (R539). -/

namespace Sys2Proof.Machine
namespace Block

/-! What stays. -/

/-- Registers that AON or the tag hold while SYS is off (R58, R94, R102, R400, R419, R452)
(assumption 4, DESIGN CHOICE). -/
def aonFields : List Fld :=
  [Reg.SYS.MODE_CUR, Reg.SYS.MODE_PREV, Reg.SYS.MODE_CAUSE, Reg.SYS.RESET_CAUSE_POR, Reg.SYS.RESET_CAUSE_BROWNOUT,
   Reg.PWR.SUPPLY_VIN_OK, Reg.PWR.SUPPLY_V1V8_OK, Reg.PWR.SUPPLY_VBAT_OK, Reg.KEY.SLOT_STAT_S,
   Reg.DBG.FAILS_CNT, Reg.DBG.FAILS_LOCK_S, Reg.LOG.LOST_COUNT, Reg.RADSEC.FC_FC,
   Reg.TIME.TSTAT_ERA, Reg.TIME.TSTAT_AON_LOST, Reg.TIME.TSTAT_SEED_USED, Reg.TIME.ERA_OFS_OFS 0, Reg.TIME.ERA_OFS_OFS 1,
   Reg.TAG.FSTAT_FIELD, Reg.TAG.FSTAT_ACTIVE, Reg.TAG.FSTAT_AUTH, Reg.TAG.SEQ_SEQ, Reg.TAG.AUTH_FAIL_CNT]

/-- Registers that a reset of MAIN leaves beside those: the mode controller's, the supply measurements, the position of
the tick, and the time base. -/
def resetFields : List Fld :=
  aonFields ++
  [Reg.SYS.SAFE_CAUSE_CODE, Reg.SYS.SAFE_CAUSE_PAGE, Reg.SYS.MODE_LEAVING,
   Reg.SYS.RESET_CAUSE_MAIN_RST, Reg.SYS.RESET_CAUSE_SW, Reg.SYS.RESET_CAUSE_DEBUG,
   Reg.CLK.CSTAT_TCXO_OK, Reg.CLK.CSTAT_XT32M_OK, Reg.CLK.CSTAT_XT32K_OK, Reg.CLK.CSTAT_PLL_LOCK, Reg.CLK.CSTAT_RUN,
   Reg.PWR.VOLT_VPV, Reg.PWR.VOLT_VOC, Reg.PWR.PPV_PPV, Reg.PWR.PPV_SURPLUS, Reg.PWR.SUPPLY_VCORE_OK,
   Reg.TICK.POS_DRIP, Reg.TICK.POS_POOL, Reg.TICK.POS_EPOCH, Reg.TICK.CYC_CYC, Reg.HDR.TICK_FALLBACK,
   Reg.HDR.TICK_DEGRADE 1, Reg.TICK.GAL_PRED_PRED, Reg.CAL.RES_RES, Reg.FLASH.RES_RES, Reg.DBG.LEVEL_EFF]

/-- A key of the page's `LOCK` register. -/
def isLockKey (k : Nat) : Bool := k / 32 % 0x400 == 0x028

/-- Registers after a power-up of SYS; with `rad`, those of the radio, whose domain has not been gated (R27), and with `snap`
what stands in the snapshot slots, whose banks have been retained (R255). -/
def coldRegs (rad snap : Bool) (m : RegFile) : RegFile :=
  m.filter fun e =>
    (aonFields.map Fld.key).contains e.1 || (rad && (pageOfKey e.1 = 0x28 || pageOfKey e.1 = 0x29))
      || (snap && e.1 = Reg.GSNAP.SLOTS_S.key)

/-- Registers after a reset of MAIN: the gallery's stay, and no page stays locked (R86, R13). -/
def warmRegs (m : RegFile) : RegFile :=
  m.filter fun e =>
    (0x10 ≤ pageOfKey e.1 && pageOfKey e.1 ≤ 0x13 && !isLockKey e.1) || (resetFields.map Fld.key).contains e.1

/-- The tag as the wired side leaves it when power goes, and as a start finds it: its wired commits are gone (R481)
(assumption 37, DEDUCED). -/
def tagKept (t : TagCtl) : TagCtl := { t with queue := [], job := none, sumQueue := [] }

/-- Operations that SYS or MAIN leave behind: an advance is cut short, a slot under a key operation keeps what it held
(assumption 126, DESIGN CHOICE), and key rewrites that waited are installed when nothing holds them (R107)
(assumption 38, DEDUCED). -/
def dropJobs (b : Block) : Block :=
  let b := b.cutAdvance
  let waits := b.sec.pending.map (·.1)
  { b with sec := { b.sec with job := none, keyOp := none, armed := none } } |>.each waits fun n => installPending n

/-! The descent (R80). -/

/-- SRAM banks that a mode retains (Table MODE-1). -/
def bankKept (m : Mode) (n : Nat) : Bool := m.powered || (m == .snapshot && 6 ≤ n)

/-- Queued events are written and every pending image appended (R471, R474), once the recorder has its records
(assumption 39, DEDUCED). -/
def drain (b : Block) : Block := b.cond b.recorderUp fun b => (b.each (List.range 25) fun _ => recordWrite).flush

/-- `RESET_CAUSE` names the cause of the last start alone (assumption 45, DEDUCED). -/
def startCause (f : Fld) (b : Block) : Block :=
  b |>.each [Reg.SYS.RESET_CAUSE_POR, Reg.SYS.RESET_CAUSE_BROWNOUT, Reg.SYS.RESET_CAUSE_MAIN_RST, Reg.SYS.RESET_CAUSE_SW,
    Reg.SYS.RESET_CAUSE_DEBUG] (fun g => wr g 0) |>.wr f 1

/-- What the radio loses when RAD is gated: the frame on the air; in SHELF the RADIO core's memory too. -/
def radioOff (m : Mode) (b : Block) : Block :=
  b.setRadio (fun r => { r with tx := none }) |>.cond (m == Mode.shelf) radioReset

/-- The powered modes are left: domains are gated, agents and what is not retained are lost (R58)
(assumption 39, DEDUCED). -/
def descend (m : Mode) (cause : Nat) (b : Block) : Block :=
  let b := b |>.cond b.powered drain |>.flashCut |>.radioOff m |>.dropJobs |>.enterMode m cause
  { b with
    md := { b.md with
      running := false, request := 0, step := none, leaving := none, pvGood := b.md.pvGood, sumVpv := 0, sumPower := 0, samples := 0 }
    agents := { b.agents with loop := false, gnss := false, radio := b.agents.radio && m != Mode.shelf, tries := [0, 0, 0] }
    ramLoop := [], ramGnss := [], ramRadio := if m == Mode.shelf then [] else b.ramRadio
    gal := { b.gal with ckpt := none }
    upd := {}
    tag := tagKept b.tag
    tick := {} }
    |>.wr Reg.SYS.MODE_LEAVING 0
    |>.clearBanks ((List.range 8).filter fun n => !bankKept m n)

/-- All-closed commands with the earliest switch drip (R80, R380). -/
def closeNow (b : Block) : Block :=
  let w0 := b.now + 200 - b.drip
  let nodes := ((List.range 64).map (· + 0x10)).filter b.nodeReady
  let b := b.each b.allClosed fun d b => b.commit d.1 false false true w0
  { b with gal := { b.gal with cmds := nodes.map (fun a => (a, b.windowDrip, 0)), decided := [], probes := [] } }

/-- `PVG.OFF` and `PVG.SNAP_MIN` in effect: at most `ON` − 4, and at most `OFF` (R85, R128). -/
def pvOff (b : Block) : Nat := min (b.rd Reg.PWR.PVG_OFF) (b.rd Reg.PWR.PVG_ON - 4)
def snapMin (b : Block) : Nat := min (b.rd Reg.PWR.PVG_SNAP_MIN) b.pvOff

/-- The mode after a loss of PV good (Table MODE-2). `ball` is the VPV ball's voltage in 10 mV. -/
def afterLoss (b : Block) (ball : Nat) : Mode :=
  if b.is Reg.PWR.SNAP_EN && b.snapMin ≤ ball && b.is Reg.PWR.SUPPLY_VIN_OK then .snapshot else .dark

/-- COLLAPSE_SEQUENCE (R80, R451): outputs safe, sections latched closed, and from FIELD the forced checkpoint, at whose end
the domains are gated (assumption 33, DEDUCED; assumption 35, DEDUCED). -/
def collapse (ball : Nat) (b : Block) : Block :=
  let m := b.afterLoss ball
  let b := { b with upd := { b.upd with paused := false } }
  if b.mode == .field || b.md.leaving.isSome then
    let l : Leave := { goal := some (m, 2), atEdge := false }
    let b := { b.closeNow.drain with md := { b.md with leaving := some l, next := none, step := none, request := 0 } }
      |>.wr Reg.SYS.MODE_LEAVING 1 |>.pwmForce |>.ckptForce
    match b.md.leaving with
    | some l => b.cond (l.stage = 4) (descend m 2)
    | none => b
  else b.descend m 2

/-! Power-up and the reset of MAIN. -/

/-- SYS and its blocks come up (R58, R76 step 1, R78): what AON, the tag, flash and OTP hold is kept
(assumption 37, DEDUCED). -/
def powerUp (b : Block) : Block :=
  let old := b.mode
  let nb : Block :=
    { regs := coldRegs (b.timedDomain 6) (old == .snapshot) b.regs, mem := b.mem, flips := b.flips, ramRadio := b.ramRadio, ft := b.ft, now := b.now
      edges := b.edges, free := b.free
      resp := b.resp
      log := { aon := b.log.aon, lost := b.log.lost, verdicts := b.log.verdicts }
      test := { esc := b.test.esc }
      md := { pvGood := b.md.pvGood, safeLatch := b.md.safeLatch, safeCode := b.md.safeCode, safePage := b.md.safePage
              safeVerdict := b.md.safeVerdict, holdupShort := b.md.holdupShort, brownout := b.md.brownout
              external18 := b.md.external18, late18 := b.md.late18, aonLost := b.md.aonLost, pools := b.md.pools }
      sec := { slots := b.sec.slots, returnDone := b.sec.returnDone }
      dbg := { lockEnd := b.dbg.lockEnd }
      cal := { rewrite := b.cal.rewrite, count := b.cal.count }
      -- only the core that has run through DARK runs on (R20, R27)
      agents := { radio := b.agents.radio && old == .dark }
      drive := { flt := b.drive.flt }
      tag := tagKept b.tag
      radio := b.radio
      time := { b.time with act := none, slew := none }
      gnss := { timeRec := b.gnss.timeRec } }
  nb |>.wr Reg.PWR.SUPPLY_V1V8_OK 1 |>.wr Reg.PWR.SUPPLY_VCORE_OK 1 |>.wr Reg.SEC.LC_STATE nb.lcState
    -- a window of DARK that is open goes on (R27), and the tag in a reader's field (R452, R461)
    |>.wr Reg.CLK.CSTAT_RUN ((if b.timedDomain 6 then 64 else 0) + (if b.running 8 then 256 else 0))
    |>.wr (Reg.HDR.ERR 0x02) (if b.md.late18 then 16 else 0)
    |>.startCause (if b.md.brownout then Reg.SYS.RESET_CAUSE_BROWNOUT else Reg.SYS.RESET_CAUSE_POR)
    |>.clearBanks ((List.range 8).filter fun n => !bankKept old n)
    |>.enterMode .wake 1

/-- The reset of MAIN (R86): outputs safe in hardware, WAKE, the standing requests gone, L at 0; the gallery goes on
(assumption 37, DEDUCED). -/
def mainReset (cause : ResetCause) (b : Block) : Block :=
  if !b.powered then b
  else
    let field := b.mode == .field
    let b := { b with
      drive := { b.drive with mainReset := true }
      agents := { b.agents with loop := false, gnss := false, radio := false, tries := [0, 0, 0] }
      md := { b.md with running := false, request := 0, step := none, follow := none, leaving := b.leaveFrom field } }
    b |>.cond field (·.wr Reg.SYS.MODE_LEAVING 1)
      |>.wr Reg.SYS.STANDING_PUMP_EN 0 |>.wr Reg.SYS.STANDING_FIELD_REQ 0 |>.wr Reg.SYS.STANDING_READY 0
      |>.wr Reg.PWR.PPV_LEVEL 0
      |>.startCause (match cause with
        | .main => Reg.SYS.RESET_CAUSE_MAIN_RST | .sw => Reg.SYS.RESET_CAUSE_SW | .debug => Reg.SYS.RESET_CAUSE_DEBUG)
      |>.radioOff .wake |>.resumeAll |>.endAuth |>.dropJobs |>.enterMode .wake 0xB

/-- What the start after a reset of MAIN finds (R13, R78, R86): pages at their reset values but for the gallery's and what
`resetFields` names (assumption 37, DEDUCED; assumption 38, DEDUCED). -/
def warmUp (b : Block) : Block :=
  -- flash work of the part's own ends before the start comes to it; MAIN's falls
  let b := { b.abortAll with flash := { b.flash with due := b.flash.due.filter fun d => [2, 3].contains (dueOwner d) } }
    |>.cond (b.flash.due.contains .head) (eraseFlash stageBase 4096)
  let owner := b.rd Reg.FLASH.OWNER_OWNER
  let busy := owner = 5 && b.flash.quiet.isNone
  { b with
    regs := warmRegs b.regs
    log := { b.log with clrKey := none, portGnss := [], portRadio := [] }
    test := { esc := b.test.esc }
    md := { b.md with below := [0, 0, 0, 0, 0, 0, 0], above := 0, vocPools := 0, retryLeft := 0, retryWait := 0, sheds7 := [], since7 := 0
                      loopFailed := false, gnssFailed := false, radioFailed := false, coordConflict := false }
    flash := { op := if busy then b.flash.op else none, quiet := b.flash.quiet, due := b.flash.due }
    sram := { inject := none }
    host := {}, adc := {}, loop := {}, safe := {}, can := {}, lip := {}, cap := {}
    drive := { flt := b.drive.flt, clockLoss := b.drive.clockLoss, mainReset := true }
    tag := tagKept b.tag
    gnss := { timeRec := b.gnss.timeRec }
    -- learned delays are not kept across starts (R78)
    gal := { b.gal with obs := [], accepted := [], rejects := [], probeTimes := [] }
    clamps := [] }
    |>.each (List.range 256) (fun s b => b |>.wr (ofSec Reg.GAL.SDLY_ON_L s) 0 |>.wr (ofSec Reg.GAL.SDLY_OFF_L s) 0)
    |>.cond (!busy && b.rd Reg.CAL.RES_RES != 1) (·.wr Reg.CAL.RES_RES 0) |>.cond (!busy) (·.wr Reg.FLASH.RES_RES 0)
    |>.wr Reg.FLASH.OWNER_OWNER (if owner < 4 then 0 else owner) |>.flashServe
    |>.mbxClear |>.mbxSweep

/-! The AON domain (R539). -/

/-- AON_DOMAIN_LOSS: key RAM, frame counter, replay table, escalation table, SAFE latch, the calibration flag and count, the
debug failure count, field time and the held batts go (assumption 41, DEDUCED). -/
def aonLoss (b : Block) : Block :=
  let secret (n : Nat) : Bool := (2 ≤ n && n ≤ 4) || 8 ≤ n
  let slots := (List.range 16).map fun n => if secret n then none else b.sec.slots.getD n none
  { b with
    sec := { b.sec with slots, pending := [] }
    radio := { b.radio with replay := [], new3 := false, new4 := false, window := none }
    test := { b.test with esc := [] }
    cal := { b.cal with rewrite := false, count := none }
    dbg := { b.dbg with lockEnd := none }
    log := { b.log with aon := [] }
    md := { b.md with safeLatch := false, safeCode := 0, safePage := 0, safeVerdict := 0, aonLost := true, holdupShort := false
                      brownout := false, late18 := false }
    agents := { b.agents with radio := false }
    ramRadio := []
    gnss := { b.gnss with timeRec := none }
    time := {}
    ft := 0 }
    |>.showSlots |>.wr Reg.RADSEC.FC_FC 0 |>.wr Reg.DBG.FAILS_CNT 0 |>.wr Reg.DBG.FAILS_LOCK_S 0
    |>.wr Reg.TIME.TSTAT_ERA 0 |>.wr (Reg.TIME.ERA_OFS_OFS 0) 0 |>.wr (Reg.TIME.ERA_OFS_OFS 1) 0

end Block

/-- MAIN_RESET (R86). -/
def execMainReset (cause : ResetCause) (s : State) : Host.Outcome State Fault Refusal := s.run (Block.mainReset cause)

end Sys2Proof.Machine
end

