-- ==== Sys2Proof/Machine/Upd.lean ====
section
/-! DEFINITION. The update controller: batts, STAGE, the manifest, and activation (14_field_update.md, R426 to R451). -/

namespace Sys2Proof.Machine
namespace Block

/-! STAGE (Tables UPD-4 and UPD-5). -/

def slotHead (k : Nat) : Nat := stageBase + 0x1000 + 32 * k
def slotData (k : Nat) : Nat := stageBase + 0x9000 + 1024 * k

/-- A batt header's own CRC-16 and magic (Table UPD-2). -/
def battHeadOk (h : List Byte) : Bool := u16At h 30 = crc16 (h.take 30) && u16At h 0 = 0x5442

/-- The stage header is valid. -/
def stageOk (b : Block) : Bool :=
  b.val stageBase 4 = 0x4754534C && b.val (stageBase + 10) 2 = crc16 (b.bytes stageBase 10)

/-- The tag of the open update. -/
def stageTag (b : Block) : Nat := b.val (stageBase + 4) 4
def stageDirect (b : Block) : Bool := b.byte (stageBase + 8) = 2
/-- The marks; a torn mark counts as set (R451). -/
def manifestOk (b : Block) : Bool := b.byte (stageBase + 0x10) != 0xFF
def copyMark (b : Block) : Bool := b.byte (stageBase + 0x11) != 0xFF
def doneMark (b : Block) : Bool := b.byte (stageBase + 0x12) != 0xFF

/-- Bit `i` of a map of the stage header. -/
def stageBit (b : Block) (off i : Nat) : Bool := (b.byte (stageBase + off + i / 8)).getLsbD (i % 8)

def clearStageBit (off i : Nat) (b : Block) : Block :=
  b.programFlash (stageBase + off + i / 8) [~~~(1#8 <<< (i % 8))]

def slotsUsed (b : Block) : Nat := b.rd Reg.UPD.COUNTS_SLOTS

/-- The newest slot that holds batt `i` (assumption 116, DEDUCED). -/
def battSlot (b : Block) (i : Nat) : Option Nat :=
  ((List.range b.slotsUsed).filter fun k =>
    battHeadOk (b.bytes (slotHead k) 32) && b.val (slotHead k + 2) 2 = i).getLast?

/-- Batt `i`, of the 2,048 that the map holds, is wanted: 0 to 3 alone until the manifest has passed (R433, R435). -/
def isWanted (b : Block) (i : Nat) : Bool :=
  b.upd.again.contains i || (i < 2048 && b.stageBit 0x100 i && (i < 4 || b.manifestOk))

def wantedBatts (b : Block) : List Nat := (List.range 2048).filter b.isWanted

/-- A word of the wanted map (`UPD.MAP`). -/
def wantedWord (b : Block) (w : Nat) : Nat :=
  if b.rd Reg.UPD.USTAT_STATE < 2 then 0
  else (List.range 32).foldl (fun a i => a + bit (b.isWanted (32 * w + i)) * 2 ^ i) 0

def showWanted (b : Block) : Block := b.wr Reg.UPD.COUNTS_WANTED b.wantedBatts.length

/-- The staged manifest, image bytes 0 to 4,095. -/
def manifest (b : Block) : List Byte :=
  (List.range 4).flatMap fun i => match b.battSlot i with
    | some k => b.bytes (slotData k) 1024
    | none => List.replicate 1024 (0xFF : Byte)

/-- Sector `s` of an image with this manifest is resident (R427) (assumption 118, DESIGN CHOICE). -/
def residentIn (m : List Byte) (s : Nat) : Bool :=
  1 ≤ s && s < u32At m 12 / 4096 && ((m.getD (256 + s / 8) 0).getLsbD (s % 8))

/-- The state from what is wanted. -/
def stagedState (b : Block) : Nat :=
  if b.manifestOk then (if b.wantedBatts.isEmpty then 5 else 4)
  else if b.wantedBatts.isEmpty then 3 else 2

def showStaged (b : Block) : Block :=
  let old := b.rd Reg.UPD.USTAT_STATE
  let s := b.stagedState
  b |>.showWanted |>.wr Reg.UPD.USTAT_STATE s |>.cond (s = 5 && old < 5) (·.irq 0x0F 1)

/-! Opening and closing (R433, R437, R443). -/

/-- A new update opens with an erased STAGE, wanting batts 0 to 3; in loader-only state IMAGE sector 0 goes first. -/
def openStage (tag : Nat) (b : Block) : Block :=
  let direct := b.is Reg.UPD.USTAT_LOADER_ONLY
  let head := leBytes 4 0x4754534C ++ leBytes 4 tag ++ leBytes 1 (if direct then 2 else 1) ++ [0xFF]
  { b with upd := { auths := b.upd.auths, empties := b.upd.empties } }
    |>.cond direct (·.eraseFlash imageBase 4096)
    |>.programFlash stageBase (head ++ leBytes 2 (crc16 head))
    |>.wr Reg.UPD.USTAT_STATE 2 |>.wrB Reg.UPD.USTAT_DIRECT direct |>.wr Reg.UPD.COUNTS_SLOTS 0 |>.showWanted

/-- `CMD.OPEN` (R433) (assumption 113, DEDUCED). -/
def updOpen (b : Block) : Block :=
  let tag := b.rd Reg.UPD.TAG_TAG
  let s := b.rd Reg.UPD.USTAT_STATE
  if s = 0 then
    -- one that waits for the flash controller is open as far as MAIN can tell
    let was := b.flash.due.contains (.open_ tag)
    let b := { b with flash := { b.flash with due := b.flash.due.filter fun d => dueOwner d != 1 } }
    b |>.flashOwn (.open_ tag) (openStage tag) |>.wr Reg.UPD.USTAT_OPEN_RES (if was then 2 else 1)
  else if s = 1 then b.wr Reg.UPD.USTAT_OPEN_RES 3
  else if b.stageTag = tag then b.wr Reg.UPD.USTAT_OPEN_RES 2
  else if 7 ≤ s then b.wr Reg.UPD.USTAT_OPEN_RES 3
  else
    let b := b.updClose 7
    { b with upd := { b.upd with toOpen := some tag } } |>.wr Reg.UPD.USTAT_OPEN_RES 1

/-- `CMD.CLOSE` (R437) (assumption 117, DEDUCED). -/
def updCloseCmd (b : Block) : Block := if 7 ≤ b.rd Reg.UPD.USTAT_STATE then b else b.updClose 1

/-- The background erase ends (R437) (assumption 113, DEDUCED). -/
def stageErased (b : Block) : Block :=
  if b.rd Reg.UPD.USTAT_STATE ≠ 1 then b
  else
    let next := b.upd.toOpen
    let b := { b with flash := { b.flash with due := b.flash.due.filter fun d => d != FlashDue.head } } |>.eraseFlash stageBase 0x100000 |>.wr Reg.UPD.USTAT_STATE 0
    match next with
    | some tag => b.openStage tag
    | none => b

/-! Accepting a batt (R430 to R434). -/

/-- A result of ACCEPT, with the runs of AUTH and of KEY_EMPTY results (R431, R432, UP05) (assumption 115, DEDUCED). -/
def accepted (res : Nat) (b : Block) : Block :=
  let a := if res = 7 then b.upd.auths + 1 else 0
  let e := if res = 8 then b.upd.empties + 1 else 0
  { b with upd := { b.upd with auths := if a = 10 then 0 else a, empties := if e = 10 then 0 else e } }
    |>.wr Reg.UPD.ACC_RES_RES res
    |>.cond (a = 10) (·.err 0x0F 0) |>.cond (a = 10 || e = 10) (·.verdict (Verdict.up 5) 0x0F)

/-- The batt's GCM tag as R430 computes it. -/
def battTag (key : List Byte) (h payload : List Byte) : List Byte :=
  (Crypto.gcmEncrypt key ((h.drop 4).take 4 ++ (h.drop 2).take 2 ++ List.replicate 6 0) (h.take 12 ++ payload) []).2

/-- The outcome of the GCM check under KS02; 0 passes. -/
def battAuth (b : Block) (h payload : List Byte) (keyLost : Bool) : Nat :=
  if !b.is Reg.UPD.CFG_AUTH then 0
  else match b.keySlot 2 with
    | none => 8
    | some key => if keyLost then 9 else if battTag key h payload = (h.drop 12).take 16 then 0 else 7

/-- A failed verify abandons its slot (R449). -/
def tornSlot (b : Block) : Block :=
  let k := b.slotsUsed
  if 988 ≤ k then b else b |>.scramble (slotData k) 1024 |>.wr Reg.UPD.COUNTS_SLOTS (k + 1)

/-- A staged batt: payload, header, then its map bit (R434). -/
def storeStaged (i : Nat) (h payload : List Byte) (b : Block) : Block :=
  let k := b.slotsUsed
  let b := b |>.programFlash (slotData k) payload |>.programFlash (slotHead k) h |>.clearStageBit 0x100 i
  { b with upd := { b.upd with again := b.upd.again.filter (· != i) } } |>.wr Reg.UPD.COUNTS_SLOTS (k + 1)

/-- A batt written straight into IMAGE (R443). -/
def storeDirect (i : Nat) (payload : List Byte) (b : Block) : Block :=
  let s := i / 4
  let b := if b.stageBit 0x60 s then b |>.eraseFlash (imageBase + 4096 * s) 4096 |>.clearStageBit 0x60 s else b
  b |>.programFlash (imageBase + 1024 * i) payload |>.clearStageBit 0x100 i

/-- The manifest of a complete DIRECT update goes to sector 0, and the loader restarts (R443). -/
def directDone (b : Block) : Block :=
  let m := b.manifest
  { b.programFlash imageBase m with upd := { b.upd with restart := true } }

/-- Three failed verifies (R449): the FLASH test judges the store, and what it finds LASTING is UPD's
(assumption 116, DEDUCED). -/
def storeFailed (b : Block) : Block :=
  b |>.accepted 11 |>.err 0x0F 1 |>.cond (!b.isLasting ⟨0x0E, 1, 1⟩) (·.askTest 0x0E 1 1)

/-- The batt is stored (R434) after `fails` failed verifies; three end FLASH (R449), and no free slot closes the update
(R435) (assumption 116, DEDUCED). -/
def battStore (i : Nat) (h payload : List Byte) (fails : Nat) (b : Block) : Block :=
  if b.stageDirect && 4 ≤ i then
    if fails = 3 then b |>.scramble (imageBase + 1024 * i) 1024 |>.storeFailed
    else b |>.storeDirect i payload |>.accepted 2 |>.irq 0x0F 0
  else
    let b := b.each (List.range fails) fun _ => tornSlot
    if 988 ≤ b.slotsUsed then b |>.updClose 5 |>.accepted 5
    else if fails = 3 then b.storeFailed
    else b |>.storeStaged i h payload |>.accepted 2 |>.irq 0x0F 0

/-- After a batt has been judged: the state it brings, and the end of a DIRECT update. -/
def afterBatt (b : Block) : Block :=
  let s := b.rd Reg.UPD.USTAT_STATE
  if s = 2 ∨ s = 4 then
    let b := b.showStaged
    b.cond (b.rd Reg.UPD.USTAT_STATE = 5 && b.stageDirect) directDone
  else b

/-- `CMD.ACCEPT` (R431). `keyLost`: KS02 is zeroized during the check (R106) (assumption 114, DEDUCED). The batt is read as
ledger master MAIN (assumption 174, DESIGN CHOICE). -/
def updAccept (keyLost : Bool) (fails : Nat) (b : Block) : Block :=
  let s := b.rd Reg.UPD.USTAT_STATE
  if s = 1 ∨ s = 3 ∨ s = 6 then b.accepted 1
  else if s = 0 then b.accepted 5
  else
    let a := b.rd Reg.UPD.BATT_ADDR_ADDR
    if a % 4 ≠ 0 ∨ !b.allowedRange 0 a 1056 0 then b.accepted 10
    else match b.fetch 5 a 1056 with
      | (b, none) => b.accepted 10
      | (b, some bs) =>
        let h := bs.take 32
        let payload := bs.drop 32
        let i := u16At h 2
        let b := b.wr Reg.UPD.ACC_RES_INDEX i
        if u32At h 4 ≠ b.stageTag then b.accepted 5
        else if !battHeadOk h then b.accepted 6
        else if !b.isWanted i then
          b.accepted (if i < 2048 && !b.stageBit 0x100 i
              && (b.battSlot i).isSome || (b.stageDirect && 4 ≤ i && i < 2048 && !b.stageBit 0x100 i
                && i < b.rd Reg.UPD.LEN_L / 1024 && !residentIn b.manifest (i / 4)) then 3 else 4)
        else if crc32 payload ≠ u32At h 8 then b.accepted 6
        else
          let b := b.installPending 2
          let r := b.battAuth h payload keyLost
          if r = 9 then b |>.zeroSlot 2 |>.accepted 9
          else if r ≠ 0 then b.accepted r
          else (b.battStore i h payload fails).afterBatt

/-! The manifest (R435). -/

def manifestGood (b : Block) (m : List Byte) : Bool :=
  let l := u32At m 12
  u32At m 0 = 0x4E414D4C && u16At m 4 = 1 && u32At m 8 = b.stageTag
    && l % 4096 = 0 && 8192 ≤ l && l ≤ 2097152

/-- Sectors that do not travel must stand in IMAGE. -/
def baseMatches (b : Block) (m : List Byte) : Bool :=
  (List.range 512).all fun s =>
    !residentIn m s || crc32 (b.bytes (imageBase + 4096 * s) 4096) == u32At m (320 + 4 * s)

/-- Batts that STAGE would hold. -/
def stagedBatts (m : List Byte) : Nat :=
  4 * ((List.range (u32At m 12 / 4096)).filter fun s => !residentIn m s).length

/-- The end of the manifest check. -/
def manifestCheck (b : Block) : Block :=
  if b.rd Reg.UPD.USTAT_STATE ≠ 3 then b
  else
    let m := b.manifest
    if !b.manifestGood m then b.updClose 2
    else if !b.baseMatches m then b |>.updClose 3 |>.verdict (Verdict.up 4) 0x0F
    else if !b.stageDirect && 980 < stagedBatts m then b.updClose 4
    else
      let l := u32At m 12
      let drop := (List.range 2048).filter fun i => l / 1024 ≤ i || residentIn m (i / 4)
      let b := b |>.programFlash (stageBase + 0x10) [0] |>.each drop (fun i => clearStageBit 0x100 i)
        |>.wr Reg.UPD.LEN_L l |>.wr Reg.UPD.NEW_VER_VER (u32At m 16) |>.irq 0x0F 4 |>.showStaged
      b.cond (b.rd Reg.UPD.USTAT_STATE = 5 && b.stageDirect) directDone

/-! Activation (R438 to R440, R445). -/

def actRes (res : Nat) (b : Block) : Block := b.wr Reg.UPD.ACT_RES_RES res

/-- `CMD.ACTIVATE` (R438): the not-before is taken and every staged batt is read again (assumption 117, DEDUCED). -/
def updActivate (b : Block) : Block :=
  let s := b.rd Reg.UPD.USTAT_STATE
  if s < 2 ∨ s = 8 ∨ b.is Reg.UPD.USTAT_LOADER_ONLY then b.actRes 5
  else if s = 3 then b.actRes 3
  else if s = 6 then b
  else
    { b with upd := { b.upd with
        notBefore := (b.rd Reg.UPD.NB_LO_DRIP + b.rd Reg.UPD.NB_HI_DRIP * 2 ^ 32, b.rd Reg.UPD.NB_HI_ERA) } }
      |>.wr Reg.UPD.USTAT_STATE 6 |>.actRes 1

/-- The batts of STAGE that fail their payload CRC-32 or, with `AUTH` set, their GCM tag (assumption 117, DEDUCED). -/
def badBatts (b : Block) : List Nat :=
  (List.range 2048).filter fun i =>
    match b.battSlot i with
    | none => false
    | some k =>
      let h := b.bytes (slotHead k) 32
      let p := b.bytes (slotData k) 1024
      !b.isWanted i && (crc32 p != u32At h 8 || b.battAuth h p false != 0)

/-- The end of the check (R438). A failing batt's header is programmed to 0, so that its slot holds nothing
(assumption 116, DEDUCED). -/
def activationChecked (b : Block) : Block :=
  if b.rd Reg.UPD.USTAT_STATE ≠ 6 then b
  else
  let b := b.installPending 2
  if !(b.manifestOk && b.wantedBatts.isEmpty) then b |>.wr Reg.UPD.USTAT_STATE b.stagedState |>.actRes 3
  else
    match b.badBatts with
    | [] => b |>.wr Reg.UPD.USTAT_STATE 7 |>.actRes 2 |>.irq 0x0F 3
    | i :: rest =>
      let bad := i :: rest
      let b := b.each bad fun i b => match b.battSlot i with
        | some k => b.programFlash (slotHead k) (List.replicate 32 (0 : Byte))
        | none => b
      { b with upd := { b.upd with again := bad } }
        |>.actRes 4 |>.wr Reg.UPD.ACT_RES_INDEX i |>.irq 0x0F 4 |>.showStaged

/-- An armed update may start (R439). -/
def activationDue (b : Block) : Bool :=
  b.rd Reg.UPD.USTAT_STATE = 7 && b.powered && (b.upd.notBefore.1 ≤ b.ftDrips || b.upd.notBefore.2 < b.era)

/-- ACTIVATION_START (Table UPD-6): from FIELD, the leaving sequence; then the pause; and, unless something comes between
(`mark` false: a DISARM or a loss of PV good may follow), the event, the flush, the COPY mark and the reset of MAIN
(assumption 118, DESIGN CHOICE). -/
def activationStart (mark : Bool) (b : Block) : Block :=
  if !b.activationDue || (!b.upd.paused && b.drip != 0) then b
  else if b.md.leaving.isSome then b
  else if b.mode == .field then b.decideLeave .pump 9
  else
    let b := { b with upd := { b.upd with paused := true } } |>.pwmForce |>.each (List.range 32) imposeMan
    if !mark then b
    else b.flashTurn 1 fun b =>
      b |>.sysEvent 7 0x0F b.stageTag (b.rd Reg.UPD.NEW_VER_VER) |>.drain |>.wr Reg.UPD.USTAT_STATE 8
        |>.programFlash (stageBase + 0x11) [0] |>.mainReset .sw

/-- `CMD.DISARM` (R445). -/
def updDisarm (b : Block) : Block :=
  let s := b.rd Reg.UPD.USTAT_STATE
  if s = 7 then { b with upd := { b.upd with paused := false } } |>.wr Reg.UPD.USTAT_STATE 5 |>.actRes 6
  else if s = 8 then b.actRes 7
  else b.actRes 5

/-! At a start. -/

/-- The slots that are used: up to the last with anything programmed (R436). -/
def slotsFound (b : Block) : Nat :=
  (List.range 988).foldl (fun n k => if b.erased (slotHead k) 32 && b.erased (slotData k) 1024 then n else k + 1) 0

/-- STAGE_REBUILD (R436). -/
def updRebuild (b : Block) : Block :=
  let b := { b with upd := {} }
  if !b.stageOk then b.wr Reg.UPD.USTAT_STATE (if b.erased stageBase 0x100000 then 0 else 1)
  else
    let b := b |>.wr Reg.UPD.COUNTS_SLOTS b.slotsFound |>.wrB Reg.UPD.USTAT_DIRECT b.stageDirect
    let m := b.manifest
    let l := u32At m 12
    let lost := if b.manifestOk && !b.stageDirect then (List.range 2048).filter fun i =>
        i < l / 1024 && !residentIn m (i / 4) && !b.stageBit 0x100 i && (b.battSlot i).isNone else []
    let b := { b with upd := { b.upd with again := lost } }
    let b := b.cond b.manifestOk fun b => b |>.wr Reg.UPD.LEN_L l |>.wr Reg.UPD.NEW_VER_VER (u32At m 16)
    b |>.showWanted |>.wr Reg.UPD.USTAT_STATE b.stagedState

/-- LOADER_COPY (steps 6 and 7 of Table UPD-6, R446): every sector still to be rewritten, sector 0 last, then DONE. -/
def loaderCopy (b : Block) : Block :=
  let b := b.wr Reg.UPD.COUNTS_SLOTS b.slotsFound
  let m := b.manifest
  let data (b : Block) (i : Nat) : List Byte := match b.battSlot i with
    | some k => b.bytes (slotData k) 1024
    | none => List.replicate 1024 (0xFF : Byte)
  let sectors := ((List.range (u32At m 12 / 4096)).filter fun s => s != 0 && !residentIn m s) ++ [0]
  b |>.each sectors (fun s b =>
      if b.stageBit 0x20 s then
        b |>.eraseFlash (imageBase + 4096 * s) 4096
          |>.programFlash (imageBase + 4096 * s) ((List.range 4).flatMap fun q => data b (4 * s + q))
          |>.clearStageBit 0x20 s
      else b)
    |>.programFlash (stageBase + 0x12) [0]

/-- The pool edge's part: a DIRECT update that is complete restarts the part (R443). -/
def updPool (b : Block) : Block :=
  if b.upd.restart then { b with upd := { b.upd with restart := false } } |>.mainReset .sw else b

end Block

/-- UPD_OPEN (R433). -/
def execUpdOpen (s : State) : Host.Outcome State Fault Refusal := s.run Block.updOpen

/-- UPD_CLOSE (R437). -/
def execUpdClose (s : State) : Host.Outcome State Fault Refusal := s.run Block.updCloseCmd

/-- UPD_ACCEPT (R431), in its turn at the flash controller (R146) (assumption 140, DESIGN CHOICE): `fails` counts the failed program verifies of this batt (R449). -/
def execUpdAccept (keyLost : Bool) (fails : Fin 4) (s : State) : Host.Outcome State Fault Refusal :=
  s.run (Block.flashTurn 1 (Block.updAccept keyLost fails))

/-- MANIFEST_CHECK (R435). -/
def execManifestCheck (s : State) : Host.Outcome State Fault Refusal :=
  s.run (Block.flashTurn 1 Block.manifestCheck)

/-- STAGE_ERASE_END (R437). -/
def execStageEraseEnd (s : State) : Host.Outcome State Fault Refusal :=
  s.run (Block.flashTurn 1 Block.stageErased)

/-- UPD_ACTIVATE (R438). -/
def execUpdActivate (s : State) : Host.Outcome State Fault Refusal := s.run Block.updActivate

/-- ACTIVATION_CHECK_END (R438). -/
def execActivationCheckEnd (s : State) : Host.Outcome State Fault Refusal :=
  s.run fun b => b.cond (b.rd Reg.UPD.USTAT_STATE = 6) (Block.flashTurn 1 Block.activationChecked)

/-- ACTIVATION_START (R439). -/
def execActivationStart (mark : Bool) (s : State) : Host.Outcome State Fault Refusal := s.run (Block.activationStart mark)

/-- UPD_DISARM (R445). -/
def execUpdDisarm (s : State) : Host.Outcome State Fault Refusal := s.run Block.updDisarm

end Sys2Proof.Machine
end

