-- ==== Sys2Proof/Machine/Tick.lean ====
section
/-! DEFINITION. The tick generator: drip, pool and epoch edges, overruns, the freeze, fallback timing, clock losses, the
ladder's steps, and the loading of agents (02_drip_pool_epoch.md, R20 to R27, R70, R71, R75, R87). -/

namespace Sys2Proof.Machine
namespace Block

/-! The generator. -/

/-- The tick generator produces edges, or will from the next one on. -/
def tickRuns (b : Block) : Bool :=
  b.powered && (b.is Reg.CLK.CSTAT_PLL_LOCK || b.is Reg.HDR.TICK_FALLBACK || b.tick.fallbackDue)

/-- The PLL locks (R30): during a start before the tick runs, or at a start after a reset of MAIN in fallback timing, which
ends it (R57) (assumption 29, DEDUCED). -/
def tickStart (b : Block) : Block :=
  if !b.powered || b.md.running || b.is Reg.CLK.CSTAT_PLL_LOCK || (b.is Reg.HDR.TICK_FALLBACK && !b.drive.mainReset) then b
  else
    { b with tick := {}, drive := { b.drive with clockLoss := false } }
      |>.wr Reg.TICK.POS_DRIP 0 |>.wr Reg.TICK.POS_POOL 0 |>.wr Reg.TICK.POS_EPOCH 0 |>.wr Reg.TICK.CYC_CYC 0
      |>.wr Reg.CLK.CSTAT_TCXO_OK 1 |>.wr Reg.CLK.CSTAT_XT32M_OK 1 |>.wr Reg.CLK.CSTAT_XT32K_OK 1
      |>.wr Reg.CLK.CSTAT_PLL_LOCK 1 |>.wr Reg.HDR.TICK_FALLBACK 0 |>.showDomains

/-- Captures of a domain that is gated end (R254). -/
def gateCaptures (b : Block) : Block :=
  b.cond (b.powered && !b.running 2 && (!b.gnss.grabs.isEmpty || b.gnss.request.isSome || b.gnss.coldDue)) snapGate

/-- FALLBACK_TIMING_ENTRY (R57): the PWM, GSMP and GCOR domains are off (assumption 29, DEDUCED). -/
def fallbackEntry (b : Block) : Block :=
  { b with tick := { b.tick with fallbackDue := false } } |>.wr Reg.HDR.TICK_FALLBACK 1 |>.showDomains |>.abortOff
    |>.gateCaptures |>.mbxSweep

/-- The PLL has not locked within 10 ms (R541). -/
def pllTimeout (b : Block) : Block :=
  if !b.powered || b.md.running || b.is Reg.CLK.CSTAT_PLL_LOCK || b.is Reg.HDR.TICK_FALLBACK then b
  else
    { b with tick := {}, drive := { b.drive with clockLoss := true } }
      |>.wr Reg.CLK.CSTAT_XT32M_OK 1 |>.wr Reg.CLK.CSTAT_XT32K_OK 1 |>.pwmForce |>.fallbackEntry

/-- Loss of the TCXO or of PLL lock (R87, R57) (assumption 30, DEDUCED). -/
def clockLost (tcxo : Bool) (b : Block) : Block :=
  if !b.powered || !b.is Reg.CLK.CSTAT_PLL_LOCK then b
  else
    let bit := if tcxo then 0 else 3
    { b with drive := { b.drive with clockLoss := true }, tick := { b.tick with fallbackDue := true } }
      |>.cond tcxo (·.wr Reg.CLK.CSTAT_TCXO_OK 0) |>.wr Reg.CLK.CSTAT_PLL_LOCK 0 |>.pwmForce
      |>.err 0x01 bit |>.verdict (Verdict.pw 5) 0x01 3 |>.enterSafe (0x2000 + bit) 0x01 (Verdict.pw 5) 0xA

/-- Loss of the 32 MHz crystal (R87) (assumption 30, DEDUCED). -/
def xt32mLost (b : Block) : Block :=
  if !b.powered || !b.is Reg.CLK.CSTAT_XT32M_OK then b
  else
    b |>.wr Reg.CLK.CSTAT_XT32M_OK 0 |>.err 0x01 1 |>.verdict (Verdict.pw 6) 0x01 3
      |>.enterSafe 0x2001 0x01 (Verdict.pw 6) 0xA

/-- Loss of the 32.768 kHz crystal (R87): no mode change (assumption 30, DEDUCED). -/
def xt32kLost (b : Block) : Block :=
  if b.powered && !b.is Reg.CLK.CSTAT_XT32K_OK then b
  else b |>.wr Reg.CLK.CSTAT_XT32K_OK 0 |>.cond b.powered (·.err 0x01 2) |>.verdict (Verdict.pw 7) 0x01

/-! The drip edge. -/

/-- An interrupt of Table TICK-8 raised; one that is still pending is late (R55). -/
def tickIrq (n : Nat) (b : Block) : Block :=
  let late := (b.rd (Reg.HDR.IRQ_RAW 0x03)).testBit n && (b.rd (Reg.HDR.IRQ_EN 0x03)).testBit n
  b |>.cond late (·.err 0x03 1) |>.irq 0x03 n

/-- Pool and epoch edges that a drip edge brings. -/
def bringEdges (pool epoch : Bool) (b : Block) : Block :=
  { b with tick := { b.tick with poolDue := b.tick.poolDue || pool, epochDue := b.tick.epochDue || epoch } }

/-- The position of the edge (R8, R30): the first is drip 0 of pool 0 of epoch 0. -/
def advance (b : Block) : Block :=
  let b := { b with edges := b.edges + 1 }.wr Reg.TICK.CYC_CYC 0
  if !b.tick.started then
    { b with tick := { b.tick with started := true } } |>.wr Reg.TICK.POS_DRIP 0 |>.wr Reg.TICK.POS_POOL 0
      |>.wr Reg.TICK.POS_EPOCH 0 |>.bringEdges true true
  else if b.drip < 99 then b.wr Reg.TICK.POS_DRIP (b.drip + 1)
  else if b.pool < 9 then b |>.wr Reg.TICK.POS_DRIP 0 |>.wr Reg.TICK.POS_POOL (b.pool + 1) |>.bringEdges true false
  else b |>.wr Reg.TICK.POS_DRIP 0 |>.wr Reg.TICK.POS_POOL 0 |>.incWrap Reg.TICK.POS_EPOCH |>.bringEdges true true

/-- Interrupts of the edge (R49). -/
def edgeIrqs (b : Block) : Block :=
  b |>.tickIrq 0 |>.cond (b.drip = b.rd Reg.TICK.IRQ_AT_POOL_DRIP) (tickIrq 1)
    |>.cond (b.drip = 0 && b.pool = b.rd Reg.TICK.IRQ_AT_EPOCH_POOL) (tickIrq 2)

/-- The pulse counter of the safety pairs and their samples, while the SAFE block runs (R498, R500). -/
def safetyEdge (levels : List Bool) (b : Block) : Block :=
  let n := b.safe.pulse + 1
  { b with safe := { b.safe with pulse := if b.rd Reg.SAFE.PULSE_PER ≤ n then 0 else n } } |>.sampleSafety levels |>.safetyStep

/-- Minutes and seconds that DBG shows. -/
def showTimers (b : Block) : Block :=
  let b := match b.dbg.wonEnd with
    | some t => b.wr Reg.DBG.REMAIN_MIN (ceilDiv (t - b.now) 600000)
    | none => b
  match b.dbg.lockEnd with
  | some t => b.wr Reg.DBG.FAILS_LOCK_S (ceilDiv (t - b.now) 10000)
  | none => b

/-- FIELD is left for good, or the descent goes on, once the forced checkpoint has ended (R75, R80)
(assumption 33, DEDUCED). -/
def leaveNow (up : Block → Block) (b : Block) : Block :=
  match b.md.leaving with
  | some l =>
    if l.stage ≠ 4 then b
    else
      match l.goal with
      | none => { b.galStop with md := { b.md with leaving := none } } |>.wr Reg.SYS.MODE_LEAVING 0
      | some (m, c) =>
        if l.atEdge then b
        else
          let b := { b.galStop.snapGate with md := { b.md with leaving := none } }.descend m c
          b.cond b.md.pvGood up
  | none => b

/-- Whether the MPPT slot was held at its limit in every drip of the pool (R62). -/
def limitEdge (b : Block) : Block :=
  { b with md := { b.md with limited := b.drip = 0 || (b.md.limited && b.md.limitNow), limitNow := false } }

/-- Flash work of the part's own that has waited for the controller (R146). -/
def dueWork : FlashDue → Block → Block
  | .flush => flush
  | .found => foundClear
  | .clear => mapClear
  | .head => eraseFlash stageBase 4096
  | .open_ tag => openStage tag
  | .bind => bindStore

/-- DRIP_EDGE (R30 to R33, R49, R55 to R57); while the tick is frozen a drip passes without an edge. `levels`: STOP_A,
STOP_B, FOLD_A, FOLD_B at the edge (assumption 21, DESIGN CHOICE; assumption 25, DEDUCED; assumption 31, DEDUCED). -/
def dripEdge (levels : List Bool) (b : Block) : Block :=
  if !b.tickRuns then b
  else if b.is Reg.HDR.TICK_FROZEN then b.timePass
  else if b.tick.freezePending then
    { b.timeEdge with tick := { b.tick with freezePending := false, thawed := true } }
      |>.wr Reg.HDR.TICK_FROZEN 1 |>.wr Reg.HDR.TICK_RUN 0 |>.wr Reg.TICK.CYC_CYC 16367 |>.pwmForce
  else
    b |>.captureLate |>.cond b.tick.fallbackDue fallbackEntry |>.timeEdge |>.advance |>.limitEdge |>.edgeIrqs
      |>.wr Reg.HOST.HSTAT_BUSY 0 |>.fenceApply |>.refill |>.latchRates |>.startTests |>.adcEdge
      |>.safetyEdge levels |>.cond (b.drip != 99) switchStep |>.observeSamples |>.latchNodes |>.lipRun |>.showTimers |>.notchConverge |>.gateCaptures
      |>.each [1, 2, 3, 5] (flashDueOf dueWork) |>.leaveNow powerUp

/-! The pool edge. -/

/-- Gallery degrade at the pool edge (R44, R50); a class LASTING for the gallery keeps it (Table ERR-1)
and the pool that a freeze cut does not count (R56) (assumption 27, DEDUCED). -/
def degradeStep (b : Block) : Block :=
  let ovr := b.tick.overran.contains OvrBlock.gal
  let keep := b.isLasting ⟨0x03, 0, 2⟩
  let n := if ovr || !b.galDegraded then 0 else if b.tick.thawed then b.tick.degPools else b.tick.degPools + 1
  { b with tick := { b.tick with degPools := n } } |>.cond (ovr || keep) (·.wr (Reg.HDR.TICK_DEGRADE 1) 1)

/-- The windows of a new pool (R43, R556), and what it counts. -/
def poolWindows (b : Block) : Block :=
  let keep := b.tick.overran.filter fun o => o == OvrBlock.gpvt || o == OvrBlock.adc
  { b with
    tick := { b.tick with poolDue := false, pools := b.tick.pools + 1, overran := keep, pushed := [], thawed := false }
    md := { b.md with pools := b.md.pools + 1 }
    gal := { b.gal with
      latched := false, evaluated := false, ckptPools := if b.mode == Mode.field then b.gal.ckptPools + 1 else 0 } }
    |>.wr (Reg.HDR.TICK_DEGRADE 2) 0 |>.wr (Reg.HDR.TICK_DEGRADE 3) 0 |>.wr (Reg.HDR.TICK_DEGRADE 5) 0

/-- SHELF by request: with a map loaded, a forced checkpoint comes first (Table MODE-2), and ahead of it the flush of the
recorder (R474) (assumption 34, DEDUCED). -/
def shelfNow (cause : Nat) (b : Block) : Block :=
  match b.md.leaving with
  | some l => { b with md := { b.md with next := none, leaving := some { l with goal := some (Mode.shelf, cause) } } }
  | none =>
    if b.is Reg.GAL0.MAPSTAT_RESTORED then
      { b.drain with md := { b.drain.md with next := none, leaving := some { stage := 3, goal := some (Mode.shelf, cause) } } }.ckptForce
    else b.snapGate.descend .shelf cause

/-- A mode is taken at a pool edge; the gallery starts with FIELD, and FIELD is left by Table MODE-5. -/
def takeMode (m : Mode) (c : Nat) (b : Block) : Block :=
  if m == Mode.shelf then b.shelfNow c
  else if b.mode == Mode.field then b.decideLeave m c
  else b |>.applyMode m c |>.cond (m == Mode.field) fun b => { b.mapRestore with gal := { b.mapRestore.gal with ckptPools := 0 } }

/-- A transition, and what a request of the same evaluation adds to it (R83). -/
def takeModes (m : Mode) (c : Nat) (b : Block) : Block :=
  let f := b.md.follow
  let b := b.takeMode m c
  match f with
  | some (m, c) => { b with md := { b.md with follow := none } }.takeMode m c
  | none => b

/-- MODE_TRANSITION at a pool edge: what the last evaluation decided, and the mode that a leaving sequence leads to. -/
def modeEdge (b : Block) : Block :=
  let b := match b.md.next with | some (m, c) => b.takeModes m c | none => b
  match b.md.leaving with
  | some l =>
    match l.goal with
    | some (m, c) =>
      if l.stage = 4 && l.atEdge then
        let b := { b.galStop with md := { b.md with leaving := none } }.wr Reg.SYS.MODE_LEAVING 0
        if m == Mode.shelf then b.snapGate.descend .shelf c else
          let f := b.md.follow
          let b := b.applyMode m c
          match f with | some (m, c) => b.takeMode m c | none => b
      else b.cond (b.mode == Mode.field) (·.wr Reg.SYS.MODE_LEAVING 1)
    | none => b
  | none => b

/-- The pump retry wait (R74). -/
def retryStep (b : Block) : Block :=
  let on := b.mode == .pump || b.mode == Mode.field
  let since := if on then b.md.since7 + 1 else b.md.since7
  { b with md := { b.md with
      retryLeft := b.md.retryLeft - 1, since7 := since
      retryWait := if 60000 ≤ since then 0 else b.md.retryWait } }

/-- POOL_EDGE (R8, R63, R64, R203, R230, R411) (assumption 25, DEDUCED). -/
def poolEdge (front : Front) (b : Block) : Block :=
  if !b.tick.poolDue || !b.powered || b.is Reg.HDR.TICK_FROZEN then b
  else
    b |>.degradeStep |>.poolWindows |>.paintPool |>.modeEdge |>.retryStep
      |>.cond b.powered (fun b => b |>.gnssPool front |>.radioPool |>.timePool |>.btResume |>.updPool |>.gateCaptures)

/-- EPOCH_EDGE (R8, R40, R238, R377) (assumption 25, DEDUCED). -/
def epochEdge (obs : List ChanObs) (b : Block) : Block :=
  if !b.tick.epochDue || !b.powered || b.is Reg.HDR.TICK_FROZEN then b
  else
    let b := { b with tick := { b.tick with epochDue := false } } |>.lipEpoch |>.epochLatch obs
    { b with tick := { b.tick with overran := b.tick.overran.filter fun (o : OvrBlock) => o != OvrBlock.gpvt } }

/-! The ladder (R69 to R74). -/

/-- A step is shed at the pool edge after the evaluation that decided it (assumption 32, DEDUCED). -/
def ladderShed (b : Block) : Block :=
  if b.md.step = some true ∧ b.drip = 0 ∧ b.powered then
    let l := b.ladder + 1
    { b with md := { b.md with step := none, above := 0 } } |>.wr Reg.PWR.PPV_LEVEL l
      |>.cond (l = 3) (fun b => { b with gal := { b.gal with obs := [], probes := [] } } |>.wr Reg.GAL0.STATUS_PROBE 0)
      |>.cond (l = 4) gateAntB |>.cond (l = 7) shed7
  else b

/-- A step is restored at the pool edge after the evaluation that decided it; with step 4 ANT_B is used again (R228)
(assumption 32, DEDUCED). -/
def ladderRestore (b : Block) : Block :=
  if b.md.step = some false ∧ b.drip = 0 ∧ b.powered then
    let l := b.ladder
    { b with md := { b.md with step := none, above := 0 } } |>.wr Reg.PWR.PPV_LEVEL (l - 1) |>.cond (l = 4) ungateAntB
  else b

/-- FIELD_EXIT_VALVE_CLOSE (Table MODE-5): drip 0 of P+3 (assumption 33, DEDUCED). -/
def valveClose (b : Block) : Block :=
  match b.md.leaving with
  | some l =>
    b.cond (l.stage = 2 && l.goal.isSome && l.atEdge && decide (l.closeAt ≤ b.tick.pools) && b.drip = 0) ckptForce
  | none => b

/-! Overruns (R43 to R47). -/

/-- The window of Table TICK-6 ends with the block's work undone. -/
def windowOver (b : Block) (o : OvrBlock) : Bool :=
  match o with
  | .adc => b.adcDue
  | .gal => b.drip = 89 && b.gal.latched && !b.gal.evaluated
  | .sectq => b.drip = 94 && !b.tick.pushed.contains 0
  | .sync => b.drip = 99 && !b.tick.pushed.contains 1
  | .hbeat => b.drip = 99 && b.pool = 5 && !b.tick.pushed.contains 2
  | .gpvt => b.gnss.edged && !b.gnss.recPosted && b.gnss.epochAt + 300 ≤ b.now

/-- A block is still working at the end of its window; the ADC's results of the drip are missing, the gallery has evaluated no
section (assumption 93, DEDUCED). -/
def blockOverrun (o : OvrBlock) (b : Block) : Block :=
  if !b.powered || b.is Reg.HDR.TICK_FROZEN || !b.windowOver o then b
  else match o with
    | .adc =>
      { b with adc := { done := true, failA := true, failB := true } }.overrun .adc
        |>.each (List.range 16) (fun n => wr (Reg.ADC.RESN_STALE n) 1) |>.phase 655
    | .gal => { b with gal := { b.gal with evaluated := true } }.overrun .gal
    | .sectq => b |>.pushDone 0 |>.overrun .sectq
    | .sync => b |>.pushDone 1 |>.overrun .sync
    | .hbeat => b |>.pushDone 2 |>.overrun .hbeat
    | .gpvt => b.overrun .gpvt

/-- The gallery returns to full rate at a pool edge (R44, R54) (assumption 27, DEDUCED). -/
def degradeExit (b : Block) : Block :=
  b.cond (b.galDegraded && decide (b.drip = 0) && !b.tick.poolDue && decide (b.rd Reg.TICK.HOLD_HOLD ≤ b.tick.degPools) && !b.isLasting ⟨0x03, 0, 2⟩)
    fun b => b |>.wr (Reg.HDR.TICK_DEGRADE 1) 0 |>.irq 0x03 4

/-! The freeze (R56). -/

/-- `FREEZE` set: honoured in SERVICE at level FULL, from the next drip edge; it ends TICK's running test (R489)
(assumption 31, DEDUCED). -/
def tickFreeze (b : Block) : Block :=
  if b.level = 2 ∧ b.mode == .service then
    { b with tick := { b.tick with freezePending := !b.is Reg.HDR.TICK_FROZEN } } |>.wr (Reg.HDR.FREEZE 0x03) 1
      |>.abortPage 0x03
  else b.err 0x03 2

/-- `FREEZE` cleared: the tick starts again from 0 with the next edge, and what spans pools is kept. -/
def tickUnfreeze (b : Block) : Block :=
  let b := b.wr (Reg.HDR.FREEZE 0x03) 0
  if b.is Reg.HDR.TICK_FROZEN then
    { b with tick := { b.tick with started := false } }
      |>.wr Reg.TICK.CYC_CYC 0 |>.wr Reg.HDR.TICK_FROZEN 0 |>.wr Reg.HDR.TICK_RUN 1
  else { b with tick := { b.tick with freezePending := false } }

/-! Agents (R20, R21, R26, R27). -/

def agentIndex (a : Agent) : Nat := match a with | .loop => 0 | .gnss => 1 | .radio => 2

/-- Mismatches of an agent at this start; 3 once it has been loaded. -/
def agentTries (b : Block) (a : Agent) : Nat := b.agents.tries.getD (agentIndex a) 0

def setTries (a : Agent) (n : Nat) (b : Block) : Block :=
  { b with agents := { b.agents with tries := b.agents.tries.set (agentIndex a) n } }

/-- An agent's program in IMAGE as MAIN reads it, and its digest (Table UPD-1); the RADIO core's ends below the hold area. -/
def agentImage (b : Block) (a : Agent) : List Byte × List Byte :=
  let e := imageBase + 88 + 40 * agentIndex a
  let room := match a with | .loop => 0x2000 | .gnss => 0x20000 | .radio => 0x8000
  ((List.range (min room (b.val (e + 4) 4))).map fun i => b.flashByte (imageBase + b.val e 4 + i), b.bytes (e + 8) 32)

def putRam (m : Memory) (bs : List Byte) : Memory :=
  bs.zipIdx.foldl (fun m (v, i) => Store.put ramDefault i v m) m

/-- The agent's RAM loaded; the RADIO core's hold area stays. -/
def putAgent (a : Agent) (bs : List Byte) (b : Block) : Block :=
  match a with
  | .loop => { b with ramLoop := putRam [] bs }
  | .gnss => { b with ramGnss := putRam [] bs }
  | .radio => { b with ramRadio := putRam (b.ramRadio.filter fun e => 0x8000 ≤ e.1) bs }

/-- An agent is put in reset for its load (R20); what mailboxes hold for it falls (R172). -/
def holdReset (a : Agent) (b : Block) : Block :=
  match a with
  | .loop => { b with agents := { b.agents with loop := false } }
  | .gnss => { b with agents := { b.agents with gnss := false } }.mbxSweep
  | .radio => { b with agents := { b.agents with radio := false } }.radioReset.mbxSweep

/-- An agent leaves reset. -/
def release (a : Agent) (b : Block) : Block :=
  match a with
  | .loop => { b with agents := { b.agents with loop := true } }
  | .gnss => { b with agents := { b.agents with gnss := true }, gnss := { b.gnss with startDue := true } }.mbxSweep
  | .radio => { b with agents := { b.agents with radio := true } }.mbxSweep

/-- AGENT_LOAD_FAIL: the agent stays in reset (R26) (assumption 52, DEDUCED). -/
def loadFail (a : Agent) (b : Block) : Block :=
  let b := b.sysEvent 0x12 0x30 a.code 2
  match a with
  | .loop => { b with md := { b.md with loopFailed := true } } |>.verdict (Verdict.lp 3) 0x30 3
      |>.enterSafe 0x12 0x30 (Verdict.lp 3) 0xA
  | .gnss => { b with md := { b.md with gnssFailed := true } }.mbxSweep
  | .radio => { b with md := { b.md with radioFailed := true }, agents := { b.agents with radio := false } }.mbxSweep

/-- The agent is held in reset for the rest of the start, by its load or by the fence (R26, R162). -/
def agentFailed (b : Block) (a : Agent) : Bool :=
  match a with | .loop => b.md.loopFailed | .gnss => b.md.gnssFailed | .radio => b.md.radioFailed

/-- The agent is loaded, or has failed. -/
def agentSettled (b : Block) (a : Agent) : Bool := 2 ≤ b.agentTries a || b.agentFailed a

/-- The agents before it are loaded or have failed (R20) (assumption 52, DEDUCED). -/
def loadTurn (b : Block) (a : Agent) : Bool :=
  match a with
  | .loop => true
  | .gnss => b.agentSettled .loop
  | .radio => b.agentSettled .loop && b.agentSettled .gnss

/-- A load of the agent can run now (R20, R26, R442). -/
def loadable (b : Block) (a : Agent) : Bool :=
  b.powered && b.md.running && !b.agentSettled a
    && (if b.is Reg.UPD.USTAT_LOADER_ONLY then a == .radio else b.loadTurn a)

/-- One load (R20, R21, R26): the agent is put in reset, its RAM written, and released on a match. `upset`: the RAM does not
hold what was written, so that the digest fails. In loader-only state the loader loads the RADIO core alone, from a program
of its own that the manual does not give (R442) (assumption 52, DEDUCED; assumption 53, DEDUCED). -/
def loadOnce (a : Agent) (upset : Bool) (b : Block) : Block :=
  let only := b.is Reg.UPD.USTAT_LOADER_ONLY
  if !b.loadable a then b
  else
    let (bs, digest) := b.agentImage a
    let b := b |>.holdReset a |>.cond (!only) (putAgent a bs)
    if !upset && (only || Crypto.sha256 bs == digest) then b |>.setTries a 3 |>.release a
    else
      let n := b.agentTries a + 1
      b |>.setTries a n |>.cond (n = 2) (loadFail a)

/-- AGENT_LOAD; a RADIO core that has run through DARK is reloaded when it is idle (R27). -/
def agentLoad (a : Agent) (upset : Bool) (b : Block) : Block :=
  b.cond (!(a == .radio && b.agents.radio && !b.radioIdle)) (loadOnce a upset)

/-- The RADIO core has not reported idle for 50 ms after an entry into WAKE from DARK: MAIN reloads it, and the frame in
progress is lost (R27) (assumption 53, DEDUCED). -/
def radioTimeout (upset : Bool) (b : Block) : Block :=
  b.cond (b.agents.radio && b.loadable .radio && decide (b.md.wakeAt + 500 ≤ b.now)) fun b =>
    (b.setRadio fun r => { r with queue := [], taken := none, tx := none }).loadOnce .radio upset

end Block

/-- TICK_START (R30): the PLL locks. -/
def execTickStart (s : State) : Host.Outcome State Fault Refusal := s.run Block.tickStart

/-- PLL_LOCK_TIMEOUT (R541, R57). -/
def execPllLockTimeout (s : State) : Host.Outcome State Fault Refusal := s.run Block.pllTimeout

/-- TCXO_OR_PLL_LOSS (R87): the TCXO, or PLL lock alone. -/
def execTcxoOrPllLoss (tcxo : Bool) (s : State) : Host.Outcome State Fault Refusal := s.run (Block.clockLost tcxo)

/-- XT32M_LOSS (R87). -/
def execXt32mLoss (s : State) : Host.Outcome State Fault Refusal := s.run Block.xt32mLost

/-- XT32K_LOSS (R87). -/
def execXt32kLoss (s : State) : Host.Outcome State Fault Refusal := s.run Block.xt32kLost

/-- DRIP_EDGE (R30). -/
def execDripEdge (levels : List Bool) (s : State) : Host.Outcome State Fault Refusal := s.run (Block.dripEdge levels)

/-- FENCE_APPLY (R160): the drip edge after a commit, with what `DRIP_EDGE` takes (assumption 136, DESIGN CHOICE). -/
def execFenceApply (levels : List Bool) (s : State) : Host.Outcome State Fault Refusal :=
  s.run fun b => b.cond (b.is Reg.HDR.FENCE_PENDING) (Block.dripEdge levels)

/-- POOL_EDGE (R30): what the front end measured over the pool. -/
def execPoolEdge (front : Front) (s : State) : Host.Outcome State Fault Refusal := s.run (Block.poolEdge front)

/-- EPOCH_EDGE (R30, R238): what the channels measure at the edge. -/
def execEpochEdge (obs : List ChanObs) (s : State) : Host.Outcome State Fault Refusal := s.run (Block.epochEdge obs)

/-- LADDER_SHED (R70). -/
def execLadderShed (s : State) : Host.Outcome State Fault Refusal := s.run Block.ladderShed

/-- LADDER_RESTORE (R71). -/
def execLadderRestore (s : State) : Host.Outcome State Fault Refusal := s.run Block.ladderRestore

/-- FIELD_EXIT_VALVE_CLOSE (R75). -/
def execFieldExitValveClose (s : State) : Host.Outcome State Fault Refusal := s.run Block.valveClose

/-- BLOCK_OVERRUN (R43). -/
def execBlockOverrun (o : OvrBlock) (s : State) : Host.Outcome State Fault Refusal := s.run (Block.blockOverrun o)

/-- GALLERY_DEGRADE_EXIT (R44). -/
def execGalleryDegradeExit (s : State) : Host.Outcome State Fault Refusal := s.run Block.degradeExit

/-- TICK_FREEZE (R56). -/
def execTickFreeze (s : State) : Host.Outcome State Fault Refusal := s.run Block.tickFreeze

/-- TICK_UNFREEZE (R56). -/
def execTickUnfreeze (s : State) : Host.Outcome State Fault Refusal := s.run Block.tickUnfreeze

/-- AGENT_LOAD (R20). -/
def execAgentLoad (agent : Agent) (upset : Bool) (s : State) : Host.Outcome State Fault Refusal :=
  s.run (Block.agentLoad agent upset)

/-- RADIO_IDLE_TIMEOUT (R27). -/
def execRadioIdleTimeout (upset : Bool) (s : State) : Host.Outcome State Fault Refusal := s.run (Block.radioTimeout upset)

end Sys2Proof.Machine
end

