-- ==== Sys2Proof/Machine/Power.lean ====
section
/-! DEFINITION. The supplies: VIN_3V3, VDD_1V8, VBAT_AON and PV good (R60, R64, R80, R520, R521, R539, R540). -/

namespace Sys2Proof.Machine
namespace Block

/-- Reset is held: an external VDD_1V8 is late and has not come yet (R540). -/
def resetHeld (b : Block) : Bool := b.md.external18 && b.md.late18 && !b.is Reg.PWR.SUPPLY_V1V8_OK

/-- A WAKE entry, when PV good stands and nothing holds reset; a capture of SNAPSHOT ends first. -/
def wakeUp (b : Block) : Block :=
  b.cond (!b.powered && b.md.pvGood && b.is Reg.PWR.SUPPLY_VIN_OK && !b.resetHeld) fun b => b |>.snapGate |>.powerUp

/-- VIN_3V3 enters its range (R520); LDO18_EN is sampled (R521). `vbat`: VBAT_AON is present
(assumption 42, DEDUCED). -/
def vinEnter (ldo vbat : Bool) (b : Block) : Block :=
  if b.is Reg.PWR.SUPPLY_VIN_OK then b
  else
    { b with md := { b.md with external18 := !ldo } } |>.wr Reg.PWR.SUPPLY_VIN_OK 1 |>.wrB Reg.PWR.SUPPLY_VBAT_OK vbat

/-- The external VDD_1V8 is late (R540). -/
def v18Late (b : Block) : Block :=
  if b.is Reg.PWR.SUPPLY_VIN_OK && b.md.external18 && !b.powered then
    { b with md := { b.md with late18 := true } } |>.wr Reg.PWR.SUPPLY_V1V8_OK 0
  else b

def v18InRange (b : Block) : Block :=
  if b.resetHeld && b.is Reg.PWR.SUPPLY_VIN_OK then b |>.wr Reg.PWR.SUPPLY_V1V8_OK 1 |>.wakeUp else b

/-- VIN_3V3 leaves its range (R60, R81, R539): PV good is gone at once, what had not been written is lost with a checkpoint
that runs, and without VBAT_AON the AON domain goes too (assumption 43, DEDUCED). SNAPSHOT then shows cause 3
(assumption 156, DESIGN CHOICE). -/
def vinLost (vbat : Bool) (b : Block) : Block :=
  if !b.is Reg.PWR.SUPPLY_VIN_OK then b
  else
    let b := { b with md := { b.md with pvGood := false } } |>.wr Reg.PWR.SUPPLY_VIN_OK 0 |>.wrB Reg.PWR.SUPPLY_VBAT_OK vbat
    let b := if b.powered then
        let short := b.mode == .field || b.md.leaving.isSome
        { b with
          md := { b.md with brownout := true, holdupShort := b.md.holdupShort || short }
          log := { b.log with queue := [], pending := [] } } |>.snapGate |>.descend .dark 2
      else if b.mode == .snapshot then b |>.snapGate |>.descend .dark 3
      else b
    b.cond (!vbat) aonLoss

/-- PV good asserts (R60): `ball`, the voltage at the VPV ball in 10 mV, has been reached for `units` of 31.25 ms. -/
def pvAssert (ball units : Nat) (b : Block) : Block :=
  if b.is Reg.PWR.SUPPLY_VIN_OK && !b.md.pvGood && b.rd Reg.PWR.PVG_ON ≤ ball && b.rd Reg.PWR.DEB_DEB_ON ≤ units then
    { b with md := { b.md with pvGood := true } }.wakeUp
  else b

/-- PV good deasserts (R60, R80): the ball has stayed at `ball`, in 10 mV, or below for `units` of 31.25 ms
(assumption 40, DEDUCED). -/
def pvDeassert (ball units : Nat) (b : Block) : Block :=
  if !b.md.pvGood || b.pvOff ≤ ball || units < b.rd Reg.PWR.DEB_DEB_OFF then b
  else
    let b := { b with md := { b.md with pvGood := false } }
    b.cond (b.powered && !(b.md.leaving.any fun l => !l.atEdge)) fun b => b |>.snapGate |>.collapse ball

/-- SNAPSHOT ends with the ball below `SNAP_MIN` (Table MODE-2) (assumption 40, DEDUCED). -/
def snapMinLost (ball : Nat) (b : Block) : Block :=
  b.cond (b.mode == .snapshot && ball < b.snapMin) fun b => b |>.snapGate |>.descend .dark 3

/-- VBAT_AON has been at `level`, in 0.1 V, for 10 s in DARK (Table MODE-2, PW02). -/
def vbatLow (level : Nat) (b : Block) : Block :=
  b.cond (b.mode == .dark && level < b.rd Reg.PWR.DEB_VBAT_LOW) fun b => b |>.wr Reg.PWR.SUPPLY_VBAT_OK 0 |>.err 0x02 2 |>.verdict (Verdict.pw 2) 0x02
    |>.descend .shelf 4

/-- VBAT_AON fails while VIN_3V3 is absent (R94) (assumption 41, DEDUCED). -/
def vbatLost (b : Block) : Block :=
  b.cond (!b.is Reg.PWR.SUPPLY_VIN_OK && (b.mode == .shelf || b.mode == .dark)) fun b =>
    b |>.wr Reg.PWR.SUPPLY_VBAT_OK 0 |>.aonLoss

end Block

/-- VIN_3V3_RANGE_ENTRY (R520, R521): the strap LDO18_EN, and whether VBAT_AON is present. -/
def execVin3v3RangeEntry (ldo vbat : Bool) (s : State) : Host.Outcome State Fault Refusal :=
  s.run (Block.vinEnter ldo vbat)

/-- VDD_1V8_LATE (R540). -/
def execVdd1v8Late (s : State) : Host.Outcome State Fault Refusal := s.run Block.v18Late

/-- VDD_1V8_IN_RANGE (R540). -/
def execVdd1v8InRange (s : State) : Host.Outcome State Fault Refusal := s.run Block.v18InRange

/-- VIN_3V3_RANGE_LOSS (R60, R539): whether VBAT_AON is present. -/
def execVin3v3RangeLoss (vbat : Bool) (s : State) : Host.Outcome State Fault Refusal := s.run (Block.vinLost vbat)

/-- PV_GOOD_ASSERT (R60): the ball's voltage in 10 mV, and for how many units of 31.25 ms it has been reached. -/
def execPvGoodAssert (ball units : BitVec 8) (s : State) : Host.Outcome State Fault Refusal :=
  s.run (Block.pvAssert ball.toNat units.toNat)

/-- PV_GOOD_DEASSERT (R60, R80): the ball's voltage in 10 mV, and for how many units of 31.25 ms it has not been
exceeded. -/
def execPvGoodDeassert (ball units : BitVec 8) (s : State) : Host.Outcome State Fault Refusal :=
  s.run (Block.pvDeassert ball.toNat units.toNat)

/-- SNAP_MIN_LOSS (R64): the ball's voltage in 10 mV. -/
def execSnapMinLoss (ball : BitVec 8) (s : State) : Host.Outcome State Fault Refusal :=
  s.run (Block.snapMinLost ball.toNat)

/-- VBAT_LOW_TIMEOUT (R64): VBAT_AON in 0.1 V. -/
def execVbatLowTimeout (level : BitVec 8) (s : State) : Host.Outcome State Fault Refusal :=
  s.run (Block.vbatLow level.toNat)

/-- VBAT_AON_LOSS (R94). -/
def execVbatAonLoss (s : State) : Host.Outcome State Fault Refusal := s.run Block.vbatLost

end Sys2Proof.Machine
end

