-- ==== Sys2Proof/Machine/Lines.lean ====
section
/-! DEFINITION. The interrupt lines and HOST_IRQ (R122, R174, R178): levels that follow from the state. -/

namespace Sys2Proof.Machine
namespace Block

/-- The line of a page to MAIN: high while an `IRQ_PEND` bit is set (R122). -/
def pageLine (b : Block) (p : Nat) : Bool := (b.rd (Reg.HDR.IRQ_RAW p) &&& b.rd (Reg.HDR.IRQ_EN p)) != 0

/-- The doorbell of mailbox `n` is high toward the agent with code `agent` (R174). -/
def bell (b : Block) (agent n : Nat) : Bool := b.mbxReceiver n = agent && b.is (Reg.MBX.MSTAT_FULL n)

/-- MAIN's interrupt line `k`: 0 to 47 the pages, 48 to 63 the doorbells (R122, R174). -/
def mainLine (b : Block) (k : Nat) : Bool := if k < 48 then b.pageLine k else k < 64 && b.bell 0 (k - 48)

/-- TMO, COLL or DROP stands in a mailbox of which the agent is sender or receiver (R174). -/
def mbxAlarm (b : Block) (agent : Nat) : Bool :=
  (List.range 16).any fun n => (b.mbxSender n = agent || b.mbxReceiver n = agent)
    && (b.is (Reg.MBX.MSTAT_TMO n) || b.is (Reg.MBX.MSTAT_COLL n) || b.is (Reg.MBX.MSTAT_DROP n))

/-- Local interrupt line `k` of the GNSS core, code 1, or the RADIO core, code 2: 15 the mailbox alarms, 16 to 31 the
doorbells (R174). -/
def coreLine (b : Block) (agent k : Nat) : Bool :=
  if k = 15 then b.mbxAlarm agent else 16 ≤ k && k < 32 && b.bell agent (k - 16)

/-- Mailboxes that ring HOST, bit `n` for mailbox `n`. -/
def hostBells (b : Block) : Nat := (List.range 16).foldl (fun a n => a + (if b.bell 4 n then 2 ^ n else 0)) 0

/-- HOST_IRQ, an open drain: true while it is driven low, false while it is high impedance (R178). -/
def hostIrq (b : Block) : Bool := (List.range 16).any (b.bell 4)

end Block
end Sys2Proof.Machine
end

