-- ==== Sys2Proof/Machine/Tag.lean ====
section
/-! DEFINITION. The NFC tag: commands of the reader, page commits, status area and fault summary
(15_tag_and_recorder.md, R452 to R466, R481 to R484). -/

namespace Sys2Proof.Machine

/-- CRC_A of ISO/IEC 14443-3 (assumption 63, PRESUMED). -/
def crcA (bs : List Byte) : List Byte :=
  leBytes 2 (bs.foldl (fun (c : Nat) (d : Byte) =>
    let x := (c ^^^ d.toNat) % 256
    let x := (x ^^^ x * 16) % 256
    (c / 256) ^^^ (x * 256) ^^^ (x * 8) ^^^ (x / 16)) 0x6363)

namespace Block

def setTag (f : TagCtl → TagCtl) (b : Block) : Block := { b with tag := f b.tag }

/-- The UID with the cascade byte and both check bytes (R453) (assumption 64, DEDUCED). -/
def tagUid (b : Block) : List Byte :=
  let u := (leBytes 8 b.uid).reverse
  [b.byte (otpBase + 0x18)] ++ u.drop 2

/-- The five bytes of cascade level 1 or 2. -/
def cascade (b : Block) (second : Bool) : List Byte :=
  let u := b.tagUid
  let l := if second then u.drop 3 else [(0x88 : Byte)] ++ u.take 3
  l ++ [l.foldl (· ^^^ ·) 0]

/-- Pages 0 to 2 as the tag holds them (Table TAG-2): the UID with its check bytes, the lock bytes 0x00 0x00
(assumption 64, DEDUCED). -/
def tagHead (b : Block) : List Byte :=
  let u := b.tagUid
  u.take 3 ++ [(b.cascade false).getD 4 0] ++ u.drop 3 ++ [(b.cascade true).getD 4 0, 0, 0, 0]

/-- A page of tag memory. -/
def tagPage (b : Block) (p : Nat) : List Byte :=
  if p < 3 then (b.tagHead.drop (4 * p)).take 4 else b.bytes (tagBase + 4 * p) 4

/-- `FSTAT` shows the field, the selection, the session and waiting commits. -/
def showTag (b : Block) : Block :=
  b |>.wrB Reg.TAG.FSTAT_FIELD (b.tag.state != .off) |>.wrB Reg.TAG.FSTAT_ACTIVE (b.tag.state == .active)
    |>.wrB Reg.TAG.FSTAT_BUSY (b.tag.queue != [])
    |>.wr Reg.TAG.SEQ_SEQ (b.val (tagBase + 0x320) 2)

def session (b : Block) : Bool := b.is Reg.TAG.FSTAT_AUTH

/-- The protected area answers: in a session, or while no KS05 record is programmed (R460). -/
def protectedOpen (b : Block) : Bool := b.session || !b.recorded 5 0

def nak (b : Block) : Block := b.answerBytes [0x0]
def ack (b : Block) : Block := b.answerBytes [0xA]

/-- No answer. -/
def silent (b : Block) : Block := { b with resp := {} }

/-! The reader's commands (R452, R453, R461, R462). -/

/-- A session ends (R461). -/
def endSession (b : Block) : Block := b.wr Reg.TAG.FSTAT_AUTH 0

def fieldOn (b : Block) : Block :=
  b |>.setTag (fun t => { t with state := .idle, sector := 0, judged := false }) |>.endSession |>.showTag
    |>.irq 0x2A 0 |>.showDomains

def fieldOff (b : Block) : Block :=
  b |>.setTag (fun t => { t with state := .off }) |>.endSession |>.showTag |>.irq 0x2A 1
    |>.showDomains

/-- A frame of the reader; while SERVICE gates the NFC domain the tag is silent (Table CLK-1). -/
def tagFrame (f : Block → Block) (b : Block) : Block := if b.tag.state == .off || b.running 8 then f b else b.silent

/-- REQA and WUPA: ATQA 0x0044 from IDLE, and for WUPA from HALT (assumption 63, PRESUMED). -/
def wake (halted : Bool) (b : Block) : Block :=
  if b.tag.state == .idle || (halted && b.tag.state == .halted) then
    b |>.setTag (fun t => { t with state := .ready1 }) |>.showTag |>.answerBytes [0x44, 0x00]
  else if b.tag.state == .off || b.tag.state == .halted then b.silent
  else b |>.setTag (fun t => { t with state := .idle }) |>.endSession |>.showTag |>.silent

/-- Anticollision at a cascade level: the rest of the five bytes where the bits sent match. -/
def anticollision (second : Bool) (bits value : Nat) (b : Block) : Block :=
  let due := if second then b.tag.state == .ready2 else b.tag.state == .ready1
  let n := leValue (b.cascade second)
  if due && bits ≤ 40 && n % 2 ^ bits = value then b.answerBytes (leBytes ((47 - bits) / 8) (n / 2 ^ bits)) else b.silent

/-- SELECT of a cascade level: SAK 0x04 while the UID is incomplete, SAK 0x00 when the tag is selected
(assumption 63, PRESUMED). -/
def select (second : Bool) (uid : List Byte) (b : Block) : Block :=
  let due := if second then b.tag.state == .ready2 else b.tag.state == .ready1
  if due && uid = b.cascade second then
    if second then
      b |>.setTag (fun t => { t with state := .active, sector := 0 }) |>.showTag |>.answerBytes ([0x00] ++ crcA [0x00])
    else b |>.setTag (fun t => { t with state := .ready2 }) |>.answerBytes ([0x04] ++ crcA [0x04])
  else b.silent

/-- HLTA. -/
def hlta (b : Block) : Block :=
  if b.tag.state == .active then
    b |>.setTag (fun t => { t with state := .halted }) |>.endSession |>.showTag |>.silent
  else b.silent

/-- READ of 16 bytes, wrapping within the sector. -/
def nfcRead (page : Nat) (b : Block) : Block :=
  if b.tag.state != .active then b.silent
  else if b.tag.sector = 1 && !b.protectedOpen then b.nak
  else
    let data := (List.range 4).flatMap fun k => b.tagPage (b.tag.sector * 256 + (page + k) % 256)
    b |>.inc Reg.TAG.COUNTS_READS |>.answerBytes (data ++ crcA data)

/-- A page committed; equal content commits nothing (R454) (assumption 67, DEDUCED). -/
def commitPage (p : Nat) (data : List Byte) (b : Block) : Block :=
  if b.tagPage p = data then b else b.setBytes (tagBase + 4 * p) data

/-- WRITE of an OEM page by the field (R461, R466). -/
def nfcWrite (page : Nat) (data : List Byte) (b : Block) : Block :=
  let p := b.tag.sector * 256 + page
  if b.tag.state != .active then b.silent
  else if 208 ≤ p && p ≤ 255 && b.session && b.is Reg.TAG.CFG_FIELD_WR then
    let lost := (b.tag.queue.filter fun c => c.page == p).length
    b |>.setTag (fun t => { t with queue := t.queue.filter fun c => c.page != p })
      |>.add Reg.TAG.COUNTS_FIELD_WON lost |>.commitPage p (padTo 4 data) |>.inc Reg.TAG.COUNTS_WRITES |>.irq 0x2A 2
      |>.showTag |>.ack
  else b.nak

/-- SECTOR_SELECT. -/
def sectorSelect (sector : Nat) (b : Block) : Block :=
  if b.tag.state != .active then b.silent
  else if sector = 0 || (sector = 1 && b.protectedOpen) then b |>.setTag (fun t => { t with sector }) |>.ack
  else b.nak

/-- The lock-out is recorded at the first powered moment at which the counter reads 10 or more (R462). -/
def lockoutCheck (b : Block) : Block :=
  if b.powered && 10 ≤ b.rd Reg.TAG.AUTH_FAIL_CNT && !b.tag.lockSeen then
    b |>.setTag (fun t => { t with lockSeen := true }) |>.err 0x2A 1 |>.verdict (Verdict.tg 2) 0x2A
  else b

/-- AUTH (R461, R462). -/
def authFrame (pw : List Byte) (b : Block) : Block :=
  let n := b.rd Reg.TAG.AUTH_FAIL_CNT
  if b.tag.state != .active then b.silent
  else if 10 ≤ n || (3 ≤ n && b.tag.judged) then b.nak
  else
    let b := b.setTag fun t => { t with judged := true }
    if b.tag.password = some pw then
      b |>.wr Reg.TAG.AUTH_FAIL_CNT 0 |>.wr Reg.TAG.FSTAT_AUTH 1 |>.irq 0x2A 3
        |>.answerBytes ([0x4C, 0x54] ++ crcA [0x4C, 0x54])
    else
      b |>.inc Reg.TAG.AUTH_FAIL_CNT |>.setTag (fun t => { t with state := .idle }) |>.endSession |>.irq 0x2A 4
        |>.showTag |>.lockoutCheck |>.nak

/-- A write of 1 to `AUTH_RST` (R462). -/
def authRst (b : Block) : Block := b |>.wr Reg.TAG.AUTH_FAIL_CNT 0 |>.setTag fun t => { t with lockSeen := false }

/-- R460: the password is derived from KS05 and committed when it differs. -/
def tagPassword (b : Block) : Block :=
  match b.keySlot 5 with
  | some key =>
    b.setTag fun t => { t with
      password := some ((Crypto.sha256 ([0x4C, 0x54, 0x41, 0x47] ++ leBytes 8 b.uid ++ key)).take 4) }
  | none => b.setTag fun t => { t with password := none }

/-! Wired commits (R463 to R466, R484). -/

/-- Pages of the card and the OEM area: the ones a job, the window and the host port may write (Table TAG-2). -/
def wiredPage (p : Nat) : Bool := (4 ≤ p && p ≤ 199) || (208 ≤ p && p ≤ 255)

/-- The sequence page (R457). -/
def seqPage (seq : Nat) (busy : Bool) : List Byte := leBytes 2 seq ++ leBytes 1 (bit busy) ++ [0xA5]

/-- Buffered writes that wait for their commit (R465) (assumption 65, DEDUCED). -/
def buffered (b : Block) : Nat := (b.tag.queue.filter fun c => c.kind == .buffer).length

/-- The commit belongs to a commit job. -/
def ofJob (k : CommitKind) : Bool := k == .jobBusy || k == .jobPage || k == .jobEnd

/-- The job ends: what it had not committed yet is withdrawn (assumption 66, DEDUCED). -/
def endTagJob (res : Nat) (b : Block) : Block :=
  b |>.setTag (fun t => { t with job := none, queue := t.queue.filter fun c => !ofJob c.kind })
    |>.wr Reg.TAG.JRES_RES res |>.irq 0x2A 5 |>.showTag

/-- A commit job of these page images: what differs is queued between the two commits of the sequence page (R463)
(assumption 65, DEDUCED). -/
def tagJob (first : Nat) (img : List Byte) (b : Block) : Block :=
  let jobs := (List.range (img.length / 4)).filterMap fun k =>
    let data := (img.drop (4 * k)).take 4
    if data = b.tagPage (first + k) then none else some (Commit.mk .jobPage (first + k) data)
  if jobs = [] then b.endTagJob 2
  else
    let seq := b.val (tagBase + 0x320) 2
    let q := [Commit.mk .jobBusy 200 (seqPage seq true)] ++ jobs ++ [Commit.mk .jobEnd 200 (seqPage (seq + 1) false)]
    b |>.setTag (fun t => { t with job := some b.now, queue := t.queue ++ q }) |>.wr Reg.TAG.JRES_RES 1 |>.showTag

/-- `TAG.CMD.COMMIT` (R463): the job is judged, and its page images are read (assumption 65, DEDUCED). -/
def tagCommit (b : Block) : Block :=
  if b.tag.job.isSome then b.err 0x2A 2
  else
    let first := b.rd Reg.TAG.JOB_FIRST
    let count := b.rd Reg.TAG.JOB_COUNT
    let src := b.rd Reg.TAG.SRC_ADDR
    let b := b.wr Reg.TAG.JRES_PAGES 0
    if count = 0 ∨ 252 < count ∨ !((List.range count).all fun k => wiredPage (first + k)) then b.endTagJob 4
    else if src % 4 ≠ 0 ∨ !b.allowedRange 0 src (4 * count) 0 then b.endTagJob 5
    else
      match b.fetch 8 src (4 * count) with
      | (b, none) => b.endTagJob 5
      | (b, some img) => b.tagJob first img

/-- The wired side no longer commits to the page (R484). -/
def tagStopped (b : Block) (p : Nat) : Bool := b.tag.bad.contains p && b.isLasting ⟨0x2A, 0, 0⟩

/-- A status page committed, with its times (R458). -/
def statusTimed (k : Nat) (b : Block) : Block :=
  b.setTag fun t => { t with
    statLast := t.statLast.set k (some b.now)
    statTimes := t.statTimes.modify k fun l => b.ftDrips :: l.filter fun x => b.ftDrips < x + 864000000 }

/-- The next waiting commit completes, from whatever wired source (R464); `ok` is its read-back after at most two retries
(R484) (assumption 65, DEDUCED; assumption 66, DEDUCED; assumption 67, DEDUCED). -/
def tagPageCommit (ok : Bool) (b : Block) : Block :=
  match b.tag.queue with
  | [] => b
  | c :: rest =>
    let b := b.setTag fun t => { t with queue := rest }
    let stop := b.tagStopped c.page
    if !ok && !stop then
      let b := b |>.setTag (fun t => { t with bad := t.bad ++ [c.page] }) |>.err 0x2A 0
      if ofJob c.kind then b.endTagJob 7 else b.showTag
    else
      let b := b.cond (!stop) (·.commitPage c.page c.data)
      match c.kind with
      | .status => b |>.statusTimed (c.page - 201) |>.showTag
      | .jobPage => b |>.inc Reg.TAG.JRES_PAGES |>.showTag
      | .jobEnd => b.endTagJob 2
      | _ => b.showTag

/-- `TAG.CMD.ABORT` (R464). -/
def tagAbort (b : Block) : Block := b.cond b.tag.job.isSome (·.endTagJob 6)

/-- A word written through the host window (R465). -/
def tagWindowWrite (p : Nat) (data : List Byte) (b : Block) : Block :=
  if !wiredPage p then b.err 0x2A 3
  else if 4 ≤ b.buffered then b.err 0x2A 2
  else b |>.setTag (fun t => { t with queue := t.queue ++ [Commit.mk .buffer p data] }) |>.showTag

/-! The status area (R458, Table TAG-4). -/

def verdictShown (b : Block) : Nat := b.rd Reg.GPIO.LED_STAT_SHOWN

/-- The content of status page 201 + k. Page 202 holds the field time of the last status update. -/
def statusPage (b : Block) (k : Nat) (updated : Nat) : List Byte :=
  if k = 0 then leBytes 2 b.verdictShown ++ leBytes 1 b.mode.code ++ leBytes 1 b.lifecycle
  else if k = 1 then leBytes 4 updated
  else if k = 2 then leBytes 1 b.era ++ leBytes 1 (b.rd Reg.PWR.PPV_LEVEL) ++ leBytes 2 b.log.verdicts.length
  else if k = 3 then leBytes 4 (b.rd Reg.CAL.LAST_LO_TIME / 65536 + b.rd Reg.CAL.LAST_HI_TIME % 65536 * 65536)
  else if k = 4 then leBytes 1 (b.rd Reg.CAL.LAST_SRC_SRC) ++ leBytes 1 (b.rd Reg.CAL.LAST_SRC_ERA)
    ++ leBytes 2 (b.rd Reg.LOG.HELD_FOUND)
  else if k = 5 then leBytes 4 (b.rd Reg.UPD.RUN_VER_VER)
  else leBytes 4 (b.rd Reg.LOG.TOTAL_COUNT)

def statusDiffers (b : Block) (k : Nat) : Bool :=
  k != 1 && b.tagPage (201 + k) != b.statusPage k 0

/-- Fewer than 2,000 commits of the page in the last 24 h of field time. -/
def statusAllowed (b : Block) (k : Nat) : Bool :=
  ((b.tag.statTimes.getD k []).filter fun t => b.ftDrips < t + 864000000).length < 2000

/-- A page of the status area can be committed now: none of its commits waits, its limit allows one, and it is not stopped
(R458, R484). -/
def statusFree (b : Block) (k : Nat) : Bool :=
  b.statusAllowed k && !b.tagStopped (201 + k) && !(b.tag.queue.any fun c => c.page == 201 + k)

/-- A change of the shown verdict, the mode or the calibration stamp, which is committed within 1 s where it can be. -/
def statusUrgent (b : Block) : Bool :=
  (b.statusFree 0 && (b.val (tagBase + 0x324) 2 != b.verdictShown || b.val (tagBase + 0x326) 1 != b.mode.code))
    || (b.statusFree 3 && b.val (tagBase + 0x330) 4 != leValue (b.statusPage 3 0))
    || (b.statusFree 4 && b.val (tagBase + 0x334) 2 != leValue ((b.statusPage 4 0).take 2))

/-- Pages whose commit is due (R458). -/
def statusDue (b : Block) : List Nat :=
  (List.range 7).filter fun k =>
    b.statusDiffers k && b.statusFree k
      && (b.statusUrgent || (match b.tag.statLast.getD k none with | some t => decide (t + 600000 ≤ b.now) | none => true))

/-- The commits of the due pages, and with them that of the page that times them. -/
def statusCommits (b : Block) : List Commit :=
  let due := b.statusDue
  (if due ≠ [] ∧ b.statusFree 1 then due ++ [1] else due).map fun k =>
    { kind := .status, page := 201 + k, data := b.statusPage k (b.ft / 65536 % 2 ^ 32) }

/-- Commits wait behind those that wait already. -/
def queueCommits (l : List Commit) (b : Block) : Block := b |>.setTag (fun t => { t with queue := t.queue ++ l }) |>.showTag

def statusArea (b : Block) : Block := b.cond (b.powered && b.statusDue != []) (·.queueCommits b.statusCommits)

/-! The fault summary (R459, Table TAG-5). -/

def summaryHeader (count : Nat) (b : Block) : List Byte :=
  let body := leBytes 2 0x4D53 ++ [1] ++ leBytes 1 (min 31 count) ++ leBytes 4 count
    ++ leBytes 4 (b.rd Reg.LOG.TOTAL_COUNT) ++ leBytes 2 (b.rd Reg.LOG.HELD_FOUND) ++ leBytes 2 (b.rd Reg.LOG.HELD_CIRC)
    ++ leBytes 8 b.ft ++ leBytes 1 b.era ++ List.replicate 5 (0 : Byte)
  body ++ leBytes 2 (crc16 body)

/-- The slot of the summary that holds record `i`. -/
def sumSlotOf (b : Block) (i : Nat) : Option (Nat × Nat) :=
  (b.tag.sumSlots.zipIdx).findSome? fun e =>
    match e.1 with
    | some (j, t) => if j = i then some (e.2, t) else none
    | none => none

/-- A waiting record may be copied: a new one at once, a changed one 10 s after its last copy. -/
def sumReady (b : Block) (i : Nat) : Bool :=
  match b.sumSlotOf i with | some (_, t) => decide (t + 100000 ≤ b.now) | none => true

/-- The pages of the protected area from offset `off` of the tag that take `bs`, in ascending order. -/
def summaryPages (off : Nat) (bs : List Byte) : List Commit :=
  (List.range (bs.length / 4)).map fun k => { kind := .summary, page := off / 4 + k, data := (bs.drop (4 * k)).take 4 }

/-- The header's pages, the one that holds the count last. -/
def headerPages (h : List Byte) : List Commit :=
  let l := summaryPages 0x400 h
  l.filter (·.page != 0x101) ++ l.filter (·.page == 0x101)

/-- The slot of a copy of record `i`, and the count of the header that follows it, for a record not in the summary. -/
def summaryPlace (b : Block) (i : Nat) : Nat × Option Nat :=
  match b.sumSlotOf i with
  | some (k, _) => (k, none)
  | none =>
    let n := if b.val (tagBase + 0x400) 2 = 0x4D53 then b.val (tagBase + 0x404) 4 else 0
    (n % 31, some (n + 1))

/-- A copy begins (R459): the record is read by the TAG ledger master (Table SRAM-2), which stops at a word that is denied or lost
(R156), and its page commits wait; the next copy begins when they are done. -/
def summaryCopy (b : Block) : Block :=
  match b.tag.sumQueue.find? b.sumReady with
  | none => b
  | some i =>
    if !b.recorderUp || b.tag.queue.any (·.kind == .summary) then b
    else
      let (k, count) := b.summaryPlace i
      let head := match count with | some n => headerPages (b.summaryHeader n) | none => []
      match b.fetch 8 (recordAt b.log.base i) 32 with
      | (b, none) => b.setTag fun t => { t with sumQueue := t.sumQueue.filter (· != i) }
      | (b, some img) =>
        b |>.setTag (fun t => { t with
              sumQueue := t.sumQueue.filter (· != i), sumSlots := t.sumSlots.set k (some (i, b.now)) })
          |>.queueCommits (summaryPages (0x420 + 32 * k) img ++ head)

end Block

/-- NFC_FIELD_ON (R452). -/
def execNfcFieldOn (s : State) : Host.Outcome State Fault Refusal := s.run Block.fieldOn

/-- NFC_FIELD_OFF (R461). -/
def execNfcFieldOff (s : State) : Host.Outcome State Fault Refusal := s.run Block.fieldOff

/-- REQA (R452). -/
def execReqa (s : State) : Host.Outcome State Fault Refusal := s.run (Block.tagFrame (Block.wake false))

/-- WUPA (R452). -/
def execWupa (s : State) : Host.Outcome State Fault Refusal := s.run (Block.tagFrame (Block.wake true))

/-- ANTICOLLISION (R453): the cascade level and the bits the reader sends ahead. -/
def execAnticollision (second : Bool) (bits value : Nat) (s : State) : Host.Outcome State Fault Refusal :=
  s.run (Block.tagFrame (Block.anticollision second bits value))

/-- SELECT (R452). -/
def execSelect (second : Bool) (uid : List Byte) (s : State) : Host.Outcome State Fault Refusal :=
  s.run (Block.tagFrame (Block.select second uid))

/-- HLTA (R461). -/
def execHlta (s : State) : Host.Outcome State Fault Refusal := s.run (Block.tagFrame Block.hlta)

/-- NFC_READ (R452). -/
def execNfcRead (page : Fin 256) (s : State) : Host.Outcome State Fault Refusal :=
  s.run (Block.tagFrame (Block.nfcRead page))

/-- NFC_WRITE (R461, R466). -/
def execNfcWrite (page : Fin 256) (data : Word) (s : State) : Host.Outcome State Fault Refusal :=
  s.run (Block.tagFrame (Block.nfcWrite page (leBytes 4 data.toNat)))

/-- SECTOR_SELECT (R452, R461). -/
def execSectorSelect (sector : Fin 256) (s : State) : Host.Outcome State Fault Refusal :=
  s.run (Block.tagFrame (Block.sectorSelect sector))

/-- AUTH (R461, R462). -/
def execAuth (pw : Word) (s : State) : Host.Outcome State Fault Refusal :=
  s.run (Block.tagFrame (Block.authFrame (leBytes 4 pw.toNat)))

/-- TAG_BAD_FRAME (R452): a bad CRC_A gets NAK 0x1, an unlisted command NAK 0x0. -/
def execTagBadFrame (badCrc : Bool) (s : State) : Host.Outcome State Fault Refusal :=
  s.run (Block.tagFrame fun b => if b.tag.state == .off then b.silent else b.answerBytes [if badCrc then 0x1 else 0x0])

/-- TAG_COMMIT (R463). -/
def execTagCommit (s : State) : Host.Outcome State Fault Refusal := s.run Block.tagCommit

/-- TAG_COMMIT_ABORT (R464). -/
def execTagCommitAbort (s : State) : Host.Outcome State Fault Refusal := s.run Block.tagAbort

/-- TAG_JOB_TIMEOUT (R464): 2 s after COMMIT. -/
def execTagJobTimeout (s : State) : Host.Outcome State Fault Refusal :=
  s.run fun b =>
    match b.tag.job with
    | some t => if t + 20000 ≤ b.now then b.endTagJob 3 else b
    | none => b

/-- TAG_PAGE_COMMIT (R464, R484). -/
def execTagPageCommit (ok : Bool) (s : State) : Host.Outcome State Fault Refusal :=
  s.run fun b => b.cond b.powered (Block.tagPageCommit ok)

/-- TAG_WINDOW_WRITE (R465). -/
def execTagWindowWrite (page : Fin 512) (data : Word) (s : State) : Host.Outcome State Fault Refusal :=
  s.run fun b => b.cond b.powered (Block.tagWindowWrite page (leBytes 4 data.toNat))

/-- STATUS_AREA_COMMIT (R458). -/
def execStatusAreaCommit (s : State) : Host.Outcome State Fault Refusal := s.run Block.statusArea

/-- SUMMARY_COPY (R459). -/
def execSummaryCopy (s : State) : Host.Outcome State Fault Refusal := s.run Block.summaryCopy

/-- AUTH_RST (R462). -/
def execAuthRst (s : State) : Host.Outcome State Fault Refusal := s.run Block.authRst

end Sys2Proof.Machine
end

