-- ==== Sys2Proof/Machine/HostPort.lean ====
section
/-! DEFINITION. The host port (06_shared_memory_mailboxes.md, R175 to R179, R185; 15_tag_and_recorder.md, R465). Each
command is one frame whose CRC is good, but for the bad frame, which is given by its MOSI bytes, and the abandoned one. -/

namespace Sys2Proof.Machine
namespace Block

/-- The status byte of Table HOST-2. -/
def hostStatusByte (b : Block) : Nat :=
  let r := b.rd Reg.HOST.HSTAT_LAST
  0x80 + (if b.hostBells ≠ 0 then 0x20 else 0) + b.rd Reg.HOST.HSTAT_BUSY * 0x10 + (if r = 2 then 8 else 0)
    + (if r = 1 ∨ r = 4 ∨ r = 6 then 4 else 0) + (if r = 3 then 2 else 0) + (if r = 0 then 1 else 0)

/-- What MISO carries: the status byte, then a response behind its marker. -/
def hostAnswer (status : Nat) (data : Option (List Byte)) (b : Block) : Block :=
  match data with
  | some d => b.answerBytes ([BitVec.ofNat 8 status, 0x5A] ++ d ++ leBytes 2 (crc16 d))
  | none => b.answerBytes [BitVec.ofNat 8 status]

/-- A frame's result (assumption 73, DEDUCED). -/
def hostResult (r : Nat) (b : Block) : Block :=
  b |>.wr Reg.HOST.HSTAT_LAST r |>.cond (r = 1 || r = 4 || r = 6) (·.inc Reg.HOST.DENIED_COUNT)

/-- The host port takes frames: its page is enabled and SYS runs (assumption 74, DEDUCED). -/
def hostOpen (b : Block) : Bool := b.powered && b.is (Reg.HDR.EN 0x2B)

/-- A frame begins: one that begins after the last WRITE has ended finds BUSY clear (assumption 23, DESIGN CHOICE). -/
def hostBegin (early : Bool) (b : Block) : Block := b.cond (!early) (·.wr Reg.HOST.HSTAT_BUSY 0)

/-- A frame with a good CRC (R175, R177, R179): HOST is on, and one that meets a WRITE still executing ends BUSY, but for
STATUS. `f` is what the frame does, with the response and the result (assumption 72, DEDUCED; assumption 74, DEDUCED). -/
def hostFrame (early status : Bool) (f : Block → Block × Option (List Byte) × Nat) (b : Block) : Block :=
  if !b.hostOpen then b.silent
  else
    let b := b.hostBegin early
    let st := b.hostStatusByte
    let b := { b with host := { b.host with lastGood := b.now } }
      |>.inc Reg.HOST.FRAMES_COUNT |>.wr Reg.HOST.HSTAT_ALIVE 1 |>.mbxSweep
    if b.is Reg.HOST.HSTAT_BUSY && !status then b |>.hostResult 7 |>.hostAnswer st none
    else
      let (b, data, r) := f b
      b |>.hostResult r |>.hostAnswer st data

/-- A word-aligned range of SRAM of 1 to 256 words. -/
def hostRange (a n : Nat) : Bool := a % 4 = 0 && isSram a && isSram (a + 4 * n - 1)

/-- READ; a count outside 1 to 256 ends CMD_BAD (assumption 130, DESIGN CHOICE). -/
def hostRead (a n : Nat) (b : Block) : Block × Option (List Byte) × Nat :=
  if n = 0 ∨ 256 < n then (b, none, 3)
  else if !hostRange a n then (b, none, 1)
  else
    match b.fetch 9 a (4 * n) with
    | (b', some d) => (b', some d, 0)
    | (b', none) => (b', none, if b.allowedRange 4 a (4 * n) 0 then 4 else 1)

/-- WRITE: BUSY is set as its words are written (R177) (assumption 23, DESIGN CHOICE; assumption 130, DESIGN CHOICE). -/
def hostWrite (a : Nat) (ws : List Word) (b : Block) : Block × Option (List Byte) × Nat :=
  if ws = [] ∨ 256 < ws.length then (b, none, 3)
  else if !hostRange a ws.length then (b, none, 1)
  else
    match (b.wr Reg.HOST.HSTAT_BUSY 1).store 9 a (ws.flatMap fun w => leBytes 4 w.toNat) with
    | (b, true) => (b, none, 0)
    | (b, false) => (b, none, 1)

/-- STATUS: doorbells, the last result and field time (Table HOST-2) (assumption 73, DEDUCED). -/
def hostStatus (b : Block) : Block × Option (List Byte) × Nat :=
  (b, some (leBytes 2 b.hostBells ++ leBytes 1 (b.rd Reg.HOST.HSTAT_LAST) ++ [0] ++ leBytes 4 (b.ft / 65536 % 2 ^ 32)),
    0)

/-- MBX_SEND; a mailbox number above 15 ends CMD_BAD (assumption 130, DESIGN CHOICE). -/
def hostSend (n ptr len tag : Nat) (b : Block) : Block × Option (List Byte) × Nat :=
  if 16 ≤ n then (b, none, 3)
  else (b.mbxPost n 4 ptr len tag, none, if b.mbxSender n = 4 then 0 else 6)

/-- MBX_TAKE: the held notice, taken where HOST is its receiver; of another receiver's mailbox it is answered and stays, as a
read by any other agent leaves it (R170) (assumption 70, DEDUCED; assumption 130, DESIGN CHOICE). -/
def hostTake (n : Nat) (b : Block) : Block × Option (List Byte) × Nat :=
  if 16 ≤ n then (b, none, 3)
  else
    match b.heldNotice n with
    | some x =>
      let flags := 1 + b.rd (Reg.MBX.MSTAT_COLL n) * 2 + b.rd (Reg.MBX.MSTAT_TMO n) * 4
      (b.cond (b.mbxReceiver n = 4) (hold n none), some (leBytes 4 x.ptr ++ leBytes 2 x.len ++ leBytes 1 x.tag ++ leBytes 1 x.sender ++ leBytes 1 flags), 0)
    | none => (b, some (List.replicate 9 0), 0)

/-! Table TAG-6. -/

/-- TAG_READ of `n` pages; a count out of range ends CMD_BAD (Table TAG-6) (assumption 130, DESIGN CHOICE). -/
def hostTagRead (page n : Nat) (b : Block) : Block × Option (List Byte) × Nat :=
  if n = 0 ∨ 64 < n then (b, none, 3)
  else if 256 < page + n then (b, none, 1)
  else (b, some ((List.range n).flatMap fun k => b.tagPage (page + k)), 0)

/-- TAG_WRITE of up to four pages, buffered together; a count out of range ends CMD_BAD (Table TAG-6)
(assumption 130, DESIGN CHOICE). -/
def hostTagWrite (page : Nat) (ws : List Word) (b : Block) : Block × Option (List Byte) × Nat :=
  if ws = [] ∨ 4 < ws.length then (b, none, 3)
  else if !((List.range ws.length).all fun k => wiredPage (page + k)) then (b, none, 1)
  else if 4 < b.buffered + ws.length then (b, none, 7)
  else (b.each ws.zipIdx (fun e b => b.tagWindowWrite (page + e.2) (leBytes 4 e.1.toNat)), none, 0)

def hostTagStat (b : Block) : Block × Option (List Byte) × Nat :=
  let fstat := b.rd Reg.TAG.FSTAT_FIELD + b.rd Reg.TAG.FSTAT_ACTIVE * 2 + b.rd Reg.TAG.FSTAT_AUTH * 4 + b.rd Reg.TAG.FSTAT_BUSY * 8
  (b, some (leBytes 1 fstat ++ leBytes 2 (b.val (tagBase + 0x320) 2) ++ leBytes 1 (b.rd Reg.TAG.JRES_RES)), 0)

/-! Whole frames. -/

/-- The command that the MOSI bytes before the CRC spell, and whether it is STATUS (Tables HOST-1 and TAG-6); none for an
unknown command or a wrong length. -/
def hostCommand (m : List Byte) : Option (Bool × (Block → Block × Option (List Byte) × Nat)) :=
  let v (o n : Nat) : Nat := leValue ((m.drop o).take n)
  let words (o n : Nat) : List Word := (List.range n).map fun k => BitVec.ofNat 32 (v (o + 4 * k) 4)
  let take (ok : Bool) (f : Block → Block × Option (List Byte) × Nat) :
      Option (Bool × (Block → Block × Option (List Byte) × Nat)) := if ok then some (v 0 1 = 3, f) else none
  if v 0 1 = 0x01 then take (m.length = 7) (hostRead (v 1 4) (v 5 2))
  else if v 0 1 = 0x02 then take (7 ≤ m.length && m.length = 7 + 4 * v 5 2) (hostWrite (v 1 4) (words 7 (v 5 2)))
  else if v 0 1 = 0x03 then take (m.length = 1) hostStatus
  else if v 0 1 = 0x04 then take (m.length = 9) (hostSend (v 1 1) (v 2 4) (v 6 2) (v 8 1))
  else if v 0 1 = 0x05 then take (m.length = 2) (hostTake (v 1 1))
  else if v 0 1 = 0x10 then take (m.length = 4) (hostTagRead (v 1 2) (v 3 1))
  else if v 0 1 = 0x11 then take (4 ≤ m.length && m.length = 4 + 4 * v 3 1) (hostTagWrite (v 1 2) (words 4 (v 3 1)))
  else if v 0 1 = 0x12 then take (m.length = 1) hostTagStat
  else none

/-- A frame by its MOSI bytes (R175): the CRC over all bytes before it is judged first. One that meets a WRITE still
executing ends BUSY whatever its CRC (R177) (assumption 130, DESIGN CHOICE). -/
def hostRaw (early : Bool) (mosi : List Byte) (b : Block) : Block :=
  let m := mosi.take (mosi.length - 2)
  if !b.hostOpen then b.silent
  else if 3 ≤ mosi.length ∧ leValue (mosi.drop (mosi.length - 2)) = crc16 m then
    match hostCommand m with
    | some (status, f) => b.hostFrame early status f
    | none => b.hostFrame early false fun b => (b, none, 3)
  else
    let b := b.hostBegin early
    let st := b.hostStatusByte
    let busy := b.is Reg.HOST.HSTAT_BUSY && leValue (mosi.take 1) != 3
    b |>.hostResult (if busy then 7 else 2) |>.inc Reg.HOST.CRC_ERRS_COUNT |>.err 0x2B 0 |>.hostAnswer st none

end Block

/-- HOST_READ (R175): `n` words from `a`. `early`: the frame begins while the last WRITE is still executing. -/
def execHostRead (early : Bool) (a : Word) (n : BitVec 16) (s : State) : Host.Outcome State Fault Refusal :=
  s.run (Block.hostFrame early false (Block.hostRead a.toNat n.toNat))

/-- HOST_WRITE (R177). -/
def execHostWrite (early : Bool) (a : Word) (ws : List Word) (s : State) : Host.Outcome State Fault Refusal :=
  s.run (Block.hostFrame early false (Block.hostWrite a.toNat ws))

/-- HOST_STATUS (R175): answered while a WRITE executes as well. -/
def execHostStatus (early : Bool) (s : State) : Host.Outcome State Fault Refusal :=
  s.run (Block.hostFrame early true Block.hostStatus)

/-- MBX_SEND (R175). -/
def execMbxSend (early : Bool) (n : BitVec 8) (ptr : Word) (len : BitVec 16) (tag : BitVec 8) (s : State) :
    Host.Outcome State Fault Refusal :=
  s.run (Block.hostFrame early false (Block.hostSend n.toNat ptr.toNat len.toNat tag.toNat))

/-- MBX_TAKE (R175). -/
def execMbxTake (early : Bool) (n : BitVec 8) (s : State) : Host.Outcome State Fault Refusal :=
  s.run (Block.hostFrame early false (Block.hostTake n.toNat))

/-- TAG_READ (R465). -/
def execTagRead (early : Bool) (page : BitVec 16) (n : BitVec 8) (s : State) : Host.Outcome State Fault Refusal :=
  s.run (Block.hostFrame early false (Block.hostTagRead page.toNat n.toNat))

/-- TAG_WRITE (R465). -/
def execTagWrite (early : Bool) (page : BitVec 16) (ws : List Word) (s : State) : Host.Outcome State Fault Refusal :=
  s.run (Block.hostFrame early false (Block.hostTagWrite page.toNat ws))

/-- TAG_STAT (R465). -/
def execTagStat (early : Bool) (s : State) : Host.Outcome State Fault Refusal :=
  s.run (Block.hostFrame early false Block.hostTagStat)

/-- HOST_BAD_FRAME (R175): a frame by its MOSI bytes, whose CRC and length nobody has judged. -/
def execHostBadFrame (early : Bool) (mosi : List Byte) (s : State) : Host.Outcome State Fault Refusal :=
  s.run (Block.hostRaw early mosi)

/-- HOST_FRAME_ABANDON (R185): HOST_CS rises before the frame's last CRC. It counts as no good frame, whatever of it came
(assumption 175, DESIGN CHOICE). -/
def execHostFrameAbandon (early : Bool) (s : State) : Host.Outcome State Fault Refusal :=
  s.run fun b =>
    if b.hostOpen then
      let b := b.hostBegin early
      b.hostResult (if b.is Reg.HOST.HSTAT_BUSY then 7 else 5)
    else b.silent

/-- HOST_IDLE_TIMEOUT (R179). -/
def execHostIdleTimeout (s : State) : Host.Outcome State Fault Refusal :=
  s.run fun b =>
    if b.hostOpen && b.is Reg.HOST.HSTAT_ALIVE && b.host.lastGood + b.rd Reg.HOST.CFG_IDLE * 100 ≤ b.now then
      b |>.wr Reg.HOST.HSTAT_ALIVE 0 |>.mbxSweep |>.err 0x2B 1
    else b

end Sys2Proof.Machine
end

