-- ==== Sys2Proof/Machine/Legal.lean ====
section
/-! DEFINITION. Blocking: the legal set of every RWL field, the value stored for a value written, and the reason when
the two differ (R125 to R128; Table BLK-2: 1 ABOVE_MAX, 2 BELOW_MIN, 3 NOT_LISTED, 4 RELATIONAL, 5 BUDGET). -/

namespace Sys2Proof.Machine

/-- The nearest value to `v` of the range `lo` to `hi` cut by a partner's lower and upper bound, and the reason; where
nothing lies in both, the end of the own range nearest to the bound (R125). -/
def nearest (lo hi : Int) (rlo rhi : Option Int) (v : Int) : Int × Nat :=
  let l := max lo (rlo.getD lo)
  let h := min hi (rhi.getD hi)
  if h < l then
    let e := if h < lo then lo else hi
    (e, if v = e then 0 else 4)
  else if v < l then (l, if lo < l then 4 else 2)
  else if h < v then (h, if h < hi then 4 else 1)
  else (v, 0)

/-- The nearest member of an ascending list, the lower of two equally near (R125). -/
def nearestOf (l : List Int) (v : Int) : Int × Nat :=
  let r := l.foldl (fun (m : Int) x => if (x - v).natAbs < (m - v).natAbs then x else m) (l.headD 0)
  (r, if r = v then 0 else 3)

/-- The nearest value that leaves `rem` when divided by `step`, within a range whose ends do so (R125)
(assumption 13, DESIGN CHOICE). -/
def nearestStep (lo hi : Int) (rlo rhi : Option Int) (step rem : Int) (v : Int) : Int × Nat :=
  let (w, r) := nearest lo hi rlo rhi v
  let down := w - (w - rem) % step
  let x := if (w - rem) % step * 2 ≤ step then down else down + step
  if x = w then (w, r) else (x, if r = 0 then 3 else r)

/-- A value under a worst-case budget (R42): the largest value from `lo` to `v` that fits; `v` itself if it does. -/
def fitDown (fits : Nat → Bool) (lo v : Nat) : Nat :=
  if fits v then v else ((List.range (v - lo)).reverse.map (lo + ·)).find? fits |>.getD lo

namespace Block

/-! Partner bounds. -/

/-- Channels of a band and rate (Table RAD-1). -/
def chanTop (band rate : Nat) : Int :=
  if band = 0 then (if rate = 0 then 33 else 16) else (if rate = 0 then 128 else 63)

/-- Time quanta of a bit as stored (R335). -/
def quanta (b : Block) : Nat := 4 + b.rd Reg.CAN.BT_PROP + b.rd Reg.CAN.BT_PS1 + b.rd Reg.CAN.BT_PS2

/-- The codes of Table LOOP-1. -/
def sourceCodes : List Int := ((List.range 256).filter isSource).map Int.ofNat

/-- The largest `KDF` below 1.0 at the stored format and shift (R304, R308, R309). -/
def kdfTop (b : Block) (s : Nat) : Int :=
  if b.is (Reg.LW.CFG_FMT s) then min (2 ^ b.rd (Reg.LW.PID_SH_KP s) - 1) (2 ^ 23 - 1)
  else 2 ^ min 31 (b.rd (Reg.LW.PID_SH_KDF s)) - 1

/-- Cost of the gallery with section `s` enabled at `width` (R202). -/
def predSection (b : Block) (s width : Nat) : Nat :=
  galCost (b.rd Reg.GAL0.GRID_CELL) (b.rd Reg.GAL0.EVAL_BISECT) b.gal.bndNew.emax
    (width :: (b.enabledSecs.filter (· != s)).map fun t => b.rd (ofSec Reg.GAL.SMAP_WIDTH t))

/-- A window field of slot `s` (Table LOOP-6). `TGT` and `XFORM` of an enabled slot take no target that another owns (R307)
(assumption 166, DESIGN CHOICE). -/
def legalWindow (b : Block) (s off lsb : Nat) (f : Fld) (v : Int) : Int × Nat :=
  let bfloat := b.is (Reg.LW.CFG_FMT s)
  if off = 0x044 ∧ lsb = 0 then nearestOf [0, 1, 2, 3, 4] v
  else if off = 0x044 ∧ lsb = 4 then nearest 0 99 none (some (ratePeriod (b.rd (Reg.LW.CFG_RATE s)) - 1 : Nat)) v
  else if off = 0x044 ∧ (lsb = 12 ∨ lsb = 20 ∨ lsb = 22) then nearestOf [0, 1, 2] v
  else if off = 0x048 ∧ lsb < 24 ∨ off = 0x0B4 ∧ lsb = 0 then nearestOf sourceCodes v
  else if off = 0x048 then
    let own := nearestOf [0, 1, 2, 3, 4, 5, 6, 7, 8] v
    let free (t : Int) : Bool := !(b.wr f t.toNat).targetClash s
    if free own.1 then own else ((nearestOf ([0, 1, 2, 3, 4, 5, 6, 7, 8].filter free) v).1, 4)
  else if off = 0x044 ∧ lsb = 19 then
    let now := b.wr f v.toNat
    if now.targetClash (s / 2 * 2) || now.targetClash (s / 2 * 2 + 1) then (b.rd f, 4) else (v, 0)
  else if off = 0x050 then nearest f.lo f.hi (some (b.rdI (Reg.LW.OUT_MIN_MIN s))) none v
  else if off = 0x064 then nearest 0 (2 ^ 31 - 1) none (some (b.kdfTop s)) v
  else if (0x058 ≤ off ∧ off ≤ 0x068 ∨ 0x070 ≤ off ∧ off ≤ 0x094) ∧ bfloat then
    nearest (-(2 ^ 23)) (2 ^ 23 - 1) none none v
  else if (off = 0x06C ∨ off = 0x098 ∨ off = 0x09C) ∧ !bfloat then nearest 0 31 none none v
  else if off = 0x0B0 then
    nearest f.lo f.hi (some (b.outMin s)) (some (b.outMax s)) v
  else nearest f.lo f.hi none none v

/-- The value nearest to `v` that fits, the lower on a tie, within the 16 rows of cells of 500 mm after which the bands of
R202 repeat; the stored one, which fits, where none does. -/
def nearFit (fits : Int → Bool) (lo hi v stored : Int) : Int :=
  ((List.range 8001).findSome? fun (d : Nat) =>
    if lo ≤ v - d && fits (v - d) then some (v - (d : Int))
    else if v + d ≤ hi && fits (v + d) then some (v + (d : Int)) else none).getD stored

/-- A field of a GAL page (Tables GAL-8 and GAL-10). `ORIG_N` too moves the bands that E counts, so that R42 checks it
(assumption 145, DEDUCED). -/
def legalGal (b : Block) (f : Fld) (v : Int) : Int × Nat :=
  let own := nearest f.lo f.hi none none v
  let field := b.mode == .field
  let budget (w : Nat) : Int × Nat := if (w : Int) = own.1 then own else (w, 5)
  let fixed : Int × Nat := (if f.signed then b.rdI f else b.rd f, 4)
  if f.off = 0x370 ∧ f.lsb = 0 then
    if field then (if v = b.rd f then (v, 0) else fixed)
    else
      let fits (c : Nat) : Bool :=
        b.galPredWith c (b.rd Reg.GAL0.EVAL_BISECT) (edgeMaxAt c (b.rdI Reg.GAL0.ORIG_N_N) b.gal.bndNew.polys) ≤ galBudget
      if !fits v.toNat && fits (1 - v.toNat) then (1 - v, 5) else (v, 0)
  else if 0x360 ≤ f.off ∧ f.off ≤ 0x36C then
    if field then (if v = fixed.1 then own else fixed)
    else if f.off = 0x36C then
      let fits (n : Int) : Bool := b.galPredWith (b.rd Reg.GAL0.GRID_CELL) (b.rd Reg.GAL0.EVAL_BISECT)
        (edgeMaxAt (b.rd Reg.GAL0.GRID_CELL) n b.gal.bndNew.polys) ≤ galBudget
      if fits own.1 then own else (nearFit fits f.lo f.hi own.1 fixed.1, 5)
    else own
  else if f.off = 0x374 ∧ f.lsb = 16 then nearest 0 500 (some (b.rd Reg.GAL0.SPEED_VMIN + 20 : Nat)) none v
  else if f.off = 0x378 ∧ f.lsb = 12 then nearestOf [0, 1, 2] v
  else if f.off = 0x388 then
    budget (fitDown (fun w => b.galPredWith (b.rd Reg.GAL0.GRID_CELL) w b.gal.bndNew.emax ≤ galBudget) 0
      own.1.toNat)
  else if 0x394 ≤ f.off ∧ f.off < 0x3A4 ∧ f.lsb = 0 then nearestOf [0, 1, 2] v
  else if f.off < 0x340 ∧ (f.off - 0x040) % 12 = 4 ∧ f.lsb = 0 then
    let s := (f.page - 0x10) * 64 + (f.off - 0x040) / 12
    if b.is (ofSec Reg.GAL.SMAP_EN s) then
      budget (fitDown (fun w => b.predSection s w ≤ galBudget) 50 own.1.toNat)
    else own
  else if f.off < 0x340 ∧ (f.off - 0x040) % 12 = 4 ∧ f.lsb = 15 then
    let s := (f.page - 0x10) * 64 + (f.off - 0x040) / 12
    if v = 1 ∧ galBudget < b.predSection s (b.rd (ofSec Reg.GAL.SMAP_WIDTH s)) then (0, 5) else (v, 0)
  else own

/-- A step of the commutation table: each leg's code 3 becomes 2 (R281); the reason is NOT_LISTED (assumption 13, DESIGN
CHOICE). -/
def commTab (v : Int) : Int × Nat :=
  let leg (l : Nat) : Nat := min 2 (v.toNat / 4 ^ l % 4)
  let w : Int := (leg 0 + 4 * leg 1 + 16 * leg 2 : Nat)
  (w, if w = v then 0 else 3)

/-- A field of PWM module `m` (Table PWM-5). -/
def legalPwm (b : Block) (m : Nat) (f : Fld) (v : Int) : Int × Nat :=
  if f.off = 0x044 ∧ b.is (Reg.PWM.CFG_TLOCK m) then nearestOf [200, 400, 600, 800] v
  else if f.off = 0x06C then nearestOf [0, 1, 2] v
  else if f.off = 0x098 ∨ f.off = 0x09C then commTab v
  else if f.off = 0x074 ∧ f.lsb = 16 then nearest 0 655 (some (b.rd (Reg.PWM.DT_DT_MIN m))) none v
  else nearest f.lo f.hi none none v

/-- The value stored for `v` written to the RWL field `f`, and the clamp reason, 0 where `v` is legal (R125)
(assumption 13, DESIGN CHOICE; assumption 14, DEDUCED). -/
def legal (b : Block) (f : Fld) (v : Int) : Int × Nat :=
  let own := nearest f.lo f.hi none none v
  let below (hi : Int) : Int × Nat := nearest f.lo f.hi none (some hi) v
  let above (lo : Int) : Int × Nat := nearest f.lo f.hi (some lo) none v
  if 0x40 ≤ f.page then b.legalWindow (f.page - 0x40) f.off f.lsb f v
  else if 0x10 ≤ f.page ∧ f.page ≤ 0x13 then b.legalGal f v
  else if 0x1C ≤ f.page ∧ f.page ≤ 0x1F then b.legalPwm (f.page - 0x1C) f v
  else match f.page, f.off, f.lsb with
  | 0x02, 0x040, 8 => below ((b.rd Reg.PWR.PVG_ON : Int) - 4)
  | 0x02, 0x040, 16 => below (b.rd Reg.PWR.PVG_OFF)
  | 0x02, 0x080, 16 => nearestOf [0, 1, 2] v
  | 0x02, 0x080, 18 => nearestOf [1, 2, 3] v
  | 0x02, off, _ => if 0x058 ≤ off ∧ off ≤ 0x06C then below (b.rd (shedField ((off - 0x054) / 4))) else own
  | 0x07, off, _ =>
    if off < 0x240 ∧ off % 16 = 0 then nearestStep f.lo f.hi none none 32 0 v
    else if off < 0x240 ∧ off % 16 = 4 then
      nearestStep f.lo f.hi (some (b.rd (Reg.FENCE.BASE_ADDR ((off - 0x040) / 16)) + 0x1F : Nat)) none 32 31 v
    else own
  | 0x09, _, 4 => nearestOf [0, 1, 2, 4] v
  | 0x0B, 0x040, _ => nearestStep f.lo f.hi none none 0x8000 0 v
  | 0x14, 0x060, 8 => above (b.rd Reg.GFE.JAMTHR_WARN)
  | 0x14, 0x064, 8 => above (b.rd Reg.GFE.DET_OPEN_MA + 5 : Nat)
  | 0x15, _, 0 => if f.width = 2 then nearestOf [0, 1, 2] v else own
  | 0x19, 0x044, 16 => below (b.rd Reg.GBASE.HEAD_ALPHA)
  | 0x1B, 0x044, 8 => above (b.rd Reg.GPVT.RTK_RTK_AGE)
  | 0x1B, 0x048, _ => nearestStep f.lo f.hi none none 128 0 v
  | 0x24, 0x088, _ => nearestStep f.lo f.hi none none 32 0 v
  | 0x26, 0x044, 20 => below (min (b.rd Reg.CAN.BT_PS1) (b.rd Reg.CAN.BT_PS2) : Nat)
  | 0x26, 0x044, 24 => above ((ceilDiv 32 b.quanta : Nat) - 1 : Int)
  | 0x27, 0x058, _ =>
    nearestStep f.lo f.hi none (some (0x20200000 - (32 * 2 ^ b.rd Reg.CANRX.RING_CFG_LOG2LEN : Nat))) 32 0 v
  | 0x27, 0x05C, 16 => below ((2 ^ b.rd Reg.CANRX.RING_CFG_LOG2LEN : Nat) - 1 : Int)
  | 0x28, 0x040, 8 => below (chanTop (b.rd Reg.RAD.PHY_BAND) (b.rd Reg.RAD.PHY_RATE))
  | 0x28, 0x054, 4 => below (b.rd Reg.RAD.MAC_MAX_BE)
  | 0x2F, _, 0 => nearestOf [1, 2, 3] v
  | _, _, _ => own

/-- The value of a field as its table gives it (assumption 14, DEDUCED). -/
def fieldValue (f : Fld) (raw : Nat) : Int := if f.signed then signedOf f.width raw else (raw % 2 ^ f.width : Nat)

/-- One RWL field of a write (R125, R129), on the page `page` (a window field stands on its LOOP page). -/
def storeRwl (page : Nat) (f : Fld) (w : Nat) (b : Block) : Block :=
  let v := fieldValue f (w / 2 ^ f.lsb)
  let (x, reason) := b.legal f v
  let b := b.wr f (unsignedOf f.width x)
  if reason = 0 then b
  else b |>.clamped page reason f.off f.lsb (w / 2 ^ f.lsb % 2 ^ f.width) (unsignedOf f.width x)
    |>.cond (0x40 ≤ f.page) (·.wr (Reg.LOOP.CLAMP_SLOT_SLOT (page - 0x20)) ((f.page - 0x40) % 8))

/-- The RWL fields of one write in ascending order of their lowest bit (R126); `GEN` counts the write (R124). A locked
page ignores it (R13). -/
def storeRwls (page : Nat) (fs : List Fld) (w : Nat) (b : Block) : Block :=
  let fs := fs.filter fun f => f.acc == .rwl
  if b.locked page || fs.isEmpty then b
  else b |>.each fs (fun f b => b.storeRwl page f w) |>.bumpGen page

end Block
end Sys2Proof.Machine
end

