-- ==== Sys2Proof/Machine/Soft.lean ====
section
/-! DEFINITION. The page header's controls: soft reset (R120, R553), enable (R552), freeze (R121) and lock (R13). -/

namespace Sys2Proof.Machine

/-- Every field of a page; on a LOOP page with the fields of its eight slots behind the window (Table LOOP-6). -/
def pageFields (p : Nat) : List Fld :=
  Reg.allFields (Reg.HDR.rows p ++ Reg.blockRows p) ++
    (if 0x20 ≤ p ∧ p ≤ 0x23 then (List.range 8).flatMap fun j => Reg.allFields (Reg.LW.rows ((p - 0x20) * 8 + j)) else [])

/-- What a soft reset of page `p` leaves (R120, Table PAGE-5): `LOCK`, `GEN`, `CLAMP`, and registers that mirror memory or
belong to a controller outside the page (assumption 18, DEDUCED). -/
def softKept (p : Nat) : List Fld :=
  [Reg.HDR.LOCKED p, Reg.HDR.GEN p, Reg.HDR.CLAMP_COUNT p, Reg.HDR.CLAMP_OFFSET p, Reg.HDR.CLAMP_LSB p] ++
  (if p = 0x07 then [Reg.FENCE.APPLIED_GEN]
   else if p = 0x0C then [Reg.BLK.REP_STAT_HELD]
   else if p = 0x0D then [Reg.CAL.VALID_HDR, Reg.CAL.VALID_SECT, Reg.CAL.WCOUNT_COUNT, Reg.CAL.LAST_LO_TIME,
      Reg.CAL.LAST_HI_TIME, Reg.CAL.LAST_SRC_SRC, Reg.CAL.LAST_SRC_ERA]
   else if p = 0x0E then [Reg.FLASH.OWNER_OWNER]
   else if p = 0x0F then [Reg.UPD.USTAT_LOADER_ONLY]
   else if 0x10 ≤ p ∧ p ≤ 0x13 then
     (List.range 64).flatMap (fun j => [Reg.GAL.SDLY_ON (p - 0x10) j, Reg.GAL.SDLY_ON_L (p - 0x10) j,
       Reg.GAL.SDLY_OFF (p - 0x10) j, Reg.GAL.SDLY_OFF_L (p - 0x10) j]) ++ [Reg.GAL0.MAP_ID_ID]
   else if 0x1C ≤ p ∧ p ≤ 0x1F then [Reg.HDR.PWM_FLT_LAT (p - 0x1C) 0, Reg.HDR.PWM_FLT_LAT (p - 0x1C) 1]
   else if p = 0x27 then [Reg.CANRX.FIFO_STAT_NEXT_SEQ]
   else if p = 0x29 then [Reg.RADSEC.FC_FC]
   else if p = 0x2A then [Reg.TAG.UID_MFR]
   else [])

/-- Pages on which `SRST` is ignored (Table PAGE-5). -/
def softIgnored (p : Nat) : Bool := p ≤ 0x06 || p = 0x25 || p = 0x2D || p = 0x2E

/-- Pages whose `CTRL.EN` can be written (R552 and the chapters): PWM0 to PWM3, ADC, CAN, CANRX, HOST. -/
def enSwitched (p : Nat) : Bool := (0x1C ≤ p && p ≤ 0x1F) || p = 0x24 || p = 0x26 || p = 0x27 || p = 0x2B

namespace Block

/-- The fields of the page at their reset values: RWL fields, and the figures of a boundary in use, only while the page
is not locked; `GEN` counts once if an RWL field changes (R120). -/
def softRegs (p : Nat) (b : Block) : Block :=
  let locked := b.locked p
  let fs := (pageFields p).filter fun f => !(softKept p).contains f && !(locked && (f.acc == .rwl || (p = 0x10 && f.off = 0x3AC)))
  let changed := fs.any fun f => f.acc == .rwl && b.rd f != f.reset
  b |>.each fs (fun f => wr f f.reset) |>.cond changed (·.bumpGen p) |>.showTests p

/-- The state machines of the page at their reset values (R120, Table PAGE-5) (assumption 18, DEDUCED). -/
def softInner (p : Nat) (b : Block) : Block :=
  match p with
  | 0x08 => { b with sram := { b.sram with credit := [], granted := [], last := [], peak := [], short := [], wanted := [] } }
  | 0x09 => b |>.mbxClear |>.mbxSweep
  | 0x0A => { b with sram := { b.sram with scrubbed := [], scrubTotal := [], inject := none } }
  | 0x0B => { b with log := { b.log with clrKey := none, queue := [], pending := [], lost := 0, circ := 0 } }
  | 0x0D => { b with cal := { b.cal with quiet := b.cal.job.isSome } }
  | 0x0F => { b with upd := {} }
  | 0x10 => { b with gal := { b.gal with bndNew := if b.locked 0x10 then b.gal.bndNew else {}, ckpt := none, dirty := [] } }
      |>.showPred |>.forcedDone |>.flashGiveUp 3
  | 0x11 | 0x12 | 0x13 => b.showPred
  | 0x14 => { b with gnss := { b.gnss with
      floor := [0, 0], absent := [false, false], shortAt := [none, none], goodPools := [0, 0], jamPools := [0, 0] } }
  | 0x15 => { b with gnss := { b.gnss with notchAt := List.replicate 8 0, notchLow := List.replicate 8 none } }
  | 0x16 => { b with gnss := { b.gnss with search := none } }
  | 0x17 => { b with gnss := { b.gnss with fft := none, fftHeld := none, coldJob := none, jobDone := none } }
  | 0x18 => { b with gnss := { b.gnss with chans := List.replicate 48 {}, coasted := false } }
  | 0x19 => { b with gnss := { b.gnss with blFixed := false, outTol := 0, discards := [] } }
  | 0x1A => { b with gnss := { b.gnss with request := none, coldDue := false, grabs := [], nextSlot := [0, 0] } }
  | 0x1B => { b with gnss := { b.gnss with posted := [], postedSeq := 0 } }
  | 0x1C => { b with drive := { b.drive with commOff := false, misses := 0, waited := 0, zcEdge := none, turned := [] } }
      |>.setPwm 0 (fun _ => {}) |>.dtRestart 0 |>.pwmForce
  | 0x1D => { b with drive := { b.drive with bbPulse := none } } |>.setPwm 1 (fun _ => { freq := 400 }) |>.dtRestart 1 |>.pwmForce
  | 0x1E => b |>.setPwm 2 (fun _ => {}) |>.pwmForce
  | 0x1F => b |>.setPwm 3 (fun _ => {}) |>.pwmForce
  | 0x20 => { b with loop := { b.loop with capture := none, inject := none, reports := 0 } }
  | 0x24 => { b with adc := {} }
  | 0x26 => { b with can := { b.can with done := [] } } |>.showBitrate |> fun b => b.releaseExcess 64
  | 0x27 => { b with can := { b.can with fifo := [] } } |>.showRx
  | 0x28 => b.setRadio fun r => { r with queue := [], tx := none, frames := [] }
  | 0x29 => b.setRadio fun r => { r with micRun := 0 }
  | 0x2A => b |>.setTag (fun t => { t with queue := [], job := none, state := .off, judged := false, lockSeen := false })
      |>.showDomains
  | 0x2B => { b with host := {} } |>.mbxSweep
  | 0x2F => { b with cap := {} }
  | _ => b

/-- FLASH: a QUEUED operation is withdrawn, a BUSY one runs to its end unseen (Table PAGE-5). -/
def softFlash (b : Block) : Block :=
  let busy := b.rd Reg.FLASH.RES_RES = 2
  { b with flash := { b.flash with op := none, quiet := if busy then b.flash.op else b.flash.quiet } }

/-- `SRST` of CAN acts as the disable and then returns the page to its reset values (R357): a disable that waits for the bus
to be idle holds back the reset, too, and an enable that follows. -/
def canReset (b : Block) : Block :=
  { b with can := { b.can with resetDue := false } } |>.softRegs 0x26 |>.softInner 0x26
    |>.cond b.can.again canJoin

/-- What an end of a frame on the bus brings, and a soft reset of CAN that waited for it. -/
def afterBus (f : Block → Block) (b : Block) : Block :=
  let c := f b
  c.cond (c.can.resetDue && !c.can.stopping) canReset

/-- `CTRL.SRST` of page `p` (R120, R553) (assumption 18, DEDUCED). -/
def softReset (p : Nat) (b : Block) : Block :=
  if softIgnored p || (0x10 ≤ p && p ≤ 0x13 && b.galRuns) then b
  else if p = 0x26 then
    let b := b.canDisable b.busUse
    if b.can.stopping then { b with can := { b.can with resetDue := true } } else b |>.canStop |>.canReset
  else
    b |>.cond (p = 0x0E) softFlash
      |>.cond (0x20 ≤ p && p ≤ 0x23) (fun b =>
        (b.each (List.range 8) fun j => disableSlot ((p - 0x20) * 8 + j)).each (List.range 8) fun j =>
          setSlot ((p - 0x20) * 8 + j) fun _ => {})
      |>.softRegs p |>.softInner p

/-- `CTRL.EN` (R552): what enabling or disabling the block does (assumption 19, DEDUCED). -/
def enableWrite (p : Nat) (en : Bool) (b : Block) : Block :=
  if !enSwitched p then b
  else if 0x1C ≤ p ∧ p ≤ 0x1F then
    let was := b.is (Reg.HDR.EN p)
    b |>.wrB (Reg.HDR.EN p) en |>.cond (en && !was) (counterRestart (p - 0x1C)) |>.pwmForce
  else if p = 0x24 then b.adcEnable en
  else if p = 0x26 then (if en then b.canEnable else b.canDisable b.busUse)
  else if p = 0x27 then
    -- R560: the first entry stored after `EN` returns to 1 carries GAP
    { b with can := { b.can with gap := b.can.gap || (en && !b.is (Reg.HDR.EN 0x27)) } } |>.wrB (Reg.HDR.EN 0x27) en
  else
    let b := b.wrB (Reg.HDR.EN 0x2B) (en && !b.hostShut)
    if !b.is (Reg.HDR.EN 0x2B) then b |>.wr Reg.HOST.HSTAT_ALIVE 0 |>.mbxSweep
    else if b.is Reg.HOST.HSTAT_ALIVE then b
    else { b with host := { b.host with lastGood := b.now } } |>.wr Reg.HOST.HSTAT_ALIVE 1 |>.mbxSweep

/-- A write of 1 to `FREEZE` is honoured (R121, R510, and what the chapters narrow it to). -/
def freezeOk (p : Nat) (b : Block) : Bool :=
  b.level = 2 && p != 0x25 &&
  (if 0x1C ≤ p ∧ p ≤ 0x1F then b.mode == .service
   else if 0x20 ≤ p ∧ p ≤ 0x23 then
     (List.range 8).all fun j => let s := (p - 0x20) * 8 + j
       b.slotCur s != 2 && b.rd (ofSlot Reg.LOOP.MODE_MODE s) != 2
   else true)

/-- `CTRL.FREEZE` written by MAIN or the debug port (R121). The tick's own freeze is R56 (assumption 19, DEDUCED). -/
def freezeWrite (p : Nat) (on : Bool) (b : Block) : Block :=
  if p = 0x03 then (if on then b.tickFreeze else b.tickUnfreeze)
  else if on && !b.freezeOk p then b
  else
    let was := b.is (Reg.HDR.FREEZE p)
    let b := b |>.wrB (Reg.HDR.FREEZE p) on |>.cond on (abortPage p)
    b |>.cond (0x1C ≤ p && p ≤ 0x1F && was && !on) (counterRestart (p - 0x1C)) |>.cond (0x1C ≤ p && p ≤ 0x1F) pwmForce 
      |>.cond (p = 0x26) canSettle

/-- `LOCK` (R13): set until the next boot. -/
def lockWrite (p : Nat) (b : Block) : Block := b.wr (Reg.HDR.LOCKED p) 1

/-- `IRQ_PEND` (R122); a standing condition sets its raw bit again at once. -/
def pendWrite (p w : Nat) (b : Block) : Block :=
  b |>.wr (Reg.HDR.IRQ_RAW p) (b.rd (Reg.HDR.IRQ_RAW p) &&& (w ^^^ 0xFFFFFFFF)) |>.cond (p = 0x27) showRx

/-- `CTRL` (R120, R121, R552): the soft reset acts first, the other fields then stand. -/
def ctrlWrite (a : Actor) (p w : Nat) (b : Block) : Block :=
  b |>.cond (w.testBit 1) (softReset p) |>.enableWrite p (w.testBit 0)
    |>.cond (a == .main || a == .debug || a == .loader) (freezeWrite p (w.testBit 2))
    |>.cond (w.testBit 8 && 0x1C ≤ p && p ≤ 0x1F) (loadCommand (p - 0x1C))

end Block

/-- CAN_TX_ATTEMPT_END (R341). -/
def execCanTxAttemptEnd (outcome : CanOutcome) (ago : BitVec 16) (exempt : Bool) (s : State) :
    Host.Outcome State Fault Refusal := s.run (Block.afterBus (Block.attemptEnd outcome ago.toNat exempt))

/-- CAN_FRAME_RECEIVE (R344): `id` has IDE at bit 29 and RTR at bit 30; `ago` is the time since the SOF in µs. -/
def execCanFrameReceive (id : BitVec 31) (dlc : BitVec 4) (data : List Byte) (ago : BitVec 16) (s : State) :
    Host.Outcome State Fault Refusal := s.run (Block.afterBus (Block.frameReceive id.toNat dlc.toNat data ago.toNat))

/-- CAN_BUS_ERROR (R350). -/
def execCanBusError (lec : Fin 7) (transmitting : Bool) (more : Fin 16) (s : State) :
    Host.Outcome State Fault Refusal := s.run (Block.afterBus (Block.busError lec transmitting more))

/-- LOCK_WRITE (R13): a write of 1 to the page's `LOCK`. -/
def execLockWrite (page : Fin 48) (s : State) : Host.Outcome State Fault Refusal :=
  s.run fun b => b.cond b.powered (Block.lockWrite page)

/-- SOFT_RESET (R120): a write of 1 to the page's `CTRL.SRST`. -/
def execSoftReset (page : Fin 48) (s : State) : Host.Outcome State Fault Refusal :=
  s.run fun b => b.cond b.powered (Block.softReset page)

/-- BLOCK_FREEZE (R121): a write to the page's `CTRL.FREEZE`. -/
def execBlockFreeze (page : Fin 48) (on : Bool) (s : State) : Host.Outcome State Fault Refusal :=
  s.run fun b => b.cond b.powered (Block.freezeWrite page on)

/-- IRQ_PEND_CLEAR (R122). -/
def execIrqPendClear (page : Fin 48) (mask : Word) (s : State) : Host.Outcome State Fault Refusal :=
  s.run fun b => b.cond b.powered (Block.pendWrite page mask.toNat)

end Sys2Proof.Machine
end

