-- ==== Sys2Proof/Machine/Bus.lean ====
section
/-! DEFINITION. Reads and writes of the register pages: who reaches them (R18, R19, R116), what a read returns and
clears (R5, R12), and what a write stores and starts (R5, R14, R125). -/

namespace Sys2Proof.Machine

/-- Outputs of a PWM module (Table PWM-1). -/
def pwmOutputs (m : Nat) : Nat := if m = 0 then 6 else if m = 1 then 4 else 1

/-- The field exists on its page: registers of legs that a PWM module lacks are reserved, and so are the transform's
fields of an odd slot (R310, R311) (assumption 94, DEDUCED). -/
def present (f : Fld) : Bool :=
  if 0x40 ≤ f.page then
    f.page % 2 = 0 || !((f.off = 0x044 && f.lsb = 19) || f.off = 0x0B4 || f.off = 0x0B8)
  else if 0x1C ≤ f.page ∧ f.page ≤ 0x1F then
    let m := f.page - 0x1C
    if 0x050 ≤ f.off ∧ f.off < 0x05C then (f.off - 0x050) / 4 < pwmDuties m
    else if f.off = 0x06C then f.lsb / 2 < pwmOutputs m
    else if f.off = 0x070 then f.lsb < pwmOutputs m
    else if 0x07C ≤ f.off ∧ f.off < 0x088 then (f.off - 0x07C) / 4 < pwmLegs m
    else f.off < 0x090 || m = 0
  else if 0x20 ≤ f.page ∧ f.page ≤ 0x23 ∧ 0x180 ≤ f.off ∧ f.off < 0x200 ∧ f.off % 16 = 12 then
    (f.off - 0x180) / 16 % 2 = 0
  else true

/-- `ID` (R118): type code, instance, revision. -/
def idWord (p : Nat) : Nat :=
  let base := if 0x10 ≤ p ∧ p ≤ 0x13 then 0x10 else if 0x1C ≤ p ∧ p ≤ 0x1F then 0x1C
    else if 0x20 ≤ p ∧ p ≤ 0x23 then 0x20 else p
  base * 65536 + (p - base) * 256 + 1

/-- Window registers of the LOOP pages (Table LOOP-6). -/
def isWindow (p off : Nat) : Bool := 0x20 ≤ p && p ≤ 0x23 && 0x044 ≤ off && off ≤ 0x0B8

namespace Block

/-- The slot that the window of a LOOP page reaches. -/
def windowSlot (b : Block) (p : Nat) : Nat := (p - 0x20) * 8 + b.rd (Reg.LOOP.WSEL_SLOT (p - 0x20))

/-- The fields that the register at `off` of page `p` holds. -/
def fieldsAt (b : Block) (p off : Nat) : List Fld :=
  (if isWindow p off then Reg.windowFieldsAt (b.windowSlot p) off else Reg.fieldsAt p off).filter present

/-! Reads. -/

/-- The word that fields hold; WO and WSC fields read 0 (R5). -/
def fieldWord (b : Block) (fs : List Fld) : Nat :=
  (fs.filter fun f => f.acc != .wo && f.acc != .wsc).foldl (fun w f => w + b.rd f * 2 ^ f.lsb) 0

/-- An entry of the escalation table as STEST shows it (Table STEST-1). -/
def escWord (b : Block) : Nat :=
  match b.test.esc[b.rd Reg.STEST.ESC_SEL_ENTRY]? with
  | some e =>
    let age := match e.times with
      | [] => 0
      | t :: ts => (b.ftDrips - ts.foldl min t) / 600000
    e.cls.page + e.cls.bit * 256 + min 7 e.times.length * 65536 + min 0xFFF age * 2 ^ 20
  | none => 0

/-- `PWMx.CNT` (R263): a tick-locked counter, two PWM cycles to a SYS cycle, stands where the drip has brought it; of any other the spec says no more than
its range. -/
def countWord (m : Nat) (b : Block) : Block × Nat :=
  let per := b.rd (Reg.PWM.PER_PER m)
  let shape (c : Nat) : Nat := if c ≤ per / 2 then c else (per - c) + 65536
  if !b.pwmCounts m then (b, 0)
  else if b.is (Reg.PWM.CFG_TLOCK m) then (b, shape (b.rd Reg.TICK.CYC_CYC * 2 % max 1 per))
  else (b.draw 1, shape ((Config.freeWord b.free).toNat % max 1 per))

/-- What the register at `off` of page `p` reads; registers whose value is found when they are read come first
(assumption 22, DESIGN CHOICE). -/
def regWord (p off : Nat) (b : Block) : Block × Nat :=
  let stored := b.fieldWord (b.fieldsAt p off)
  if off = 0x000 then (b, idWord p)
  else if off = 0x014 then (b, b.rd (Reg.HDR.IRQ_RAW p) &&& b.rd (Reg.HDR.IRQ_EN p))
  else if 0x1C ≤ p ∧ p ≤ 0x1F ∧ off = 0x04C then b.countWord (p - 0x1C)
  else match p, off with
  | 0x08, 0x1A4 | 0x08, 0x1A8 =>
    let k := pairOf (b.rd Reg.BWL.MON_SEL_MASTER) (b.rd Reg.BWL.MON_SEL_BANK)
    let get (s : Store Nat) : Nat := Store.find (fun _ => 0) s k
    (b, if off = 0x1A4 then min 0x3FFF (get b.sram.last) + min 0x3FFF (get b.sram.peak) * 65536
        else min 0xFFFF (get b.sram.short))
  | 0x0C, 0x04C => (b, b.reportWord 0)
  | 0x0C, 0x050 => (b, b.reportWord 1)
  | 0x0C, 0x054 => (b, b.reportWord 2)
  | 0x0C, 0x058 => (b, b.reportWord 3)
  | 0x0F, 0x06C => (b, b.wantedWord (b.rd Reg.UPD.MAP_SEL_WORD))
  | 0x26, 0x090 => (b, b.canTs)
  | 0x29, 0x050 | 0x29, 0x054 | 0x29, 0x058 =>
    match b.radio.replay[b.rd Reg.RADSEC.TBL_SEL_ENTRY]? with
    | some (src, fc) => (b, if off = 0x050 then src % 2 ^ 32 else if off = 0x054 then src / 2 ^ 32 else fc)
    | none => (b, 0)
  | 0x2D, 0x040 => (b.wr Reg.TIME.FT_HI_FT (b.ft / 2 ^ 32), b.ft % 2 ^ 32)
  | 0x2E, 0x074 => (b, b.escWord)
  | _, _ => (b, stored)

/-- What a read clears (R5): the RC fields, and on BWL the figures of the pair shown. -/
def clearRead (p off : Nat) (b : Block) : Block :=
  let b := b.each ((b.fieldsAt p off).filter fun f => f.acc == .rc) fun f => wr f f.reset
  let k := pairOf (b.rd Reg.BWL.MON_SEL_MASTER) (b.rd Reg.BWL.MON_SEL_BANK)
  if p = 0x08 ∧ off = 0x1A4 then { b with sram := { b.sram with peak := Store.put (fun _ => 0) k 0 b.sram.peak } }
  else if p = 0x08 ∧ off = 0x1A8 then { b with sram := { b.sram with short := Store.put (fun _ => 0) k 0 b.sram.short } }
  -- R132
  else if p = 0x0C ∧ off = 0x040 then b.each (List.range 48) fun q => wr (Reg.HDR.CLAMP_COUNT q) 0
  else b

/-- A read of the register at `off` of page `p`, within the reader's reach. Some reads are commands of their own. -/
def readReg (a : Actor) (p off : Nat) (b : Block) : Block :=
  if p = 0x09 ∧ off < 0x140 ∧ 0x040 ≤ off ∧ off % 16 = 12 then b.rxHdrTake a ((off - 0x040) / 16)
  else match p, off with
  | 0x04, 0x07C => b.trngRead
  | 0x26, 0x06C => b.txDoneRead a
  | 0x27, 0x040 => b.w0Read a
  | 0x27, 0x04C => b.w3Read a
  | _, _ =>
    let (b, w) := b.regWord p off
    b |>.cond (!(b.quietReader a)) (clearRead p off) |>.answer w

/-- A word outside the register pages, as the debug port and MAIN read it: SRAM, the tag through its window (R465), and OTP
without the records of KS01 and KS05 (R557). The content of the boot ROM is not in the spec. -/
def wordRead (a : Nat) (b : Block) : Block :=
  if isSram a then
    match b.fetch 5 a 4 with
    | (b, some bs) => b.answer (leValue bs)
    | (b, none) => b.answerErr
  else if isTag a then b.answer (leValue (b.tagPage ((a - tagBase) / 4)))
  else if isOtp a then b.answer (if 0x38000100 ≤ a ∧ a < 0x38000180 then 0 else b.val a 4)
  else (b.draw 1).answer (Config.freeWord b.free).toNat

/-- MAIN's read outside the register pages, or its loader's: flash decrypted in line (R117), and a fault where nothing is mapped (R116). -/
def memRead (who : Actor) (addr : Nat) (b : Block) : Block :=
  let a := addr / 4 * 4
  if !isMapped addr then b |>.accessEvent who addr |>.answerErr
  else if isFlash a then b.answer (b.flashWord a)
  else b.wordRead a

/-- A read by `a` of a register page (R18, R19), and by MAIN of any other word (assumption 15, DEDUCED). -/
def regRead (a : Actor) (addr : Nat) (b : Block) : Block :=
  let p := (addr - 0x40000000) / 0x400
  if !isPage addr then b.cond (a == .main || a == .loader) (memRead a addr)
  else if a == .loop || a == .host then b
  else if !pageAllowed a p false then b |>.accessEvent a p |>.answer 0
  else b.readReg a p (addr % 0x400 / 4 * 4)

/-! Writes. -/

/-- An RW field takes its bits; a W1C field loses the bits written 1 (R5). -/
def storePlain (f : Fld) (w : Nat) (b : Block) : Block :=
  let v := w / 2 ^ f.lsb % 2 ^ f.width
  match f.acc with
  | .rw => b.wr f v
  | .w1c => b.wr f (b.rd f &&& (v ^^^ (2 ^ f.width - 1)))
  | _ => b

/-- Fields that the GNSS core owns (R224): stored for it, and for MAIN and the debug port in SERVICE at FULL. -/
def storeCore (a : Actor) (f : Fld) (w : Nat) (b : Block) : Block :=
  b.cond ((f.acc == .core || f.acc == .coro) && b.coreMay a) (·.wr f (w / 2 ^ f.lsb))

/-- Every field of a write by its own access code (R14). -/
def storeFields (a : Actor) (p off w : Nat) (b : Block) : Block :=
  let fs := b.fieldsAt p off
  b |>.each fs (fun f b => b |>.storePlain f w |>.storeCore a f w) |>.storeRwls p fs w

/-- A write through the window of a LOOP page (R316): ignored for a slot in AUTO or with AUTO requested. -/
def windowWrite (s off w : Nat) (b : Block) : Block :=
  let p := slotPage s
  let fs := (Reg.windowFieldsAt s off).filter present
  if fs.isEmpty then b
  else if b.slotCur s = 2 || b.rd (ofSlot Reg.LOOP.MODE_MODE s) = 2 then b.err p 0
  else b.storeRwls p fs w

/-- A held notice follows its mailbox's new receiver (R172). -/
def cfgWrite (n w : Nat) (b : Block) : Block := b |>.storeFields .main 0x09 (0x140 + 8 * n) w |>.mbxSweep

/-- `MSTAT` (R171): cleared by the mailbox's sender, its receiver and MAIN. -/
def mstatWrite (a : Actor) (n w : Nat) (b : Block) : Block :=
  if a.code = 0 ∨ a.code = b.mbxSender n ∨ a.code = b.mbxReceiver n then b.storeFields .main 0x09 (0x144 + 8 * n) w
  else if w % 32 &&& 0x16 = 0 then b else b.err 0x09 0

/-- `TX_PTR` (R170): the configured sender's. -/
def txPtrWrite (a : Actor) (n w : Nat) (b : Block) : Block :=
  if a.code = b.mbxSender n then b.wr (Reg.MBX.TX_PTR_PTR n) (w / 4 * 4) else b.err 0x09 0

def mbxWrite (a : Actor) (off w : Nat) (b : Block) : Block :=
  if 0x040 ≤ off ∧ off < 0x140 then
    let n := (off - 0x040) / 16
    if off % 16 = 0 then b.txPtrWrite a n w
    else if off % 16 = 4 then b.mbxPost n a.code (b.rd (Reg.MBX.TX_PTR_PTR n)) (bitsOf 15 0 w) (bitsOf 23 16 w)
    else b
  else if 0x140 ≤ off ∧ off < 0x1C0 then
    let n := (off - 0x140) / 8
    if off % 8 = 0 then b.cfgWrite n w else b.mstatWrite a n w
  else b

/-- `DUTY` of an output that a slot owns is refused (R269). -/
def dutyWrite (m l w : Nat) (b : Block) : Block :=
  if pwmDuties m ≤ l then b
  else if b.legOwned 32 m l then b.err (pwmPage m) 3
  else b.wr (Reg.PWM.DUTY_DUTY m l) (w % 2 ^ 21)

/-- PWM pages: `TLOCK` of PWM0 and PWM1 reads 1 and ignores writes (R264). -/
def pwmWrite (a : Actor) (m off w : Nat) (b : Block) : Block :=
  let p := pwmPage m
  if 0x050 ≤ off ∧ off < 0x05C then b.dutyWrite m ((off - 0x050) / 4) w
  else if off = 0x08C then
    b |>.cond (w.testBit 0) (faultClear m 0) |>.cond (w.testBit 1) (faultClear m 1)
  else if off = 0x090 then (if m = 0 then b.commWrite w else b)
  else if off = 0x040 ∧ m < 2 then b.storeFields a p off (w ||| 1)
  else b |>.storeFields a p off w |>.cond (off = 0x074 || off = 0x078) (dtHold m)

/-- LOOP pages (Tables LOOP-6 to LOOP-9). -/
def loopPageWrite (a : Actor) (p off w : Nat) (b : Block) : Block :=
  let local_ (j : Nat) : Nat := (p - 0x20) * 8 + j
  if isWindow p off then b.windowWrite (b.windowSlot p) off w
  else if 0x100 ≤ off ∧ off < 0x180 ∧ off % 16 = 0 then b.modeRequest (local_ ((off - 0x100) / 16)) (w % 4)
  else if 0x180 ≤ off ∧ off < 0x200 ∧ off % 16 = 12 then
    let s := local_ ((off - 0x180) / 16)
    -- R311
    b.cond (s % 2 = 0 && b.slotCur s != 2 && b.slotCur (s + 1) != 2) (·.storeFields a p off w)
  else if p = 0x20 ∧ off = 0x208 then
    b |>.cond (w.testBit 0) injectStart |>.cond (w.testBit 1) (endInjection 2)
  else if p = 0x20 ∧ off = 0x218 then
    b |>.cond (w.testBit 0) captureStart |>.cond (w.testBit 1) (endCapture 4)
  else b.storeFields a p off w

/-- Captures under way are cut where they stand (R254); the register write does not show the model their samples. -/
def snapCut (b : Block) : Block :=
  let gs := b.gnss.grabs
  { b with gnss := { b.gnss with grabs := [] } } |>.each gs fun g b => b.grabEnd g none (b.grabTime g) true

/-- Pages 0x14 to 0x1B. -/
def gnssWrite (a : Actor) (p off w : Nat) (b : Block) : Block :=
  match p, off with
  | 0x16, 0x084 => b |>.cond (w.testBit 0) (acqStart a) |>.cond (w.testBit 1) (acqAbort a)
  | 0x17, 0x050 => b |>.cond (w.testBit 0) (fftStart a) |>.cond (w.testBit 1) (fftAbort a)
  | 0x1A, 0x044 => b |>.cond (w.testBit 0) (snapStart (bitsOf 5 4 w) (bitsOf 9 8 w)) |>.cond (w.testBit 1) snapCut
  | 0x1B, 0x04C => b.cond (w.testBit 0) (postRecord a)
  | _, _ =>
    if p = 0x18 ∧ 0x040 ≤ off ∧ off < 0x340 ∧ off % 16 = 0 then
      b.cond (b.coreMay a) (chanConf ((off - 0x040) / 16) (bitsOf 4 0 w) (bitsOf 8 5 w) (w.testBit 9) (bitsOf 31 16 w))
    else
      let k := (off - 0x040) / 8
      let was := b.rd (Reg.GNOTCH.CFG_MODE k)
      let b := b.storeFields a p off w
      b |>.cond (p = 0x15 && !b.locked 0x15 && 0x040 ≤ off && off < 0x080 && off % 8 = 0
          && (b.rd (Reg.GNOTCH.CFG_MODE k) != was || was = 2)) (notchApply k)
        |>.cond (p = 0x14 && !b.locked 0x14 && (off = 0x040 || off = 0x050)) (biasSwitch ((off - 0x040) / 16))

/-- CAN and CANRX. -/
def canWrite (a : Actor) (p off w : Nat) (b : Block) : Block :=
  match p, off with
  | 0x26, 0x044 => b |>.storeFields a p off w |>.showBitrate |> fun b => b.releaseExcess 64
  | 0x26, 0x05C => b.cond (w.testBit 0) txPush
  | 0x26, 0x040 => b |>.storeFields a p off w |>.canSettle
  | 0x26, 0x064 => b.txAbort (bitsOf 7 0 w) (w.testBit 8) (b.busUse == .own)
  | 0x26, 0x078 => b.cond (w.testBit 0) txDmaGo
  | 0x26, 0x088 => b.cond (w.testBit 0) recover
  | 0x27, 0x05C =>
    let was := b.is Reg.CANRX.RING_CFG_EN
    let b := b.storeFields a p off w
    -- R348: the base and the length are taken when the ring is enabled; HEAD and TAIL read modulo the length, and the window
    -- reads as empty, so that no entry stays locked (assumption 169, DESIGN CHOICE)
    let base := b.rd Reg.CANRX.RING_ADDR_ADDR
    let log := b.rd Reg.CANRX.RING_CFG_LOG2LEN
    b |>.cond (!was && b.is Reg.CANRX.RING_CFG_EN) (fun b =>
        { b with can := { b.can with ringBase := min base (0x20200000 - 32 * 2 ^ log), ringLog := log } }
          |>.wr Reg.CANRX.FIFO_STAT_LOCKED 0 |>.wr Reg.CANRX.RING_HEAD_IDX (b.rd Reg.CANRX.RING_HEAD_IDX % 2 ^ log)
          |>.wr Reg.CANRX.RING_TAIL_IDX (b.rd Reg.CANRX.RING_TAIL_IDX % 2 ^ log))
      |>.showRx
  | 0x27, 0x064 =>
    let b := b.storeFields a p off w
    b |>.wr Reg.CANRX.RING_TAIL_IDX (b.rd Reg.CANRX.RING_TAIL_IDX % b.ringLen) |>.showRx
  | _, _ =>
    let b := b.storeFields a p off w
    -- the output maps of SERVICE begin at 0 and are MAIN's to write (R59, R380)
    if p = 0x26 ∧ 0x100 ≤ off ∧ off < 0x200 then
      { b with gal := { b.gal with svcMaps := (0x10 + (off - 0x100) / 4) :: b.gal.svcMaps } }
    else b

/-- The pages of the trust, memory, mode and repair subsystems (assumption 17, DEDUCED). -/
def systemWrite (a : Actor) (p off w : Nat) (b : Block) : Block :=
  match p, off with
  | 0x00, 0x044 => b.request (w % 16)
  | 0x00, 0x04C => b.storeFields a p off (if b.is Reg.SYS.STANDING_READY then w ||| 4 else w)
  | 0x01, 0x044 =>
    -- Table CLK-1
    b.cond (b.mode == .service) fun b => b |>.wr Reg.CLK.SVC_GATE_FORCE_OFF (w % 512 &&& 0x17E) |>.showDomains |>.abortOff
      |>.gateCaptures |>.mbxSweep
  | 0x04, 0x044 => b.lcKeyWrite w
  | 0x04, 0x048 => b.lcAdvance (w % 4)
  | 0x04, 0x074 =>
    b |>.cond (w.testBit 0) (fun b => b.jobStart (b.rd Reg.SEC.JOB_OP_OP)) |>.cond (w.testBit 1) (jobAbort false)
  | 0x05, 0x044 => b.keyOpStart (w % 16) (bitsOf 12 8 w)
  | 0x06, 0x044 => b.dbgReq (w % 4)
  | 0x07, 0x244 => b.cond (w.testBit 0) fenceCommit
  | 0x0A, 0x05C => b.eccInject w
  | 0x0B, 0x060 => b.cond (w.testBit 0) wrGo
  | 0x0B, 0x068 => b |>.cond (w.testBit 0) flushCmd |>.cond (w.testBit 1) foundClr
  | 0x0B, 0x06C => b.clrKeyWrite w
  | 0x0C, 0x064 => b.cond (w.testBit 0) repClr
  | 0x0D, 0x044 => b.cond (w.testBit 0) calStart
  | 0x0E, 0x048 =>
    let b := b.storeFields a p off w
    b |>.cond (w.testBit 8) (flashStart (w % 4)) |>.cond (w.testBit 9) flashAbort
  | 0x0F, 0x048 =>
    b |>.cond (w.testBit 0) updOpen |>.cond (w.testBit 1) updCloseCmd |>.cond (w.testBit 2) (flashTurn 1 (updAccept false 0))
      |>.cond (w.testBit 3) updActivate |>.cond (w.testBit 4) updDisarm
  | 0x25, 0x040 => b.storeFields a p off (w ||| 0x10000)
  | 0x25, 0x04C | 0x25, 0x05C =>
    let pair := (off - 0x04C) / 16
    b |>.cond (w.testBit 0) (safetyRestart pair) |>.cond (w.testBit 1) (safetyClr pair)
  | 0x25, 0x060 =>
    let was := b.rd (Reg.HDR.GEN 0x25)
    let b := b.storeFields a p off w
    -- R500: an accepted write restarts the pulse counter
    if b.rd (Reg.HDR.GEN 0x25) = was then b else { b with safe := { b.safe with pulse := 0 } }
  | 0x28, 0x080 => b.cond (w.testBit 0) bcnPost
  | 0x28, 0x088 => b.cond (w.testBit 0) rxPop
  | 0x28, 0x090 =>
    -- where the core's program places a report is not in the spec (assumption 3, DESIGN CHOICE)
    b.cond (w.testBit 0) fun b => (b.draw 1).txGo (Config.freeWord b.free).toNat
  | 0x2A, 0x050 => b |>.cond (w.testBit 0) tagCommit |>.cond (w.testBit 1) tagAbort
  | 0x2A, 0x060 => b.cond (w.testBit 0) authRst
  | 0x2C, 0x048 => b.cond (w.testBit 0) ledAck
  | 0x2D, 0x060 => b.wr (Reg.TIME.SEED_FT 0) w
  | 0x2D, 0x064 => b.seed w
  | 0x2E, 0x064 => b.cond (w.testBit 8) (retest (w % 64))
  | 0x2E, 0x06C => b.cond (w.testBit 0) abortAll
  | _, _ =>
    if p = 0x05 ∧ 0x050 ≤ off ∧ off < 0x070 then b.wr (Reg.KEY.DATA_DATA ((off - 0x050) / 4)) w
    else if p = 0x08 ∧ 0x040 ≤ off ∧ off < 0x180 then
      b.bwlWrite ((off - 0x040) / 4 / 8) ((off - 0x040) / 4 % 8) (w % 2 ^ 14)
    else b.storeFields a p off w

/-- Gallery pages (R42, R193, R210, R213): `TICK.GAL_PRED` follows every write. -/
def galWrite (a : Actor) (p off w : Nat) (b : Block) : Block :=
  if p = 0x10 ∧ off = 0x3A8 then b.boundaryLoad (w % 16)
  else if p = 0x10 ∧ off = 0x3B0 then
    b |>.cond (w.testBit 0) clearCmd |>.cond (w.testBit 1) (ckptStart false)
  else b |>.storeFields a p off w |>.cond (p = 0x10 && (off = 0x370 || off = 0x36C)) showEmax |>.showPred

/-- The bits of `IRQ_RAW` that each page has, as the chapters list them; the others of `IRQ_EN` are reserved (R119). -/
def irqBits (p : Nat) : Nat :=
  match p with
  | 0x03 | 0x0F => 0x1F
  | 0x04 | 0x06 | 0x08 | 0x0D | 0x0E | 0x17 | 0x18 | 0x1A => 1
  | 0x07 | 0x0A | 0x0C | 0x19 | 0x1B | 0x24 => 3
  | 0x0B | 0x14 | 0x27 | 0x28 | 0x2E => 7
  | 0x25 | 0x2D | 0x2F => 0xF
  | 0x10 | 0x26 | 0x2A => 0x3F
  | 0x15 | 0x1C | 0x1D | 0x1E | 0x1F => 0xFF
  | 0x21 | 0x22 | 0x23 => 0xFFFF
  | 0x20 => 0x3FFFF
  | 0x09 => 0xFFFFFFFF
  | _ => 0

/-- A write to the register at `off` of page `p`, within the writer's reach. The header comes first. -/
def writeReg (a : Actor) (p off w : Nat) (b : Block) : Block :=
  if off = 0x004 then b.ctrlWrite a p w
  else if off = 0x010 then b.wr (Reg.HDR.IRQ_EN p) (w &&& irqBits p)
  else if off = 0x014 then b.pendWrite p w
  else if off = 0x020 then b |>.cond (w.testBit 0) (testStart p) |>.cond (w.testBit 1) (abortPage p)
  else if off = 0x028 then b.cond (w.testBit 0) (lockWrite p)
  else if off < 0x040 then b |>.storeFields a p off w |>.cond (0x1C ≤ p && p ≤ 0x1F) pwmForce
  else if p = 0x09 then b.mbxWrite a off w
  else if 0x10 ≤ p ∧ p ≤ 0x13 then b.galWrite a p off w
  else if 0x14 ≤ p ∧ p ≤ 0x1B then b.gnssWrite a p off w
  else if 0x1C ≤ p ∧ p ≤ 0x1F then b.pwmWrite a (p - 0x1C) off w
  else if 0x20 ≤ p ∧ p ≤ 0x23 then b.loopPageWrite a p off w
  else if p = 0x26 ∨ p = 0x27 then b.canWrite a p off w
  else b.systemWrite a p off w

/-- A word written outside the register pages: SRAM and, through its window, the tag; no other memory takes one (Table PAGE-2,
R114). -/
def wordWrite (a w : Nat) (b : Block) : Block :=
  if isSram a then (b.store 5 a (leBytes 4 w)).1
  else if isTag a then b.tagWindowWrite ((a - tagBase) / 4) (leBytes 4 w)
  else b

/-- MAIN's write outside the register pages, or its loader's, and its fault where nothing is mapped (R116). -/
def memWrite (who : Actor) (addr w : Nat) (b : Block) : Block :=
  if isMapped addr then b.wordWrite (addr / 4 * 4) w else b |>.accessEvent who addr |>.answerErr

/-- A write by `a` to a register page (R18, R19), and by MAIN to any other word (assumption 15, DEDUCED). -/
def regWrite (a : Actor) (addr w : Nat) (b : Block) : Block :=
  let p := (addr - 0x40000000) / 0x400
  if !isPage addr then b.cond (a == .main || a == .loader) (memWrite a addr w)
  else if a == .loop || a == .host then b
  else if !pageAllowed a p true then b.accessEvent a p
  else b.writeReg a p (addr % 0x400 / 4 * 4) w

/-! The debug port (R100, Table DBG-1). -/

/-- What an address outside the register pages reads through the debug port: flash as stored (R115, R117). -/
def debugMem (a : Nat) (b : Block) : Block :=
  if !isMapped a then b |>.accessEvent .debug a |>.answer 0
  else if isFlash a then b.answer (b.val a 4)
  else b.wordRead a

/-- DREAD reaches registers, the recorder's 32 KiB of SRAM and tag memory (Table DBG-1) (assumption 54, DEDUCED). -/
def dreadReach (b : Block) (a : Nat) : Bool := isPage a || isTag a || inRange b.log.base 0x8000 a

/-- A read by DREAD, at READ or above; an address outside its reach reads 0 (R116 where nothing is mapped). -/
def dread (a : Nat) (b : Block) : Block :=
  let b := b.setIr 8
  if b.level = 0 then b.answer 0
  else if ¬ isMapped a then b |>.accessEvent .debug a |>.answer 0
  else if ¬ b.dreadReach a then b.answer 0
  else if isPage a then b.regRead .debug a
  else b.debugMem (a / 4 * 4)

/-- A write by DREAD: `TEST` registers and `STEST.RETEST` only. -/
def dreadWrite (a w : Nat) (b : Block) : Block :=
  let b := b.setIr 8
  let off := a % 0x400 / 4 * 4
  if b.level = 0 then b
  else if ¬ isMapped a then b.accessEvent .debug a
  else if ¬ isPage a then b
  else if off = 0x020 ∨ a / 4 * 4 = 0x4000B864 then b.regWrite .debug a w
  else b

def dacc (a : Nat) (b : Block) : Block :=
  let b := b.setIr 9
  if b.level ≠ 2 then b.answer 0
  else if isPage a then b.regRead .debug a
  else b.debugMem (a / 4 * 4)

/-- A write by DACC (assumption 54, DEDUCED). -/
def daccWrite (a w : Nat) (b : Block) : Block :=
  let b := b.setIr 9
  if b.level ≠ 2 then b
  else if isPage a then b.regWrite .debug a w
  else if isMapped a then b.wordWrite (a / 4 * 4) w
  else b.accessEvent .debug a

end Block

/-- DREAD (R100): a read of `a`, or with `w` a write to it. -/
def execDread (a : Word) (w : Option Word) (s : State) : Host.Outcome State Fault Refusal :=
  s.run fun b => b.cond b.portPowered fun b =>
    match w with
    | none => b.dread a.toNat
    | some w => b.dreadWrite a.toNat w.toNat

/-- DACC (R100). -/
def execDacc (a : Word) (w : Option Word) (s : State) : Host.Outcome State Fault Refusal :=
  s.run fun b => b.cond b.portPowered fun b =>
    match w with
    | none => b.dacc a.toNat
    | some w => b.daccWrite a.toNat w.toNat

/-- REGISTER_WRITE (R125): a 32-bit write of `w` at `addr` by MAIN, the GNSS core, the RADIO core or the debug port at
FULL; any other level of the port, LOOP and HOST write no page. -/
def execRegisterWrite (actor : Actor) (addr w : Word) (s : State) : Host.Outcome State Fault Refusal :=
  s.run fun b => b.cond (b.powered && (actor != .debug || b.level = 2)) (Block.regWrite actor addr.toNat w.toNat)

/-- READ_CLEAR (R5): a 32-bit read at `addr`. -/
def execReadClear (actor : Actor) (addr : Word) (s : State) : Host.Outcome State Fault Refusal :=
  s.run fun b => b.cond (b.powered && (actor != .debug || b.level != 0)) (Block.regRead actor addr.toNat)

/-- BLK_SUMMARY_READ (R132). -/
def execBlkSummaryRead (actor : Actor) (s : State) : Host.Outcome State Fault Refusal :=
  s.run fun b => b.cond (b.powered && (actor != .debug || b.level != 0)) (Block.regRead actor 0x40003040)

/-- TICK_HOLD_WRITE (R54): the degrade in progress is judged against the new value at its next pool edge. -/
def execTickHoldWrite (actor : Actor) (v : Word) (s : State) : Host.Outcome State Fault Refusal :=
  s.run fun b => b.cond (b.powered && (actor != .debug || b.level = 2)) (Block.regWrite actor 0x40000C64 v.toNat)

/-- SUBWORD_REGISTER_ACCESS (R7): a byte or half-word access to a register page; a read returns 0. -/
def execSubwordRegisterAccess (actor : Actor) (addr : Word) (s : State) : Host.Outcome State Fault Refusal :=
  s.run fun b =>
    if !isPage addr.toNat then b
    else b |>.cond (b.powered && !pageAllowed actor ((addr.toNat - 0x40000000) / 0x400) false
        && actor != .loop && actor != .host) (Block.accessEvent actor ((addr.toNat - 0x40000000) / 0x400))
      |>.answer 0

/-- UNMAPPED_ACCESS (R116): MAIN takes an access-fault exception, signalled by `resp.err`. -/
def execUnmappedAccess (actor : Actor) (addr : Word) (s : State) : Host.Outcome State Fault Refusal :=
  s.run fun b =>
    if isMapped addr.toNat || !b.powered then b
    else
      let b := b.accessEvent actor addr.toNat
      if actor == .main || actor == .loader then b.answerErr else b.answer 0

/-- PAGE_ACCESS_DENIED (R19): an access by the GNSS core or the RADIO core to a page outside its set. -/
def execPageAccessDenied (radio : Bool) (page : Fin 48) (write : Bool) (s : State) : Host.Outcome State Fault Refusal :=
  s.run fun b =>
    let a : Actor := if radio then .radio else .gnss
    b.cond (b.powered && !pageAllowed a page write) fun b => b |>.accessEvent a page |>.answer 0

/-- MBX_READDRESS (R172): MAIN writes `RECEIVER` of mailbox `n`, its other fields as they stand. -/
def execMbxReaddress (n : Fin 16) (receiver : Fin 8) (s : State) : Host.Outcome State Fault Refusal :=
  s.run fun b => b.cond b.powered fun b =>
    b.cfgWrite n (b.rd (Reg.MBX.CFG_SENDER n) + receiver * 16 + b.rd (Reg.MBX.CFG_TMO n) * 256)

/-- WINDOW_WRITE (R316): a write by MAIN through the window to slot `slot`, at window offset `off`. -/
def execWindowWrite (slot : Fin 32) (off : BitVec 12) (w : Word) (s : State) : Host.Outcome State Fault Refusal :=
  s.run fun b => b.cond b.powered (Block.windowWrite slot (off.toNat / 4 * 4) w.toNat)

end Sys2Proof.Machine
end

