-- ==== Sys2Proof/Machine/Card.lean ====
section
/-! DEFINITION. The status card as the resident loader composes it in loader-only state (R455, R456, Table TAG-3). The line
formats are the spec's; what they leave open is assumption 172. -/

namespace Sys2Proof.Machine

/-- ASCII bytes. -/
def ascii (s : String) : List Byte := s.toList.map fun c => BitVec.ofNat 8 c.toNat

/-- A number in decimal. -/
def decimal (v : Nat) : List Byte := ascii (Nat.repr v)

/-- The low `n` digits of a number in decimal. -/
def digits (n v : Nat) : List Byte := (List.range n).map fun i => BitVec.ofNat 8 (48 + v / 10 ^ (n - 1 - i) % 10)

def hexDigits (n v : Nat) : List Byte :=
  (List.range n).map fun i => let d := v / 16 ^ (n - 1 - i) % 16; BitVec.ofNat 8 (if d < 10 then 48 + d else 55 + d)

/-- Items that are not empty, one space between them. -/
def spaced (l : List (List Byte)) : List Byte :=
  match l.filter (· != []) with
  | [] => []
  | x :: rest => x ++ rest.flatMap fun y => (0x20 : Byte) :: y

/-- A verdict as text: its area of Table LOG-4 and its two digits; nothing for none. -/
def verdictText (v : Nat) : List Byte :=
  if v = 0 then []
  else ascii (["--", "PD", "SE", "GN", "BU", "RA", "UP", "TG", "SF", "PW", "ME", "LP", "CA"].getD (v / 4096) "--") ++ hexDigits 2 v

/-- A mode as the card names it (Table MODE-1). -/
def modeName : Mode → String
  | .shelf => "SHELF" | .dark => "DARK" | .wake => "WAKE" | .pump => "PUMP" | .field => "FIELD" | .snapshot => "SNAPSHOT"
  | .service => "SERVICE" | .safe => "SAFE"

/-- Year, month and day of the day `n` after 1980-01-06. -/
def civilDay (n : Nat) : Nat × Nat × Nat :=
  let z := n + 723125
  let c := z / 146097
  let doe := z % 146097
  let yoe := (doe - doe / 1460 + doe / 36524 - doe / 146096) / 365
  let doy := doe - (365 * yoe + yoe / 4 - yoe / 100)
  let mp := (5 * doy + 2) / 153
  let m := if mp < 10 then mp + 3 else mp - 9
  (yoe + c * 400 + bit (m ≤ 2), m, doy - (153 * mp + 2) / 5 + 1)

namespace Block

/-- A field time, in drips, as a GPS-time calendar date (R456). -/
def dateText (b : Block) (drips : Nat) : List Byte :=
  if b.is Reg.TIME.TSTAT_AON_LOST && b.time.gnssAt.isNone && b.time.baseAt.isNone then ascii "----------"
  else
    let m := ((drips : Int) - b.eraOfs).toNat / 600000
    match civilDay (m / 1440) with
    | (y, mo, d) => digits 4 y ++ ascii "-" ++ digits 2 mo ++ ascii "-" ++ digits 2 d ++ ascii " "
        ++ digits 2 (m / 60 % 24) ++ ascii ":" ++ digits 2 (m % 60)

/-- The verdict that a line shows: of those of its area and chapter in the current set, the one the LED would choose. -/
def lineVerdict (b : Block) (mine : Nat → Bool) : Nat :=
  ((b.log.verdicts.filter fun h => mine h.verdict).foldl
    (fun (m : Nat × Nat) h => if m.2 ≤ h.severity then (h.verdict, h.severity) else m) (0, 0)).1

/-- "ok", or the verdict. -/
def okOr (v : Nat) : List Byte := if v = 0 then ascii "ok" else verdictText v

/-- A safety input of card line 2 (R482). -/
def pairText (b : Block) (p : Nat) : List Byte :=
  ascii (if !b.is (Reg.SAFE.CFG_EN p) then "OFF" else if b.is (Reg.SAFE.PSTAT_CROSS p) then "CROSS"
    else if b.is (Reg.SAFE.PSTAT_PULSE p) then "PULSE" else if b.is (Reg.SAFE.PSTAT_DISC p) then "DISC"
    else if b.is (Reg.SAFE.PSTAT_ACT p) then "STOP" else "RUN")

/-- Line 5: the section counts, the learned delays and the slowest valve, or a verdict in its place. -/
def sectText (b : Block) : List Byte :=
  let en := b.enabledSecs
  let delay (s : Nat) := max (b.rd (ofSec Reg.GAL.SDLY_ON s)) (b.rd (ofSec Reg.GAL.SDLY_OFF s))
  let learned := (List.range 256).foldl (fun n s => n + b.rd (ofSec Reg.GAL.SDLY_ON_L s) + b.rd (ofSec Reg.GAL.SDLY_OFF_L s)) 0
  let v := b.lineVerdict fun v => v / 4096 = 2 && v != Verdict.se 9
  let slow := en.foldl (fun m s => match m with
    | some k => if delay k < delay s then some s else m
    | none => some s) none
  spaced [ascii "SECT", decimal (en.filter (b.secBit Reg.GAL.AVAIL_MAP)).length ++ ascii "/" ++ decimal en.length,
    ascii "L" ++ decimal learned, verdictText v,
    match slow with
    | some s => if v = 0 then ascii "S" ++ digits 3 s ++ ascii " " ++ decimal (delay s) ++ ascii "ms" else []
    | none => []]

/-- Line 6: no fix, since the loader starts no GNSS core (R442). -/
def gnssText (b : Block) : List Byte :=
  let ants := ([0, 1].filter fun a => b.rd (Reg.GFE.ANT_STAT_DET a) = 1).length
  let jam := max (b.rd (Reg.GFE.JAM_LVL 0)) (b.rd (Reg.GFE.JAM_LVL 1)) * 10 / 4
  spaced [ascii "GNSS NONE", decimal ants ++ ascii "ANT", ascii "0/0",
    ascii "J" ++ decimal (jam / 10) ++ ascii "." ++ decimal (jam % 10),
    verdictText (b.lineVerdict fun v => v / 4096 = 3 && v != Verdict.gn 9)]

/-- Line 7: the bit rate, the state, the error counters and the verdict. -/
def busText (b : Block) : List Byte :=
  let st := if b.rd Reg.CAN.ERRC_STATE ≥ 2 then "BO" else if b.is Reg.CAN.ERRC_RESTR then "RS"
    else if b.rd Reg.CAN.ERRC_STATE = 1 then "EP" else "EA"
  spaced [ascii "BUS", decimal (b.rd Reg.CAN.BITRATE_RATE / 1000) ++ ascii "k", ascii st,
    decimal (b.rd Reg.CAN.ERRC_TEC) ++ ascii "/" ++ decimal (b.rd Reg.CAN.ERRC_REC),
    verdictText (b.lineVerdict fun v => v / 4096 = 4 && v % 4096 ≤ 5)]

/-- Line 8: the confirmed and bound partners and the boom nodes ready. -/
def lipText (b : Block) : List Byte :=
  if b.is Reg.CAN.NOACK_ALONE then ascii "LIP ALONE"
  else spaced [ascii "LIP", decimal (b.lip.partners.filter (·.confirmed)).length ++ ascii "/" ++ decimal b.lip.bindings.length,
    ascii "BOOM", decimal ((List.range 64).filter fun i => b.is (Reg.CAN.NODE_BOOM i) && b.is (Reg.CAN.NODE_READY i)).length]

/-- Line 9: the channel centre (Table RAD-1), the rate, the base and the RSSI of the last frame taken. -/
def radioText (b : Block) : List Byte :=
  let wide := b.is Reg.RAD.PHY_RATE
  let n := b.rd Reg.RAD.PHY_CHAN
  let khz := (if b.is Reg.RAD.PHY_BAND then (if wide then 902400 else 902200) else (if wide then 863225 else 863125))
    + (if wide then 400 else 200) * n
  let rssi := b.rd Reg.RAD.RSSI_LAST
  spaced [ascii "RADIO", decimal (khz / 1000) ++ ascii "." ++ digits 3 khz, ascii (if wide then "100k" else "50k"),
    ascii "B" ++ digits 4 (b.rd Reg.GPVT.BASE_ID),
    (if rssi < 128 then decimal rssi else ascii "-" ++ decimal (256 - rssi)) ++ ascii "dBm",
    verdictText (b.lineVerdict fun v => v / 4096 = 5)]

/-- Line 11: the OEM image version and, while an update is open, its state and the batts wanted. -/
def updText (b : Block) : List Byte :=
  let v := b.rd Reg.UPD.RUN_VER_VER
  let st := b.rd Reg.UPD.USTAT_STATE
  spaced [ascii "UPD", decimal (v / 2 ^ 24) ++ ascii "." ++ decimal (v / 2 ^ 16 % 256) ++ ascii "." ++ decimal (v % 2 ^ 16),
    if st = 0 then [] else ascii (["EMPTY", "ERASING", "MANIFEST", "CHECKING", "OPEN", "COMPLETE", "VERIFYING", "ARMED",
      "COMMITTING"].getD st "") ++ ascii " " ++ decimal (b.rd Reg.UPD.COUNTS_WANTED)]

/-- Line 12: the source and the date of the last calibration write, and "ok" or the verdict. -/
def calText (b : Block) : List Byte :=
  spaced [ascii "CAL", ascii (["", "FACTORY", "SERVICE", "FIELD"].getD (b.rd Reg.CAL.LAST_SRC_SRC) ""),
    if b.rd Reg.CAL.LAST_SRC_SRC = 0 then []
    else b.dateText ((b.rd Reg.CAL.LAST_LO_TIME + b.rd Reg.CAL.LAST_HI_TIME * 2 ^ 32) / 65536),
    okOr (b.lineVerdict fun v => v / 4096 = 12)]

/-- Line 15: the lifecycle, the effective level, and the minutes of a challenge authorization. -/
def secText (b : Block) : List Byte :=
  let m := b.rd Reg.DBG.REMAIN_MIN
  spaced [ascii "SEC", ascii (["BLANK", "OEM", "FIELD", "RETURN"].getD b.lifecycle ""),
    ascii (["CLOSED", "READ", "FULL"].getD (b.rd Reg.DBG.LEVEL_EFF) ""), if m = 0 then [] else decimal m]

/-- Line 16: the schedule verdicts. -/
def tickText (b : Block) : List Byte :=
  let v := b.lineVerdict fun v => [Verdict.se 9, Verdict.bu 9, Verdict.gn 9, Verdict.pd 9].contains v
  spaced [ascii "TICK", okOr v, if v = Verdict.se 9 then ascii "half rate" else []]

/-- Lines 19 to 22: a record that carries a verdict. -/
def recordText (b : Block) (img : List Byte) : List Byte :=
  let cls := imageVal img 11 1 / 4 % 4
  spaced [verdictText (imageVal img 12 2), ascii (if cls = 1 then "T" else if cls = 2 then "L" else "-"),
    b.dateText (imageVal img 0 8 / 65536), ascii "x" ++ decimal (imageVal img 14 2)]

/-- The indices of the records held, newest first (R467). -/
def newestFirst (b : Block) : List Nat :=
  ((List.range (b.rd Reg.LOG.HELD_CIRC)).map fun k => 512 + (b.log.circ + 511 - k) % 512)
    ++ (List.range (b.rd Reg.LOG.HELD_FOUND)).reverse

/-- The images of the four most recent records that carry a verdict, which MAIN's core reads. -/
def verdictRecords (b : Block) : Block × List (List Byte) :=
  b.newestFirst.foldl (fun acc i =>
    if 4 ≤ acc.2.length then acc
    else match acc.1.readRange 5 (recordAt acc.1.log.base i) 32 with
      | (b, img) => (b, if imageVal img 12 2 = 0 then acc.2 else acc.2 ++ [img])) (b, [])

/-- The 24 lines of Table TAG-3. -/
def cardLines (b : Block) (recs : List (List Byte)) : List (List Byte) :=
  let shown := if b.mode == .safe && b.md.safeVerdict != 0 then b.md.safeVerdict else b.ledChoice
  let mode := ascii (modeName b.mode)
  [spaced [ascii "AFH2560", hexDigits 6 (b.uid % 2 ^ 24), if shown = 0 then ascii "OK" else verdictText shown, mode],
   spaced [ascii "PWR", mode, ascii "L" ++ decimal (b.rd Reg.PWR.PPV_LEVEL), decimal (b.rd Reg.PWR.PPV_PPV) ++ ascii " W",
     if b.mode == .safe then verdictText b.md.safeVerdict else []],
   spaced [ascii "SAFE", ascii "S:" ++ b.pairText 0, ascii "F:" ++ b.pairText 1, verdictText (b.lineVerdict fun v => v / 4096 = 8)],
   spaced [ascii "DRIVE", okOr (b.lineVerdict fun v => v / 4096 = 1 && v != Verdict.pd 9)],
   spaced [ascii "LOOP", okOr (b.lineVerdict fun v => v / 4096 = 11)],
   b.sectText, b.gnssText, b.busText, b.lipText, b.radioText,
   spaced [ascii "TIME", ascii (["RTC", "BASE", "GNSS"].getD (b.rd Reg.TIME.TSTAT_SRC) ""), ascii "E" ++ decimal b.era],
   b.updText, b.calText,
   spaced ([ascii "CONF"] ++ if b.rd Reg.BLK.REPLAY_SKIPPED = 0 ∧ ¬ b.is Reg.BLK.REPLAY_STOPPED then [ascii "ok"]
     else [ascii "ME13", decimal (b.rd Reg.BLK.REPLAY_SKIPPED)]),
   spaced [ascii "MEM", okOr (b.lineVerdict fun v => [Verdict.me 1, Verdict.me 2, Verdict.me 3, Verdict.me 4].contains v)],
   b.secText, b.tickText,
   spaced [ascii "LOG F", decimal (b.rd Reg.LOG.HELD_FOUND) ++ ascii "/512", ascii "C", decimal (b.rd Reg.LOG.HELD_CIRC),
     ascii "LOST", decimal (b.rd Reg.LOG.LOST_COUNT)],
   spaced [ascii "TAG", okOr (b.lineVerdict fun v => [Verdict.tg 1, Verdict.tg 2, Verdict.tg 3].contains v)]]
  ++ (recs.map b.recordText ++ List.replicate 4 []).take 4
  ++ [spaced [ascii "CARD", digits 5 (b.val (tagBase + 0x320) 2 + 1), b.dateText b.ftDrips]]

/-- A line's 31 characters, cut or padded with spaces (R455, R456). -/
def lineBytes (text : List Byte) : List Byte := (text ++ List.replicate 31 (0x20 : Byte)).take 31

/-- The card area (R455): the record header, the 24 lines and the terminator. -/
def cardImage (lines : List (List Byte)) : List Byte :=
  [0x03, 0xFF, 0x03, 0x0A, 0xC1, 0x01, 0x00, 0x00, 0x03, 0x03, 0x54, 0x02, 0x65, 0x6E]
    ++ lines.flatMap (fun l => lineBytes l ++ [0x0A]) ++ [0xFE, 0x00]

/-- The loader writes the card with a commit job, in place of one still running (R456) (assumption 172, DESIGN CHOICE). -/
def cardWrite (b : Block) : Block :=
  match b.tagAbort.verdictRecords with
  | (b, recs) => b |>.wr Reg.TAG.JRES_PAGES 0 |>.tagJob 4 (cardImage (b.cardLines recs))

/-- Card line `k` (assumption 46, DEDUCED). -/
def cardLine (k : Nat) (text : List Byte) (b : Block) : Block := b.setBytes (tagBase + 0x1E + 32 * k) (lineBytes text)

end Block
end Sys2Proof.Machine
end

