-- ==== Sys2Proof/Machine/Start.lean ====
section
/-! DEFINITION. The start-up sequence from reset release to the running MAIN image: stage-0, the boot check, the loader, CONF
replay and the rebuilt state (Table MODE-6, R76 to R78, R86, R88, R89, R93, R133 to R139, R428, R436, R442, R444, R446, R460,
R472, R475). -/

namespace Sys2Proof.Machine
namespace Block

/-! Lifecycle and keys (step 3). -/

/-- LIFECYCLE_READ, with what the first start in RETURN erases (Table SEC-2). -/
def lifecycleRead (b : Block) : Block :=
  let b := b |>.wr Reg.SEC.LC_STATE b.lcState
    |>.cond b.lcCorrupt fun b => b |>.err 0x04 0 |>.verdict (Verdict.me 10) 0x04
  if b.lifecycle = 3 ∧ ¬ b.sec.returnDone then
    { b with sec := { b.sec with returnDone := true } } |>.each ([2, 3, 4] ++ (List.range 8).map (· + 8)) zeroSlot
  else b

/-- A slot filled or emptied as the start finds it. -/
def placeKey (n : Nat) (key : Option (List Byte)) (b : Block) : Block :=
  showSlots { b with sec := { b.sec with slots := b.sec.slots.set n key } }

/-- KS01 and KS05 from their OTP records; KS06 and KS07 begin EMPTY (assumption 47, DEDUCED). -/
def secretKeys (b : Block) : Block :=
  let ofRecord (n : Nat) : Option (List Byte) := if b.recorded n 0 then some (b.bytes (otpBase + recordOff n 0) 32) else none
  b |>.placeKey 1 (ofRecord 1) |>.placeKey 5 (ofRecord 5) |>.placeKey 6 none |>.placeKey 7 none

/-- PUBLIC_KEY_ENTRY (R93): the key enters its slot if its digest is that of the current record
(assumption 47, DEDUCED). -/
def enterKey (n : Nat) (key : List Byte) (b : Block) : Block × Bool :=
  let k := b.hashRecords n
  if k = 0 then (b, false)
  else if Crypto.sha256 key = b.bytes (otpBase + recordOff n (k - 1)) 32 then (b.placeKey n (some key), true)
  else (b.err 0x05 1, false)

/-- What the pages show of OTP: the UID and the tag's manufacturer code (assumption 64, DEDUCED). -/
def showIdentity (b : Block) : Block :=
  b |>.wr Reg.SEC.UID_LO_UID (b.uid % 2 ^ 32) |>.wr Reg.SEC.UID_HI_UID (b.uid / 2 ^ 32)
    |>.wr Reg.TAG.UID_MFR (b.val (otpBase + 0x18) 1) |>.showOtp

/-! The boot check (R428). -/

def imageHead (b : Block) : List Byte := b.bytes imageBase 4096

/-- Magic and L; the version too, but in BLANK (Table SEC-1). -/
def imageHeadOk (b : Block) (m : List Byte) : Bool :=
  let l := u32At m 12
  u32At m 0 = 0x4E414D4C && (b.lifecycle = 0 || u16At m 4 = 1) && l % 4096 = 0 && 8192 ≤ l && l ≤ 2097152

/-- BOOT_CHECK: magic, version and L; the key of byte 56; the signature; the digest. In BLANK only magic and L
(assumption 47, DEDUCED). -/
def bootCheck (b : Block) : Block × Bool :=
  let m := b.imageHead
  let key := (m.drop 56).take 32
  if !b.imageHeadOk m then (b, false)
  else
    match b.enterKey 7 key with
    | (b, entered) =>
      if b.lifecycle = 0 then (b, true)
      else (b, entered && Crypto.edVerify key (m.take 4032) (m.drop 4032)
        && Crypto.sha256 (b.bytes (imageBase + 4096) (u32At m 12 - 4096)) == (m.drop 24).take 32)

/-! CONF replay (R133 to R139). -/

/-- Offsets that a register record may cover (R135). -/
def confOffset (off : Nat) : Bool := off = 0x010 || off = 0x028 || (0x040 ≤ off && off ≤ 0x3FC)

/-- Why a register record is skipped whole, if it is (R136). -/
def confRefusal (page off n : Nat) : Option Nat :=
  if 0x2F < page then some 0x12
  else if off % 4 ≠ 0 ∨ !((List.range n).all fun i => confOffset (off + 4 * i)) then some 0x11
  else none

/-- A judged record is reported and counted (R136, R138, R139). -/
def confSkip (page reason off n pos : Nat) (b : Block) : Block :=
  b |>.recordReport page reason off n pos |>.inc Reg.BLK.REPLAY_SKIPPED |>.irq 0x0C 1

/-- One record's words, each written as MAIN's would be (R135). -/
def confApply (pos page off n : Nat) (b : Block) : Block :=
  b |>.each (List.range n) (fun i b => b.regWrite .loader (0x40000000 + page * 0x400 + off + 4 * i) (b.val (confBase + pos + 8 + 4 * i) 4))
    |>.inc Reg.BLK.REPLAY_APPLIED

/-- The list from byte `pos` of the region; `fuel` bounds the records that it can hold (assumption 49, DEDUCED). -/
def confFrom : Nat → Nat → Block → Block
  | 0, _, b => b
  | fuel + 1, pos, b =>
    let a := confBase + pos
    let magic := b.val a 1
    if 0xC000 ≤ pos ∨ magic = 0xFF then b
    else
      let page := b.val (a + 1) 1
      let off := b.val (a + 2) 2
      let n := b.val (a + 4) 1
      let next := pos + 8 + 4 * n
      if (magic ≠ 0xC5 ∧ magic ≠ 0xB5) ∨ n = 0 ∨ 64 < n ∨ 0xC000 < next then
        b |>.recordReport page 0x13 off n pos |>.wr Reg.BLK.REPLAY_STOPPED 1 |>.irq 0x0C 1
      else
        let good := crc16 (b.bytes a 6 ++ b.bytes (a + 8) (4 * n)) = b.val (a + 6) 2
        let b := if !good then b.confSkip page 0x10 off n pos
          else if magic = 0xB5 then b
          else match confRefusal page off n with
            | some r => b.confSkip page r off n pos
            | none => b.confApply pos page off n
        confFrom fuel next b

/-- CONF_REPLAY. -/
def confReplay (b : Block) : Block :=
  let b := confFrom 4096 0 b
  b.cond (b.rd Reg.BLK.REPLAY_SKIPPED != 0 || b.is Reg.BLK.REPLAY_STOPPED) (·.verdict (Verdict.me 13) 0x33)

/-! What is rebuilt. -/

/-- The newest image of code `c` in LOG: (write sequence, slot) (assumption 62, DEDUCED). -/
def newestOf (b : Block) (c : Nat) : Nat × Nat :=
  ((liveSlots b.logSlots).filter fun e => e.2.1 < 1024 && b.val (slotAt e.1 + 8) 2 = c).foldl
    (fun m e => if m.1 < e.2.2 then (e.2.2, e.1) else m) (0, 0)

/-- After a loss of the AON domain (R67, R419, R539): the time era from the newest record, and the SAFE latch from the
newest SAFE_ENTRY that no SAFE_CLR follows (assumption 41, DEDUCED; assumption 62, DEDUCED). -/
def aonRebuild (b : Block) : Block :=
  if !b.md.aonLost then b
  else
    let entry := b.newestOf 4
    let a := slotAt entry.2
    let latch := entry.1 != 0 && (b.newestOf 5).1 < entry.1
    let b := b.cond b.anyRecord fun b =>
      let (b, img) := b.readRange 11 (recordAt b.log.base (b.rd Reg.LOG.NEWEST_INDEX)) 32
      b.wr Reg.TIME.TSTAT_ERA (imageVal img 28 1)
    let md : ModeCtl := { b.md with aonLost := false }
    let md : ModeCtl := if latch then
        { md with safeLatch := true, safeCode := b.val (a + 16) 4, safePage := b.val (a + 20) 4 % 256, safeVerdict := 0 }
      else md
    { b with md } |>.wr Reg.TIME.TSTAT_AON_LOST 1 |>.wr Reg.TIME.TSTAT_SEED_USED 0

/-- `RESET_CAUSE` as the start event carries it (assumption 45, DEDUCED). -/
def causeWord (b : Block) : Nat :=
  b.rd Reg.SYS.RESET_CAUSE_POR + 2 * b.rd Reg.SYS.RESET_CAUSE_BROWNOUT + 4 * b.rd Reg.SYS.RESET_CAUSE_MAIN_RST
    + 8 * b.rd Reg.SYS.RESET_CAUSE_SW + 16 * b.rd Reg.SYS.RESET_CAUSE_DEBUG

/-- Supply troubles that the AON domain carried over (R81, R539, R540): PW03, PW04 and PW09 (assumption 51, DEDUCED). -/
def supplyVerdicts (b : Block) : Block :=
  let md := b.md
  { b with md := { b.md with holdupShort := false, brownout := false, late18 := false } }
    |>.cond md.holdupShort (fun b => b |>.err 0x02 1 |>.verdict (Verdict.pw 3) 0x02)
    |>.cond md.brownout (fun b => b |>.err 0x02 0 |>.verdict (Verdict.pw 4) 0x02)
    |>.cond md.late18 (fun b => b |>.err 0x02 4 |>.verdict (Verdict.pw 9) 0x02)

/-- The event START and those that the AON domain explains. -/
def startEvents (b : Block) : Block :=
  let lost := b.md.aonLost
  b |>.sysEvent 2 0x33 b.causeWord b.lifecycle |>.cond lost (·.sysEvent 0xA 0x2D 0 0) |>.supplyVerdicts

/-- The recorder, the update controller and the tag as a start finds them (R436, R460, R472, R475)
(assumption 49, DEDUCED). -/
def rebuild (b : Block) : Block := b |>.updRebuild |>.logRestore |>.startEvents |>.aonRebuild |>.tagPassword |>.lockoutCheck

/-! The ends of the sequence. -/

/-- LOADER_FAIL (R444): MAIN stays in reset, SAFE names UP02, and stage-0 records it and writes card lines 0 and 11, framed
by the sequence page (R457) (assumption 46, DEDUCED). -/
def loaderFail (b : Block) : Block :=
  let seq := b.val (tagBase + 0x320) 2
  b |>.verdict (Verdict.up 2) 0x33 3
    |>.commitPage 200 (seqPage seq true)
    |>.cardLine 0 (ascii "AFH2560 " ++ hexDigits 6 (b.uid % 2 ^ 24) ++ ascii " UP02 SAFE") |>.cardLine 11 (ascii "UPD UP02 LOADER")
    |>.commitPage 200 (seqPage (seq + 1) false) |>.showTag
    |>.enterSafe 0x14 0x33 (Verdict.up 2) 0xA

/-- What the sequence ends in: SAFE in loader-only state with UP01 (R442), whose card the loader writes (R456), where the latch stands (R67), or in fallback
timing with PW05 (R541); WAKE otherwise (assumption 45, DEDUCED). -/
def startMode (b : Block) : Block :=
  if b.is Reg.UPD.USTAT_LOADER_ONLY then
    b |>.verdict (Verdict.up 1) 0x33 3 |>.enterSafe 0x14 0x33 (Verdict.up 1) 0xA |>.cardWrite
  else if b.md.safeLatch then b.enterSafe b.md.safeCode b.md.safePage b.md.safeVerdict 0xA
  else if b.is Reg.HDR.TICK_FALLBACK then
    b |>.err 0x01 3 |>.verdict (Verdict.pw 5) 0x01 3 |>.enterSafe 0x2003 0x01 (Verdict.pw 5) 0xA
  else b

/-- The controller sees a finished update (step 8 of Table UPD-6); a complete DIRECT update has ended too
(assumption 48, DEDUCED). -/
def updDone (b : Block) : Block :=
  b.cond (b.stageOk && (b.doneMark || (b.stageDirect && b.rd Reg.UPD.USTAT_STATE = 5))) fun b =>
    b |>.sysEvent 8 0x0F (b.rd Reg.UPD.RUN_VER_VER) b.stageTag |>.updClose 8

/-- The image runs: L at 0 and every standing request clear (step 6), `READY` clear (R77), the debug ceiling at FULL (R103),
held notices gone (R186), the pulse counter at 0 (R500) (assumption 48, DEDUCED). -/
def imageUp (b : Block) : Block :=
  { b with
    md := { b.md with running := true }
    drive := { b.drive with mainReset := false }
    safe := { b.safe with pulse := 0 } }
    |>.wr Reg.SYS.STANDING_PUMP_EN 0 |>.wr Reg.SYS.STANDING_FIELD_REQ 0 |>.wr Reg.SYS.STANDING_READY 0
    |>.wr Reg.PWR.PPV_LEVEL 0 |>.mbxClear |>.pwmForce |>.showSource

/-- Steps 1 to 3: what a reset of MAIN resets, the tick, the lifecycle, the keys and the calibration set. -/
def stage0 (b : Block) : Block :=
  let frozen := b.is Reg.HDR.TICK_FROZEN
  let b := b.cond b.drive.mainReset fun b => b |>.warmUp |>.wr Reg.GAL0.MAPSTAT_RESTORED 0
  let b := if frozen then
      { b with tick := {} } |>.wr Reg.TICK.POS_DRIP 0 |>.wr Reg.TICK.POS_POOL 0 |>.wr Reg.TICK.POS_EPOCH 0
        |>.wr Reg.TICK.CYC_CYC 0
    else b
  b |>.showDomains |>.tickStart |>.lifecycleRead |>.secretKeys |>.showIdentity |>.wr Reg.DBG.LEVEL_CEIL 2 |>.endAuth |>.relevel
    |>.calCutCheck |>.calLoad

/-- Steps 4 to 6 (assumption 8, PRESUMED). -/
def startImage (ks06 : List Byte) (b : Block) : Block :=
  let b := if b.stageOk && b.copyMark && !b.doneMark then b |>.loaderCopy |>.startCause Reg.SYS.RESET_CAUSE_SW else b
  match b.bootCheck with
  | (b, good) =>
    let b := b.wrB Reg.UPD.USTAT_LOADER_ONLY (!good)
    let b := b.cond good fun b => b.wr Reg.UPD.RUN_VER_VER (u32At b.imageHead 16)
    let b := b.cond (good && ks06.length = 32) fun b => (b.enterKey 6 ks06).1
    b |>.confReplay |>.cond good bindRead |>.rebuild |>.cond good updDone |>.imageUp |>.startMode

/-- A reset of MAIN in FIELD: the sections' closing commands still go out, which takes less time than the image check (R86,
Table MODE-6) (assumption 149, DEDUCED). -/
def closing (b : Block) : Bool :=
  b.tickRuns && !b.is Reg.HDR.TICK_FROZEN
    && b.md.leaving.any fun l => l.goal.isNone && (l.stage = 1 || (l.stage = 2 && decide (b.tick.pools < l.closeAt)))

/-- The start (R76). `loaderOk`: the LOADER region passes its check; `ks06`: the public key that the image supplies for KS06,
none when it is not 32 bytes (R93). It runs once after each entry into WAKE by power or by a reset of MAIN. -/
def start (loaderOk : Bool) (ks06 : List Byte) (b : Block) : Block :=
  if !b.powered || b.mode != .wake || b.md.running || b.resetHeld || b.closing then b
  else
    let b := b.stage0
    if loaderOk then b.startImage ks06
    else { b.rebuild with drive := { b.drive with mainReset := true } } |>.pwmForce |>.loaderFail

end Block

/-- START (R76): whether the LOADER region passes its check, and the public key that the image supplies for KS06. -/
def execStart (loaderOk : Bool) (ks06 : List Byte) (s : State) : Host.Outcome State Fault Refusal :=
  s.run (Block.start loaderOk ks06)

end Sys2Proof.Machine
end

