-- ==== Sys2Proof/Machine/Dispatch.lean ====
section
/-! DEFINITION. The dispatch: one arm per command, each a call of its meaning. -/

namespace Sys2Proof.Machine

def exec (i : Instr) (s : State) : Host.Outcome State Fault Refusal :=
  match i with
  | .vin3v3RangeEntry ldo vbat => Sys2Proof.Machine.execVin3v3RangeEntry ldo vbat s
  | .vdd1v8Late => Sys2Proof.Machine.execVdd1v8Late s
  | .vin3v3RangeLoss vbat => Sys2Proof.Machine.execVin3v3RangeLoss vbat s
  | .pvGoodAssert ball units => Sys2Proof.Machine.execPvGoodAssert ball units s
  | .pvGoodDeassert ball units => Sys2Proof.Machine.execPvGoodDeassert ball units s
  | .snapMinLoss ball => Sys2Proof.Machine.execSnapMinLoss ball s
  | .vbatLowTimeout level => Sys2Proof.Machine.execVbatLowTimeout level s
  | .start loaderOk ks06 => Sys2Proof.Machine.execStart loaderOk ks06 s
  | .mainReset cause => Sys2Proof.Machine.execMainReset cause s
  | .tickStart => Sys2Proof.Machine.execTickStart s
  | .pllLockTimeout => Sys2Proof.Machine.execPllLockTimeout s
  | .tcxoOrPllLoss tcxo => Sys2Proof.Machine.execTcxoOrPllLoss tcxo s
  | .xt32mLoss => Sys2Proof.Machine.execXt32mLoss s
  | .xt32kLoss => Sys2Proof.Machine.execXt32kLoss s
  | .agentLoad agent upset => Sys2Proof.Machine.execAgentLoad agent upset s
  | .radioIdleTimeout upset => Sys2Proof.Machine.execRadioIdleTimeout upset s
  | .dripEdge levels => Sys2Proof.Machine.execDripEdge levels s
  | .poolEdge front => Sys2Proof.Machine.execPoolEdge front s
  | .epochEdge obs => Sys2Proof.Machine.execEpochEdge obs s
  | .adcGroupComplete codes => Sys2Proof.Machine.execAdcGroupComplete codes s
  | .adcConversionFail coreB => Sys2Proof.Machine.execAdcConversionFail coreB s
  | .adcDisable => Sys2Proof.Machine.execAdcDisable s
  | .loopRun => Sys2Proof.Machine.execLoopRun s
  | .loopOutputWrite => Sys2Proof.Machine.execLoopOutputWrite s
  | .pwmTransfer m => Sys2Proof.Machine.execPwmTransfer m s
  | .ldall m => Sys2Proof.Machine.execLdall m s
  | .pwmCounterEvent m kind => Sys2Proof.Machine.execPwmCounterEvent m kind s
  | .faultInput input level ns stays => Sys2Proof.Machine.execFaultInput input level ns stays s
  | .faultSlotMan => Sys2Proof.Machine.execFaultSlotMan s
  | .fltclr m input => Sys2Proof.Machine.execFltclr m input s
  | .deadTimeUpdate m leg rise fall => Sys2Proof.Machine.execDeadTimeUpdate m leg rise fall s
  | .dtConvTimeout m leg => Sys2Proof.Machine.execDtConvTimeout m leg s
  | .bootstrapRefresh m leg => Sys2Proof.Machine.execBootstrapRefresh m leg s
  | .commModeWrite w => Sys2Proof.Machine.execCommModeWrite w s
  | .commTimer us => Sys2Proof.Machine.execCommTimer us s
  | .zcEdge leg rising us => Sys2Proof.Machine.execZcEdge leg rising us s
  | .commStepAdvance us => Sys2Proof.Machine.execCommStepAdvance us s
  | .galleryInputLatch => Sys2Proof.Machine.execGalleryInputLatch s
  | .galleryEvaluation cycles missed => Sys2Proof.Machine.execGalleryEvaluation cycles missed s
  | .sectionCommandLatch => Sys2Proof.Machine.execSectionCommandLatch s
  | .sectCmdQueue => Sys2Proof.Machine.execSectCmdQueue s
  | .syncQueue => Sys2Proof.Machine.execSyncQueue s
  | .heartbeatQueue => Sys2Proof.Machine.execHeartbeatQueue s
  | .modeEvaluation => Sys2Proof.Machine.execModeEvaluation s
  | .ladderShed => Sys2Proof.Machine.execLadderShed s
  | .ladderRestore => Sys2Proof.Machine.execLadderRestore s
  | .fieldExitValveClose => Sys2Proof.Machine.execFieldExitValveClose s
  | .blockOverrun o => Sys2Proof.Machine.execBlockOverrun o s
  | .galleryDegradeExit => Sys2Proof.Machine.execGalleryDegradeExit s
  | .gpvtRecordAbandon => Sys2Proof.Machine.execGpvtRecordAbandon s
  | .tickFreeze => Sys2Proof.Machine.execTickFreeze s
  | .tickUnfreeze => Sys2Proof.Machine.execTickUnfreeze s
  | .tickHoldWrite actor v => Sys2Proof.Machine.execTickHoldWrite actor v s
  | .serviceRequest => Sys2Proof.Machine.execServiceRequest s
  | .leaveService => Sys2Proof.Machine.execLeaveService s
  | .safeRequest => Sys2Proof.Machine.execSafeRequest s
  | .safeClr => Sys2Proof.Machine.execSafeClr s
  | .shelfRequest => Sys2Proof.Machine.execShelfRequest s
  | .readySet => Sys2Proof.Machine.execReadySet s
  | .lcKeyWrite key => Sys2Proof.Machine.execLcKeyWrite key s
  | .lcAdvance target => Sys2Proof.Machine.execLcAdvance target s
  | .lcAdvanceDone => Sys2Proof.Machine.execLcAdvanceDone s
  | .lcArmExpire => Sys2Proof.Machine.execLcArmExpire s
  | .load slot => Sys2Proof.Machine.execLoad slot s
  | .wrap slot => Sys2Proof.Machine.execWrap slot s
  | .unwrap slot => Sys2Proof.Machine.execUnwrap slot s
  | .zeroize slot => Sys2Proof.Machine.execZeroize slot s
  | .progOtp slot => Sys2Proof.Machine.execProgOtp slot s
  | .keyOpEnd => Sys2Proof.Machine.execKeyOpEnd s
  | .keyPendingInstall slot => Sys2Proof.Machine.execKeyPendingInstall slot s
  | .xtsDec => Sys2Proof.Machine.execXtsDec s
  | .gcmEnc => Sys2Proof.Machine.execGcmEnc s
  | .gcmDec => Sys2Proof.Machine.execGcmDec s
  | .ccmEnc => Sys2Proof.Machine.execCcmEnc s
  | .ccmDec => Sys2Proof.Machine.execCcmDec s
  | .sha256 => Sys2Proof.Machine.execSha256 s
  | .edVerify => Sys2Proof.Machine.execEdVerify s
  | .jobEnd done => Sys2Proof.Machine.execJobEnd done s
  | .jobAbort late => Sys2Proof.Machine.execJobAbort late s
  | .trngRead => Sys2Proof.Machine.execTrngRead s
  | .trngHealthFail => Sys2Proof.Machine.execTrngHealthFail s
  | .idcode => Sys2Proof.Machine.execIdcode s
  | .bypass tdi => Sys2Proof.Machine.execBypass tdi s
  | .chalNonceRequest => Sys2Proof.Machine.execChalNonceRequest s
  | .chalSignature full minutes sig => Sys2Proof.Machine.execChalSignature full minutes sig s
  | .chalNonceExpire => Sys2Proof.Machine.execChalNonceExpire s
  | .chalLockoutEnd => Sys2Proof.Machine.execChalLockoutEnd s
  | .debugAuthExpire => Sys2Proof.Machine.execDebugAuthExpire s
  | .dbgReqWrite v => Sys2Proof.Machine.execDbgReqWrite v s
  | .dread a w => Sys2Proof.Machine.execDread a w s
  | .dacc a w => Sys2Proof.Machine.execDacc a w s
  | .dhalt agent halt brk => Sys2Proof.Machine.execDhalt agent halt brk s
  | .registerWrite actor addr w => Sys2Proof.Machine.execRegisterWrite actor addr w s
  | .readClear actor addr => Sys2Proof.Machine.execReadClear actor addr s
  | .blkSummaryRead actor => Sys2Proof.Machine.execBlkSummaryRead actor s
  | .repClr => Sys2Proof.Machine.execRepClr s
  | .subwordRegisterAccess actor addr => Sys2Proof.Machine.execSubwordRegisterAccess actor addr s
  | .unmappedAccess actor addr => Sys2Proof.Machine.execUnmappedAccess actor addr s
  | .pageAccessDenied radio page write => Sys2Proof.Machine.execPageAccessDenied radio page write s
  | .lockWrite page => Sys2Proof.Machine.execLockWrite page s
  | .softReset page => Sys2Proof.Machine.execSoftReset page s
  | .blockFreeze page on => Sys2Proof.Machine.execBlockFreeze page on s
  | .irqPendClear page mask => Sys2Proof.Machine.execIrqPendClear page mask s
  | .testStart page => Sys2Proof.Machine.execTestStart page s
  | .testAbort page => Sys2Proof.Machine.execTestAbort page s
  | .calRewriteStart => Sys2Proof.Machine.execCalRewriteStart s
  | .calRewriteEnd ok => Sys2Proof.Machine.execCalRewriteEnd ok s
  | .calReload => Sys2Proof.Machine.execCalReload s
  | .erase => Sys2Proof.Machine.execErase s
  | .program => Sys2Proof.Machine.execProgram s
  | .flashAbort => Sys2Proof.Machine.execFlashAbort s
  | .flashOpEnd ok => Sys2Proof.Machine.execFlashOpEnd ok s
  | .flashCacheMissSuspend a => Sys2Proof.Machine.execFlashCacheMissSuspend a s
  | .sramAccess master a kind size v phase rivals late upset => Sys2Proof.Machine.execSramAccess master a kind size v phase rivals late upset s
  | .scrubRead bank late rivals upset overtaken => Sys2Proof.Machine.execScrubRead bank late rivals upset overtaken s
  | .eccInject mask => Sys2Proof.Machine.execEccInject mask s
  | .fenceCommit => Sys2Proof.Machine.execFenceCommit s
  | .fenceApply levels => Sys2Proof.Machine.execFenceApply levels s
  | .bwlResWrite master bank v => Sys2Proof.Machine.execBwlResWrite master bank v s
  | .mbxPost actor n hdr => Sys2Proof.Machine.execMbxPost actor n hdr s
  | .rxHdrTake actor n => Sys2Proof.Machine.execRxHdrTake actor n s
  | .mbxTimeout n => Sys2Proof.Machine.execMbxTimeout n s
  | .mbxReceiverOff n => Sys2Proof.Machine.execMbxReceiverOff n s
  | .mbxReaddress n receiver => Sys2Proof.Machine.execMbxReaddress n receiver s
  | .hostRead early a n => Sys2Proof.Machine.execHostRead early a n s
  | .hostWrite early a ws => Sys2Proof.Machine.execHostWrite early a ws s
  | .hostStatus early => Sys2Proof.Machine.execHostStatus early s
  | .mbxSend early n ptr len tag => Sys2Proof.Machine.execMbxSend early n ptr len tag s
  | .mbxTake early n => Sys2Proof.Machine.execMbxTake early n s
  | .hostBadFrame early mosi => Sys2Proof.Machine.execHostBadFrame early mosi s
  | .hostFrameAbandon early => Sys2Proof.Machine.execHostFrameAbandon early s
  | .hostIdleTimeout => Sys2Proof.Machine.execHostIdleTimeout s
  | .boundaryLoad v => Sys2Proof.Machine.execBoundaryLoad v s
  | .delayObservationEnd c => Sys2Proof.Machine.execDelayObservationEnd c s
  | .holdExpiry => Sys2Proof.Machine.execHoldExpiry s
  | .checkpointStart => Sys2Proof.Machine.execCheckpointStart s
  | .ckpt => Sys2Proof.Machine.execCkpt s
  | .checkpointRecordWrite ok => Sys2Proof.Machine.execCheckpointRecordWrite ok s
  | .journalFold => Sys2Proof.Machine.execJournalFold s
  | .clear => Sys2Proof.Machine.execClear s
  | .capEdge n rising held cyc => Sys2Proof.Machine.execCapEdge n rising held cyc s
  | .gnssStart front fresh => Sys2Proof.Machine.execGnssStart front fresh s
  | .antBiasShort ant => Sys2Proof.Machine.execAntBiasShort ant s
  | .antBiasRetry ant ma => Sys2Proof.Machine.execAntBiasRetry ant ma s
  | .antReclassify ant => Sys2Proof.Machine.execAntReclassify ant s
  | .notchEngage k peaks => Sys2Proof.Machine.execNotchEngage k peaks s
  | .notchRelease k => Sys2Proof.Machine.execNotchRelease k s
  | .jamStay ant => Sys2Proof.Machine.execJamStay ant s
  | .assistanceNotice => Sys2Proof.Machine.execAssistanceNotice s
  | .navDataPost page ptr data => Sys2Proof.Machine.execNavDataPost page ptr data s
  | .gacqStart actor aid => Sys2Proof.Machine.execGacqStart actor aid s
  | .gacqAbort actor => Sys2Proof.Machine.execGacqAbort actor s
  | .gacqSearchEnd found => Sys2Proof.Machine.execGacqSearchEnd found s
  | .gfftStart actor => Sys2Proof.Machine.execGfftStart actor s
  | .gfftAbort actor => Sys2Proof.Machine.execGfftAbort actor s
  | .gfftJobEnd found => Sys2Proof.Machine.execGfftJobEnd found s
  | .channelEnable actor chan prn sp dopp => Sys2Proof.Machine.execChannelEnable actor chan prn sp dopp s
  | .channelPllLock chan => Sys2Proof.Machine.execChannelPllLock chan s
  | .channelCoast chan cn0 => Sys2Proof.Machine.execChannelCoast chan cn0 s
  | .channelCoastResume chan cn0 => Sys2Proof.Machine.execChannelCoastResume chan cn0 s
  | .channelLost chan => Sys2Proof.Machine.execChannelLost chan s
  | .pvtSolution fix => Sys2Proof.Machine.execPvtSolution fix s
  | .post actor => Sys2Proof.Machine.execPost actor s
  | .rtcmReceive => Sys2Proof.Machine.execRtcmReceive s
  | .gsnapStart ant len => Sys2Proof.Machine.execGsnapStart ant len s
  | .snapshotInterval aon => Sys2Proof.Machine.execSnapshotInterval aon s
  | .captureBegin => Sys2Proof.Machine.execCaptureBegin s
  | .gsnapAbort sa sb => Sys2Proof.Machine.execGsnapAbort sa sb s
  | .captureEnd aon sa sb => Sys2Proof.Machine.execCaptureEnd aon sa sb s
  | .loopModeRequest slot mode => Sys2Proof.Machine.execLoopModeRequest slot mode s
  | .windowWrite slot off w => Sys2Proof.Machine.execWindowWrite slot off w s
  | .injectionStart => Sys2Proof.Machine.execInjectionStart s
  | .injectionStop => Sys2Proof.Machine.execInjectionStop s
  | .capCtrlStart => Sys2Proof.Machine.execCapCtrlStart s
  | .capCtrlAbort => Sys2Proof.Machine.execCapCtrlAbort s
  | .supervisionFail slot => Sys2Proof.Machine.execSupervisionFail slot s
  | .supervisionRecover slot => Sys2Proof.Machine.execSupervisionRecover slot s
  | .canEnable => Sys2Proof.Machine.execCanEnable s
  | .canDisable bus => Sys2Proof.Machine.execCanDisable bus s
  | .txPush => Sys2Proof.Machine.execTxPush s
  | .txdmaGo => Sys2Proof.Machine.execTxdmaGo s
  | .canTxAttemptEnd outcome ago exempt => Sys2Proof.Machine.execCanTxAttemptEnd outcome ago exempt s
  | .txAbort tag all sending => Sys2Proof.Machine.execTxAbort tag all sending s
  | .txDoneRead actor => Sys2Proof.Machine.execTxDoneRead actor s
  | .canFrameReceive id dlc data ago => Sys2Proof.Machine.execCanFrameReceive id dlc data ago s
  | .w0Read actor => Sys2Proof.Machine.execW0Read actor s
  | .w3Read actor => Sys2Proof.Machine.execW3Read actor s
  | .ringWrite => Sys2Proof.Machine.execRingWrite s
  | .canBusError lec transmitting more => Sys2Proof.Machine.execCanBusError lec transmitting more s
  | .recover => Sys2Proof.Machine.execRecover s
  | .recoveryEnd => Sys2Proof.Machine.execRecoveryEnd s
  | .announce uid kind image => Sys2Proof.Machine.execAnnounce uid kind image s
  | .partnerHeartbeat addr st order => Sys2Proof.Machine.execPartnerHeartbeat addr st order s
  | .assignLapse addr => Sys2Proof.Machine.execAssignLapse addr s
  | .partnerLoss addr => Sys2Proof.Machine.execPartnerLoss addr s
  | .discover => Sys2Proof.Machine.execDiscover s
  | .nodeImageLoad => Sys2Proof.Machine.execNodeImageLoad s
  | .btOpen peer content len tag => Sys2Proof.Machine.execBtOpen peer content len tag s
  | .btData peer head data => Sys2Proof.Machine.execBtData peer head data s
  | .btAck peer code block index => Sys2Proof.Machine.execBtAck peer code block index s
  | .btEnd peer crc len => Sys2Proof.Machine.execBtEnd peer crc len s
  | .btAbort peer => Sys2Proof.Machine.execBtAbort peer s
  | .btAckTimeout peer => Sys2Proof.Machine.execBtAckTimeout peer s
  | .btReceiveTimeout peer => Sys2Proof.Machine.execBtReceiveTimeout peer s
  | .btHold peer tag => Sys2Proof.Machine.execBtHold peer tag s
  | .report addr pulse chan value ft => Sys2Proof.Machine.execReport addr pulse chan value ft s
  | .txGo buf => Sys2Proof.Machine.execTxGo buf s
  | .radioAckTimeout buf => Sys2Proof.Machine.execRadioAckTimeout buf s
  | .radioTxEnd busy buf => Sys2Proof.Machine.execRadioTxEnd busy buf s
  | .radioFrameReceive aon modeSwitch fcs2 psdu rssi cyc => Sys2Proof.Machine.execRadioFrameReceive aon modeSwitch fcs2 psdu rssi cyc s
  | .rxPop => Sys2Proof.Machine.execRxPop s
  | .bcnPost => Sys2Proof.Machine.execBcnPost s
  | .corr buf => Sys2Proof.Machine.execCorr buf s
  | .batt buf => Sys2Proof.Machine.execBatt buf s
  | .battFragmentTimeout idx => Sys2Proof.Machine.execBattFragmentTimeout idx s
  | .sched buf => Sys2Proof.Machine.execSched buf s
  | .schedEntryStart aon k => Sys2Proof.Machine.execSchedEntryStart aon k s
  | .msg buf => Sys2Proof.Machine.execMsg buf s
  | .time => Sys2Proof.Machine.execTime s
  | .wantedMapNotice => Sys2Proof.Machine.execWantedMapNotice s
  | .need => Sys2Proof.Machine.execNeed s
  | .beaconWindow aon => Sys2Proof.Machine.execBeaconWindow aon s
  | .listenWindowEnd aon => Sys2Proof.Machine.execListenWindowEnd aon s
  | .holdAreaReplay buf => Sys2Proof.Machine.execHoldAreaReplay buf s
  | .timeSample gnss sec ns ft => Sys2Proof.Machine.execTimeSample gnss sec ns ft s
  | .fieldTimeStep => Sys2Proof.Machine.execFieldTimeStep s
  | .slewStart => Sys2Proof.Machine.execSlewStart s
  | .slewEnd => Sys2Proof.Machine.execSlewEnd s
  | .timeSourceTimeout => Sys2Proof.Machine.execTimeSourceTimeout s
  | .seed hi => Sys2Proof.Machine.execSeed hi s
  | .updOpen => Sys2Proof.Machine.execUpdOpen s
  | .updClose => Sys2Proof.Machine.execUpdClose s
  | .updAccept keyLost fails => Sys2Proof.Machine.execUpdAccept keyLost fails s
  | .manifestCheck => Sys2Proof.Machine.execManifestCheck s
  | .stageEraseEnd => Sys2Proof.Machine.execStageEraseEnd s
  | .updActivate => Sys2Proof.Machine.execUpdActivate s
  | .activationStart mark => Sys2Proof.Machine.execActivationStart mark s
  | .updDisarm => Sys2Proof.Machine.execUpdDisarm s
  | .nfcFieldOn => Sys2Proof.Machine.execNfcFieldOn s
  | .nfcFieldOff => Sys2Proof.Machine.execNfcFieldOff s
  | .reqa => Sys2Proof.Machine.execReqa s
  | .wupa => Sys2Proof.Machine.execWupa s
  | .anticollision second bits value => Sys2Proof.Machine.execAnticollision second bits value s
  | .select second uid => Sys2Proof.Machine.execSelect second uid s
  | .hlta => Sys2Proof.Machine.execHlta s
  | .nfcRead page => Sys2Proof.Machine.execNfcRead page s
  | .nfcWrite page data => Sys2Proof.Machine.execNfcWrite page data s
  | .sectorSelect sector => Sys2Proof.Machine.execSectorSelect sector s
  | .auth pw => Sys2Proof.Machine.execAuth pw s
  | .tagBadFrame badCrc => Sys2Proof.Machine.execTagBadFrame badCrc s
  | .tagCommit => Sys2Proof.Machine.execTagCommit s
  | .tagCommitAbort => Sys2Proof.Machine.execTagCommitAbort s
  | .tagJobTimeout => Sys2Proof.Machine.execTagJobTimeout s
  | .tagPageCommit ok => Sys2Proof.Machine.execTagPageCommit ok s
  | .tagWindowWrite page data => Sys2Proof.Machine.execTagWindowWrite page data s
  | .tagRead early page n => Sys2Proof.Machine.execTagRead early page n s
  | .tagWrite early page ws => Sys2Proof.Machine.execTagWrite early page ws s
  | .tagStat early => Sys2Proof.Machine.execTagStat early s
  | .statusAreaCommit => Sys2Proof.Machine.execStatusAreaCommit s
  | .summaryCopy => Sys2Proof.Machine.execSummaryCopy s
  | .authRst => Sys2Proof.Machine.execAuthRst s
  | .eventRaise code source sev verdict a0 a1 => Sys2Proof.Machine.execEventRaise code source sev verdict a0 a1 s
  | .recordWrite => Sys2Proof.Machine.execRecordWrite s
  | .wrGo => Sys2Proof.Machine.execWrGo s
  | .eventPortWrite radio w => Sys2Proof.Machine.execEventPortWrite radio w s
  | .logAppend ok => Sys2Proof.Machine.execLogAppend ok s
  | .flush => Sys2Proof.Machine.execFlush s
  | .clrKeyWrite key => Sys2Proof.Machine.execClrKeyWrite key s
  | .foundClr => Sys2Proof.Machine.execFoundClr s
  | .ledCycleStart => Sys2Proof.Machine.execLedCycleStart s
  | .ledAck => Sys2Proof.Machine.execLedAck s
  | .targetedTestStart page flt => Sys2Proof.Machine.execTargetedTestStart page flt s
  | .targetedTestEnd page flt pass detail => Sys2Proof.Machine.execTargetedTestEnd page flt pass detail s
  | .retest page => Sys2Proof.Machine.execRetest page s
  | .abortAll => Sys2Proof.Machine.execAbortAll s
  | .safetyFilterChange p ch => Sys2Proof.Machine.execSafetyFilterChange p ch s
  | .tpPulseCheck tp levels => Sys2Proof.Machine.execTpPulseCheck tp levels s
  | .discTimeout p => Sys2Proof.Machine.execDiscTimeout p s
  | .safetyClr p => Sys2Proof.Machine.execSafetyClr p s
  | .safetyRestart p => Sys2Proof.Machine.execSafetyRestart p s
  | .vdd1v8InRange => Sys2Proof.Machine.execVdd1v8InRange s
  | .vbatAonLoss => Sys2Proof.Machine.execVbatAonLoss s
  | .buckFault => Sys2Proof.Machine.execBuckFault s
  | .tapReset => Sys2Proof.Machine.execTapReset s
  | .activationCheckEnd => Sys2Proof.Machine.execActivationCheckEnd s

end Sys2Proof.Machine
end

