-- ==== Sys2Proof/WellFormed.lean ====
section
/-! DEFINITION. Which commands are well formed: lists as long as the thing they stand for. The other ranges of operands are
in their types (Fin, BitVec). A command that is not well formed stands for nothing outside the part; the meanings are
total on it all the same. -/

namespace Sys2Proof

/-- Each measurement comes for ANT_A and ANT_B. -/
def Front.wf (f : Front) : Bool :=
  f.ma.length = 2 && f.power.length = 2 && f.floor.length = 2 && f.agc.length = 2

/-- A satellite is named once, and what contributes is among what is seen. -/
def NavFix.wf (x : NavFix) : Bool := (x.seen.map (·.1)).Nodup && x.doppler ≤ x.seen.length && x.corrected ≤ x.seen.length

/-- The indexes of CFG_SET that are not reserved (Table LIP-7). -/
def LipOrder.wf : LipOrder → Bool
  | .config _ index _ => index = 0 || 0x80 ≤ index.toNat
  | .replace _ | .quiet _ _ _ | .export_ _ _ => true

/-- The checks, constructor by constructor. -/
def Instr.wf : Instr → Bool
  | .vin3v3RangeEntry _ _ => true
  | .vdd1v8Late => true
  | .vin3v3RangeLoss _ => true
  | .pvGoodAssert _ _ => true
  | .pvGoodDeassert _ _ => true
  | .snapMinLoss _ => true
  | .vbatLowTimeout _ => true
  | .start _ ks06 => ks06.length = 0 || ks06.length = 32
  | .mainReset _ => true
  | .tickStart => true
  | .pllLockTimeout => true
  | .tcxoOrPllLoss _ => true
  | .xt32mLoss => true
  | .xt32kLoss => true
  | .agentLoad _ _ => true
  | .radioIdleTimeout _ => true
  | .dripEdge levels => levels.length = 4
  | .poolEdge front => front.wf
  | .epochEdge obs => (obs.map (·.chan)).Nodup
  | .adcGroupComplete codes => codes.length = 16
  | .adcConversionFail _ => true
  | .adcDisable => true
  | .loopRun => true
  | .loopOutputWrite => true
  | .pwmTransfer _ => true
  | .ldall _ => true
  | .pwmCounterEvent _ _ => true
  | .faultInput _ _ _ _ => true
  | .faultSlotMan => true
  | .fltclr _ _ => true
  | .deadTimeUpdate _ _ _ _ => true
  | .dtConvTimeout _ _ => true
  | .bootstrapRefresh _ _ => true
  | .commModeWrite _ => true
  | .commTimer _ => true
  | .zcEdge _ _ _ => true
  | .commStepAdvance _ => true
  | .galleryInputLatch => true
  | .galleryEvaluation _ missed => missed.Nodup
  | .sectionCommandLatch => true
  | .sectCmdQueue => true
  | .syncQueue => true
  | .heartbeatQueue => true
  | .modeEvaluation => true
  | .ladderShed => true
  | .ladderRestore => true
  | .fieldExitValveClose => true
  | .blockOverrun _ => true
  | .galleryDegradeExit => true
  | .gpvtRecordAbandon => true
  | .tickFreeze => true
  | .tickUnfreeze => true
  | .tickHoldWrite _ _ => true
  | .serviceRequest => true
  | .leaveService => true
  | .safeRequest => true
  | .safeClr => true
  | .shelfRequest => true
  | .readySet => true
  | .lcKeyWrite _ => true
  | .lcAdvance _ => true
  | .lcAdvanceDone => true
  | .lcArmExpire => true
  | .load _ => true
  | .wrap _ => true
  | .unwrap _ => true
  | .zeroize _ => true
  | .progOtp _ => true
  | .keyOpEnd => true
  | .keyPendingInstall _ => true
  | .xtsDec => true
  | .gcmEnc => true
  | .gcmDec => true
  | .ccmEnc => true
  | .ccmDec => true
  | .sha256 => true
  | .edVerify => true
  | .jobEnd _ => true
  | .jobAbort _ => true
  | .trngRead => true
  | .trngHealthFail => true
  | .idcode => true
  | .bypass _ => true
  | .chalNonceRequest => true
  | .chalSignature _ _ sig => sig.length = 64
  | .chalNonceExpire => true
  | .chalLockoutEnd => true
  | .debugAuthExpire => true
  | .dbgReqWrite _ => true
  | .dread _ _ => true
  | .dacc _ _ => true
  | .dhalt _ _ _ => true
  | .registerWrite _ _ _ => true
  | .readClear _ _ => true
  | .blkSummaryRead _ => true
  | .repClr => true
  | .subwordRegisterAccess _ _ => true
  | .unmappedAccess _ _ => true
  | .pageAccessDenied _ _ _ => true
  | .lockWrite _ => true
  | .softReset _ => true
  | .blockFreeze _ _ => true
  | .irqPendClear _ _ => true
  | .testStart _ => true
  | .testAbort _ => true
  | .calRewriteStart => true
  | .calRewriteEnd _ => true
  | .calReload => true
  | .erase => true
  | .program => true
  | .flashAbort => true
  | .flashOpEnd _ => true
  | .flashCacheMissSuspend _ => true
  | .sramAccess master _ _ _ _ _ rivals _ _ => rivals.Nodup && rivals.all fun r => r.val != master.val
  | .scrubRead _ _ rivals _ _ => rivals.Nodup
  | .eccInject _ => true
  | .fenceCommit => true
  | .fenceApply levels => levels.length = 4
  | .bwlResWrite _ _ _ => true
  | .mbxPost _ _ _ => true
  | .rxHdrTake _ _ => true
  | .mbxTimeout _ => true
  | .mbxReceiverOff _ => true
  | .mbxReaddress _ _ => true
  | .hostRead _ _ _ => true
  | .hostWrite _ _ ws => ws.length ≤ 65535
  | .hostStatus _ => true
  | .mbxSend _ _ _ _ _ => true
  | .mbxTake _ _ => true
  | .hostBadFrame _ _ => true
  | .hostFrameAbandon _ => true
  | .hostIdleTimeout => true
  | .boundaryLoad _ => true
  | .delayObservationEnd _ => true
  | .holdExpiry => true
  | .checkpointStart => true
  | .ckpt => true
  | .checkpointRecordWrite _ => true
  | .journalFold => true
  | .clear => true
  | .capEdge _ _ _ _ => true
  | .gnssStart front fresh => front.wf && (fresh.map (·.1)).Nodup
  | .antBiasShort _ => true
  | .antBiasRetry _ _ => true
  | .antReclassify _ => true
  | .notchEngage _ _ => true
  | .notchRelease _ => true
  | .jamStay _ => true
  | .assistanceNotice => true
  | .navDataPost _ _ _ => true
  | .gacqStart _ aid => aid.all fun l => (l.map (·.1)).Nodup
  | .gacqAbort _ => true
  | .gacqSearchEnd found => found.length ≤ 32
  | .gfftStart _ => true
  | .gfftAbort _ => true
  | .gfftJobEnd found => found.length ≤ 32
  | .channelEnable _ _ _ _ _ => true
  | .channelPllLock _ => true
  | .channelCoast _ _ => true
  | .channelCoastResume _ _ => true
  | .channelLost _ => true
  | .pvtSolution fix => fix.wf
  | .post _ => true
  | .rtcmReceive => true
  | .gsnapStart _ _ => true
  | .snapshotInterval _ => true
  | .captureBegin => true
  | .gsnapAbort _ _ => true
  | .captureEnd _ _ _ => true
  | .loopModeRequest _ _ => true
  | .windowWrite _ _ _ => true
  | .injectionStart => true
  | .injectionStop => true
  | .capCtrlStart => true
  | .capCtrlAbort => true
  | .supervisionFail _ => true
  | .supervisionRecover _ => true
  | .canEnable => true
  | .canDisable _ => true
  | .txPush => true
  | .txdmaGo => true
  | .canTxAttemptEnd _ _ _ => true
  | .txAbort _ _ _ => true
  | .txDoneRead _ => true
  | .canFrameReceive _ dlc data _ => data.length = min 8 dlc.toNat
  | .w0Read _ => true
  | .w3Read _ => true
  | .ringWrite => true
  | .canBusError _ _ _ => true
  | .recover => true
  | .recoveryEnd => true
  | .announce _ _ _ => true
  | .partnerHeartbeat _ _ order => order.all LipOrder.wf
  | .assignLapse _ => true
  | .partnerLoss _ => true
  | .discover => true
  | .nodeImageLoad => true
  | .btOpen _ _ _ _ => true
  | .btData _ _ data => data.length ≤ 7
  | .btAck _ _ _ _ => true
  | .btEnd _ _ _ => true
  | .btAbort _ => true
  | .btAckTimeout _ => true
  | .btReceiveTimeout _ => true
  | .btHold _ _ => true
  | .report _ _ _ _ _ => true
  | .txGo _ => true
  | .radioAckTimeout _ => true
  | .radioTxEnd _ _ => true
  | .radioFrameReceive _ _ _ psdu _ _ => 1 ≤ psdu.length && psdu.length ≤ 2047
  | .rxPop => true
  | .bcnPost => true
  | .corr _ => true
  | .batt _ => true
  | .battFragmentTimeout _ => true
  | .sched _ => true
  | .schedEntryStart _ _ => true
  | .msg _ => true
  | .time => true
  | .wantedMapNotice => true
  | .need => true
  | .beaconWindow _ => true
  | .listenWindowEnd _ => true
  | .holdAreaReplay _ => true
  | .timeSample _ _ _ _ => true
  | .fieldTimeStep => true
  | .slewStart => true
  | .slewEnd => true
  | .timeSourceTimeout => true
  | .seed _ => true
  | .updOpen => true
  | .updClose => true
  | .updAccept _ _ => true
  | .manifestCheck => true
  | .stageEraseEnd => true
  | .updActivate => true
  | .activationStart _ => true
  | .updDisarm => true
  | .nfcFieldOn => true
  | .nfcFieldOff => true
  | .reqa => true
  | .wupa => true
  | .anticollision _ bits value => bits ≤ 40 && value < 2 ^ bits
  | .select _ uid => uid.length = 5
  | .hlta => true
  | .nfcRead _ => true
  | .nfcWrite _ _ => true
  | .sectorSelect _ => true
  | .auth _ => true
  | .tagBadFrame _ => true
  | .tagCommit => true
  | .tagCommitAbort => true
  | .tagJobTimeout => true
  | .tagPageCommit _ => true
  | .tagWindowWrite _ _ => true
  | .tagRead _ _ _ => true
  | .tagWrite _ _ ws => ws.length ≤ 255
  | .tagStat _ => true
  | .statusAreaCommit => true
  | .summaryCopy => true
  | .authRst => true
  | .eventRaise _ _ _ _ _ _ => true
  | .recordWrite => true
  | .wrGo => true
  | .eventPortWrite _ _ => true
  | .logAppend _ => true
  | .flush => true
  | .clrKeyWrite _ => true
  | .foundClr => true
  | .ledCycleStart => true
  | .ledAck => true
  | .targetedTestStart _ _ => true
  | .targetedTestEnd _ _ _ _ => true
  | .retest _ => true
  | .abortAll => true
  | .safetyFilterChange _ _ => true
  | .tpPulseCheck _ levels => levels.length = 4
  | .discTimeout _ => true
  | .safetyClr _ => true
  | .safetyRestart _ => true
  | .vdd1v8InRange => true
  | .vbatAonLoss => true
  | .buckFault => true
  | .tapReset => true
  | .activationCheckEnd => true

end Sys2Proof
end

