-- ==== Sys2Proof/Safety.lean ====
section
/-! DEFINITION. What statements speak of: canonical stores, the bytes and registers that a command leaves alone, and the
outputs that are held safe. -/

namespace Sys2Proof.Machine

/-- Register file, memories and stored codewords are in canonical form. -/
def StoresOk (regs : RegFile) (mem : Memory) (flips : Store (BitVec 39)) (gnss radio loop : Memory) : Prop :=
  Store.wf (fun _ => (0 : Word)) regs = true ∧ Memory.wf mem = true ∧ Store.wf (fun _ => 0#39) flips = true
    ∧ Store.wf ramDefault gnss = true ∧ Store.wf ramDefault radio = true ∧ Store.wf ramDefault loop = true

/-- The block's stores are in canonical form: equal contents are equal data. -/
def Block.Ok (b : Block) : Prop := StoresOk b.regs b.mem b.flips b.ramGnss b.ramRadio b.ramLoop

def State.Ok (s : State) : Prop := s.blk.Ok

/-- Every byte of memory and of the private RAMs reads as before. -/
def Block.SameMem (b c : Block) : Prop :=
  ∀ a, c.byte a = b.byte a ∧ Store.find ramDefault c.ramGnss a = Store.find ramDefault b.ramGnss a
    ∧ Store.find ramDefault c.ramRadio a = Store.find ramDefault b.ramRadio a
    ∧ Store.find ramDefault c.ramLoop a = Store.find ramDefault b.ramLoop a

/-- Every byte of memory outside the `n` bytes from `lo` reads as before. -/
def Block.SameMemBut (lo n : Nat) (b c : Block) : Prop := ∀ a, a < lo ∨ lo + n ≤ a → c.byte a = b.byte a

/-- Every byte at an address that `p` does not hold of reads as before. -/
def Block.SameOutside (p : Nat → Bool) (b c : Block) : Prop := ∀ a, p a = false → c.byte a = b.byte a

/-- Every byte outside SRAM reads as before. -/
def Block.SameOutsideSram (b c : Block) : Prop := ∀ a, isSram a = false → c.byte a = b.byte a

/-- The named SRAM banks read 0 throughout. -/
def Block.SramCleared (banks : List Nat) (c : Block) : Prop :=
  ∀ a, isSram a = true → banks.contains (bankOf a) = true → c.byte a = 0

/-- Every register field but those of `l` reads as before. -/
def Block.SameRegs (l : List Fld) (b c : Block) : Prop := ∀ f : Fld, (∀ g ∈ l, f.key ≠ g.key) → c.rd f = b.rd f

/-- Every register of a page outside `l` reads as before; a field's key holds its page above the 15 bits of its place. -/
def Block.SamePages (l : List Nat) (b c : Block) : Prop := ∀ f : Fld, f.key / 32768 ∉ l → c.rd f = b.rd f

/-- The frame of a command that stores nothing: registers outside `l` and all memory read as before. -/
def Block.Frame (l : List Fld) (b c : Block) : Prop := b.SameRegs l c ∧ b.SameMem c

/-- What recording an event may write beside the queue (R471): the count of lost events and its interrupt. -/
def evFlds : List Fld := [Reg.LOG.LOST_COUNT, Reg.HDR.IRQ_RAW 0x0B]

/-- What an error of a page may write (R123, R485, R487): the page's `ERR` and `ERR_CNT`, an event's fields, and the
request for its test. -/
def errFlds (page : Nat) : List Fld :=
  [Reg.HDR.ERR page, Reg.HDR.ERR_CNT page, Reg.STEST.PEND_PAGES (page / 32), Reg.STEST.RUN_PAGES (page / 32),
   Reg.HDR.TEST_BUSY page] ++ evFlds

/-- What the flash controller shows of who has it and of its last operation (R146). -/
def flashFlds : List Fld := [Reg.FLASH.OWNER_OWNER, Reg.FLASH.RES_RES]

/-- Another requester than `r` has the flash controller (R146). -/
def Block.flashWaits (b : Block) (r : Nat) : Bool := b.rd Reg.FLASH.OWNER_OWNER != 0 && b.rd Reg.FLASH.OWNER_OWNER != r

/-- Requester `r` waits for the flash controller, and nothing else has changed. -/
def Block.FlashLater (r : Nat) (b c : Block) : Prop :=
  c = { b with flash := { b.flash with waiting := c.flash.waiting } } ∧ c.flash.waiting.contains r = true

/-- Flash work `d` of the part's own waits for its turn (log entry 159), and nothing else has changed. -/
def Block.OwnLater (d : FlashDue) (b c : Block) : Prop :=
  c = { b with flash := { b.flash with due := c.flash.due, waiting := c.flash.waiting } } ∧ c.flash.due.contains d = true

/-- A capture's sample waits for a beat (R319). -/
def Block.sampleHeld (b : Block) : Bool := b.loop.capture.any (·.held.isSome)

/-- The bytes that the waiting sample of a capture takes, and the record's header, which the end of the capture writes (R319). -/
def Block.sampleAt (b : Block) (x : Nat) : Bool :=
  b.loop.capture.any fun k => k.held.isSome && (inRange k.addr 16 x || inRange (k.addr + 16 + 12 * k.count) 12 x)

/-- The queue of events with one more: behind those that it does not precede at the same time (R471). -/
def queueWith (l : List Event) (e : Event) : List Event :=
  l.filter (fun x => !Block.eventAfter e x) ++ e :: l.filter (Block.eventAfter e)

/-- What an access of a master outside SRAM answers: it fails for MAIN and where the map has something else, and otherwise reads
0; one outside the map is recorded with the master's agent (R116). -/
def Block.OutsideSram (master a : Nat) (b c : Block) : Prop :=
  (if master = 5 ∨ isMapped a = true then c.resp.err = true else c.resp.err = false ∧ c.resp.word = 0)
    ∧ (isMapped a = true → c.log = b.log) ∧ (isMapped a = false → b.powered = true → b.log.queue.length < 16 →
      c.log.queue = queueWith b.log.queue {
        code := 0x0C, source := codeSource (masterAgent master), arg0 := a % 2 ^ 32, arg1 := masterAgent master
        time := b.ft, era := b.era })

/-- An access outside `a`'s reach is recorded once, with the address or the page it went to (R19, R116); while the queue of
events is full it is counted as lost. -/
def Block.AccessRecorded (a : Actor) (what : Nat) (b c : Block) : Prop :=
  b.Frame evFlds c ∧ c.log.queue = if b.log.queue.length < 16 then
    queueWith b.log.queue {
      code := 0x0C, source := agentSource a, arg0 := what, arg1 := a.code, time := b.ft, era := b.era }
  else b.log.queue

/-- A read of page `p` by `a` (R18, R19): none by DEBUG at NONE, LOOP or HOST; one outside the agent's pages reads 0 and is
recorded; `P` says what any other one does. -/
def Block.ReadBy (a : Actor) (p : Nat) (b c : Block) (P : Prop) : Prop :=
  if b.powered = false ∨ (a = .debug ∧ b.level = 0) ∨ a = .loop ∨ a = .host then c = b
  else if pageAllowed a p false = false then c.resp.word = 0 ∧ b.AccessRecorded a p c
  else P

/-- A command that writes page `p` for `a` (R18, R19): LOOP and HOST reach no page; a core's access outside its pages is
recorded, for MAIN's use once the block is powered; `P` says what any other one does. -/
def Block.WrittenBy (a : Actor) (p : Nat) (b c : Block) (P : Prop) : Prop :=
  if pageAllowed a p true = true then P
  else if a = .loop ∨ a = .host then c = b
  else c.resp.word = 0 ∧ b.Frame evFlds c ∧ (b.powered = true → b.AccessRecorded a p c)

/-- The pages of blocks whose domain starts or stops beside a capture (Table MODE-1): none, where each mode's domains already
run and a capture needs no other. -/
def Block.domainPages (b : Block) : List Nat :=
  if b.showDomains = b ∧ b.mode ≠ .snapshot ∧ b.mode ≠ .dark then []
  else [0x01, 0x24, 0x26, 0x27, 0x28, 0x29, 0x2A] ++ (List.range 12).map (· + 0x14)

/-- The tag hears a frame: out of a field it is silent anyway, and in one while its domain runs (Table CLK-1). -/
def Block.nfcHears (b : Block) : Bool := b.tag.state == .off || b.running 8

/-- The tag stays silent: no answer, and nothing changes. -/
def Block.NfcSilent (b c : Block) : Prop := c.resp.bytes = [] ∧ c.tag = b.tag ∧ b.Frame [] c

/-- A frame of the host port with a good CRC (R175, R177): nothing while the port is closed; otherwise it is counted, HOST is
alive, and the answer begins with the status byte. A frame that meets a WRITE still executing ends BUSY and does no more;
`P` says what any other one does. -/
def Block.HostFramed (early : Bool) (b c : Block) (P : Prop) : Prop :=
  if b.hostOpen = false then c.resp.bytes = [] ∧ b.Frame [] c
  else c.rd Reg.HOST.HSTAT_ALIVE = 1
    ∧ c.rd Reg.HOST.FRAMES_COUNT = min (2 ^ 16 - 1) (b.rd Reg.HOST.FRAMES_COUNT + 1)
    ∧ c.resp.bytes.head? = some (BitVec.ofNat 8 (b.hostBegin early).hostStatusByte)
    ∧ (if early = true ∧ b.is Reg.HOST.HSTAT_BUSY = true then
        c.rd Reg.HOST.HSTAT_LAST = 7 ∧ c.resp.bytes.length = 1 ∧ b.SameMem c ∧ c.tag = b.tag
      else P)

/-- What a mailbox shows of a held notice (R170). -/
def mbxFlds (n : Nat) : List Fld :=
  [Reg.MBX.MSTAT_FULL n, Reg.MBX.RX_PTR_PTR n, Reg.MBX.RX_HDR_LEN n, Reg.MBX.RX_HDR_TAG n, Reg.MBX.RX_HDR_SENDER n]

/-- What a module shows of its legs' dead times (R279). -/
def dtFlds (m : Nat) : List Fld := (List.range (pwmLegs m)).flatMap fun l =>
  [Reg.PWM.DT_STAT_RISE m l, Reg.PWM.DT_STAT_FALL m l, Reg.PWM.DT_STAT_CONV m l, Reg.PWM.DT_STAT_SLOW m l]

/-- Command `i` completes on block `b`: with any queue, `exec` answers a next state, with the queue as it was, whose block
`P` describes. -/
def Completes (i : Instr) (b : Block) (P : Block → Prop) : Prop :=
  ∀ q : List Instr, ∃ c : Block, exec i { blk := b, pending := q } = .next { blk := c, pending := q } ∧ P c

/-- Frames that wait to be sent, in order: the queue, then what the LIP service holds back (R343). -/
def Block.waiting (b : Block) : List TxEntry := b.can.queue ++ b.lip.outbox

/-- The PSDU that stands in `RAD.TX_BUF`. -/
def Block.txPsdu (b : Block) : List Byte :=
  ((List.range 64).flatMap fun i => leBytes 4 (b.rd (Reg.RAD.TX_BUF_DATA i))).take (b.rd Reg.RAD.TX_CTL_LEN)

/-- The link frame type of a PSDU (Tables RAD-2 and RAD-4). -/
def Block.linkType (psdu : List Byte) : Nat := ((psdu.drop (Block.auxAt (Block.isUni psdu) + 6)).headD 0).toNat

/-- A received PSDU without its FCS, and whether the FCS is good (R396, R421). -/
def Block.bare (raw : List Byte) : List Byte := raw.take (raw.length - 4)
def Block.fcsGood (raw : List Byte) : Bool := 4 ≤ raw.length && crc32 (Block.bare raw) = leValue (raw.drop (raw.length - 4))

/-- A good PSDU that is no data frame of the part's PAN (R398): frame control, length, PAN, and a broadcast's destination. -/
def Block.malformed (b : Block) (p : List Byte) : Bool :=
  (leValue (p.take 2) != 0xDC69 && leValue (p.take 2) != 0xD849) || p.length < Block.auxAt (Block.isUni p) + 11
    || leValue ((p.drop 3).take 2) != b.rd Reg.RAD.PAN_ID || (!Block.isUni p && leValue ((p.drop 5).take 2) != 0xFFFF)

/-- A unicast frame for another address. -/
def Block.elsewhere (b : Block) (p : List Byte) : Bool := Block.isUni p && leValue ((p.drop 5).take 8) != b.uid

/-- The radio key that a key index selects, a pending rewrite of a free slot taken first (R107, R399). -/
def Block.radioKey (b : Block) (idx : Nat) : Option (List Byte) :=
  if idx = 1 ∨ idx = 2 then (b.takeKey (if idx = 1 then 3 else 4)).2 else none

/-- Source address, frame counter and key index of a secured PSDU (Table RAD-2). -/
def Block.srcOf (p : List Byte) : Nat := leValue ((p.drop (Block.auxAt (Block.isUni p) - 8)).take 8)
def Block.fcOf (p : List Byte) : Nat := leValue ((p.drop (Block.auxAt (Block.isUni p) + 1)).take 4)
def Block.keyIndexOf (p : List Byte) : Nat := ((p.drop (Block.auxAt (Block.isUni p) + 5)).headD 0).toNat

/-- The link frame that a PSDU opens to under the key its key index selects (R399). -/
def Block.opened (b : Block) (p : List Byte) : Option (List Byte) :=
  (b.radioKey (Block.keyIndexOf p)).bind fun key =>
    Crypto.ccmDecrypt (key.take 16) (Block.radioNonce (Block.srcOf p) (Block.fcOf p)) (p.take (Block.auxAt (Block.isUni p) + 6))
      ((p.drop (Block.auxAt (Block.isUni p) + 6)).take (p.length - Block.auxAt (Block.isUni p) - 10)) (p.drop (p.length - 4))

/-- The bit of `SYS.RESET_CAUSE` that names a cause (Table SYS-1). -/
def causeFld : ResetCause → Fld
  | .main => Reg.SYS.RESET_CAUSE_MAIN_RST
  | .sw => Reg.SYS.RESET_CAUSE_SW
  | .debug => Reg.SYS.RESET_CAUSE_DEBUG

/-- The outputs of all four modules are forced. -/
def Block.AllForced (c : Block) : Prop := ∀ m ∈ List.range 4, c.is (Reg.HDR.PWM_FORCED m) = true

/-- Every module with a forcing source shows its outputs forced to their safe levels (R271). -/
def Block.OutputsSafe (b : Block) : Prop :=
  ∀ m, m < 4 → b.pwmSource m = true → b.is (Reg.HDR.PWM_FORCED m) = true

end Sys2Proof.Machine
end

