-- ==== Sys2Proof/Certificates/Slice0/Obligations.lean ====
section
/-! DEFINITION. The statements about this model. A command's statement says that it completes on every block, with what it
then leaves: `Completes i b P` has `exec i` answer a next state whose queue is as before and whose block `P` describes. -/

open Sys2Proof Sys2Proof.Machine

/-- A step takes the command at the front of the queue and runs it with the queue's rest, and every command answers a next
state with that rest still waiting; with nothing waiting the block idles (the model's choice, log entry 2). -/
def Obligations.StepRunsFront : Prop :=
  (∀ (i : Instr) (q : List Instr) (b : Block), step { blk := b, pending := i :: q } = exec i { blk := b, pending := q })
    ∧ (∀ (i : Instr) (s : State), ∃ c : Block, exec i s = .next { blk := c, pending := s.pending })
    ∧ ∀ b : Block, step { blk := b, pending := [] } = .next { blk := b, pending := [] }

/-- After reset: the page enable of TICK and the position, UPD, TIME, RADIO and mailbox registers named here at the values of
the chapters' page tables, nothing queued, and the stores in canonical form. That the part stands in WAKE is the model's
choice (log entry 4). -/
def Obligations.ResetState : Prop :=
  State.Ok State.reset ∧ State.reset.pending = []
    ∧ State.reset.blk.rd (Reg.HDR.EN 0x03) = 1 ∧ State.reset.blk.rd Reg.TICK.POS_DRIP = 0
    ∧ State.reset.blk.rd Reg.TICK.POS_POOL = 0 ∧ State.reset.blk.rd Reg.TICK.POS_EPOCH = 0
    ∧ State.reset.blk.rd Reg.UPD.USTAT_STATE = 0 ∧ State.reset.blk.rd Reg.UPD.CFG_AUTH = 1
    ∧ State.reset.blk.rd Reg.TIME.CFG_GNSS_TO = 0x0A ∧ State.reset.blk.rd Reg.RAD.PAN_ID = 0xFFFF
    ∧ (∀ n ∈ List.range 16, State.reset.blk.heldNotice n = none) ∧ State.reset.blk.mode = .wake

/-- The stores stay in canonical form: whatever the command, a step leaves registers, memories and stored codewords canonical,
so that equal contents are equal states. What an unlisted byte reads as is the model's choice (log entry 5). -/
def Obligations.StepKeepsOk : Prop := ∀ s t : State, s.Ok → step s = .next t → t.Ok

/-- R134: the CRC-16 begins at 0xFFFF, takes each byte into its high end and shifts it out most significant bit first under
the polynomial 0x1021, without reflection and without a final XOR; its check value is 0x29B1. -/
def Obligations.Crc16 : Prop :=
  crc16 [] = 0xFFFF
    ∧ (∀ (bs : List Byte) (d : Byte), crc16 (bs ++ [d])
        = ((List.range 8).foldl (fun (c : BitVec 16) _ => if c.msb then (c <<< 1) ^^^ 0x1021#16 else c <<< 1)
            (BitVec.ofNat 16 (crc16 bs) ^^^ (d.zeroExtend 16 <<< 8))).toNat)
    ∧ crc16 [0x31, 0x32, 0x33, 0x34, 0x35, 0x36, 0x37, 0x38, 0x39] = 0x29B1

/-- R112: PROG_OTP to KS01 or KS05 with a programmed record is REFUSED, and neither OTP nor any other memory changes. -/
def Obligations.OtpKeysFixed : Prop :=
  ∀ n : Fin 32, n.val = 1 ∨ n.val = 5 → ∀ b : Block, b.recorded n.val 0 = true → b.is Reg.KEY.OP_STAT_BUSY = false →
    Completes (.progOtp n) b fun c =>
      c.rd Reg.KEY.OP_STAT_RES = 2 ∧ b.Frame [Reg.KEY.OP_STAT_RES] c ∧ c.sec.keyOp = b.sec.keyOp

/-- Mailboxes (R170 to R174, R178). A post by any agent but the sender of `CFG` is an error and changes no mailbox; one toward
a receiver that is off is discarded with TMO and DROP; any other is held, shown in the receiver's registers and rings the
receiver's doorbell, on HOST_IRQ where that is HOST, and one over an unread notice sets COLL. A post waits while its sender's
writes to SRAM have not completed. HOST and LOOP reach no register of the page. A read of `RX_HDR` answers the notice, and
only the receiver's own read empties the mailbox. A notice that has been held for `CFG.TMO` drip edges sets TMO once. A
receiver that is off shows RX_OFF, and what is held for it is discarded. The operands, that a command out of its moment
changes nothing, and the readings of log entries 1, 11, 70 and 71 are the model's choice. -/
def Obligations.MailboxCommands : Prop :=
  (∀ (actor : Actor) (n : Fin 16) (hdr : Word) (b : Block), Completes (.mbxPost actor n hdr) b fun c =>
    if b.mbxServes actor true = false then c = b
    else if b.rd (Reg.MBX.CFG_SENDER n) ≠ actor.code then
      (c.rd (Reg.HDR.ERR 0x09)).testBit 0 = true ∧ b.Frame (errFlds 0x09) c ∧ c.mbx = b.mbx
    else if ((List.range 10).any fun m => masterAgent m == actor.code && b.writing m) = true then
      c.sram.posts.length = b.sram.posts.length + 1 ∧ c = { b with sram := { b.sram with posts := c.sram.posts } }
    else if b.receiverOff (b.rd (Reg.MBX.CFG_RECEIVER n)) then
      c.rd (Reg.MBX.MSTAT_FULL n) = 0 ∧ c.heldNotice n = none ∧ c.rd (Reg.MBX.MSTAT_TMO n) = 1
        ∧ c.rd (Reg.MBX.MSTAT_DROP n) = 1 ∧ (b.mbxMain n = true → (c.rd (Reg.HDR.IRQ_RAW 0x09)).testBit n = true)
        ∧ b.Frame (mbxFlds n ++ [Reg.MBX.MSTAT_TMO n, Reg.MBX.MSTAT_DROP n, Reg.HDR.IRQ_RAW 0x09]) c
    else
      c.rd (Reg.MBX.MSTAT_FULL n) = 1 ∧ c.rd (Reg.MBX.RX_PTR_PTR n) = b.rd (Reg.MBX.TX_PTR_PTR n) / 4 * 4
        ∧ c.rd (Reg.MBX.RX_HDR_LEN n) = hdr.toNat % 2 ^ 16 ∧ c.rd (Reg.MBX.RX_HDR_TAG n) = hdr.toNat / 2 ^ 16 % 2 ^ 8
        ∧ c.rd (Reg.MBX.RX_HDR_SENDER n) = actor.code
        ∧ (n.val < b.mbx.length → (c.heldNotice n).any (fun x => x.posted == b.edges && !x.timed) = true)
        ∧ c.bell (b.rd (Reg.MBX.CFG_RECEIVER n)) n = true ∧ (b.rd (Reg.MBX.CFG_RECEIVER n) = 4 → c.hostIrq = true)
        ∧ (b.is (Reg.MBX.MSTAT_FULL n) = true → c.rd (Reg.MBX.MSTAT_COLL n) = 1
            ∧ (b.mbxMain n = true → (c.rd (Reg.HDR.IRQ_RAW 0x09)).testBit (16 + n) = true))
        ∧ (b.is (Reg.MBX.MSTAT_FULL n) = false → b.Frame (mbxFlds n) c)
        ∧ b.Frame (mbxFlds n ++ [Reg.MBX.MSTAT_COLL n, Reg.HDR.IRQ_RAW 0x09]) c)
  ∧ (∀ (actor : Actor) (n : Fin 16) (b : Block), Completes (.rxHdrTake actor n) b fun c =>
    if b.mbxServes actor false = false then c = b
    else c.resp.word = (b.rd (Reg.MBX.RX_HDR_LEN n) + b.rd (Reg.MBX.RX_HDR_TAG n) * 2 ^ 16
        + b.rd (Reg.MBX.RX_HDR_SENDER n) * 2 ^ 24) % 2 ^ 32
      ∧ (if actor ≠ .debug ∧ actor.code = b.rd (Reg.MBX.CFG_RECEIVER n) then
          c.rd (Reg.MBX.MSTAT_FULL n) = 0 ∧ c.heldNotice n = none ∧ b.Frame (mbxFlds n) c
        else c = { b with resp := c.resp }))
  ∧ (∀ (n : Fin 16) (b : Block), Completes (.mbxTimeout n) b fun c =>
    if ((b.heldNotice n).any fun x => !x.timed && decide (x.posted + b.rd (Reg.MBX.CFG_TMO n) ≤ b.edges))
        && !b.receiverOff (b.rd (Reg.MBX.CFG_RECEIVER n)) then
      c.rd (Reg.MBX.MSTAT_TMO n) = 1 ∧ (c.heldNotice n).any (·.timed) = true
        ∧ (b.mbxMain n = true → (c.rd (Reg.HDR.IRQ_RAW 0x09)).testBit n = true)
        ∧ (b.mbxMain n = false → b.Frame [Reg.MBX.MSTAT_TMO n] c)
        ∧ b.Frame [Reg.MBX.MSTAT_TMO n, Reg.HDR.IRQ_RAW 0x09] c
    else c = b)
  ∧ (∀ (n : Fin 16) (b : Block), Completes (.mbxReceiverOff n) b fun c =>
    if b.receiverOff (b.rd (Reg.MBX.CFG_RECEIVER n)) then
      c.rd (Reg.MBX.MSTAT_RX_OFF n) = 1
        ∧ (b.heldNotice n = none → b.Frame [Reg.MBX.MSTAT_RX_OFF n] c)
        ∧ ((b.heldNotice n).isSome = true → c.rd (Reg.MBX.MSTAT_FULL n) = 0 ∧ c.heldNotice n = none
          ∧ c.rd (Reg.MBX.MSTAT_TMO n) = 1 ∧ c.rd (Reg.MBX.MSTAT_DROP n) = 1)
        ∧ b.Frame (mbxFlds n ++ [Reg.MBX.MSTAT_RX_OFF n, Reg.MBX.MSTAT_TMO n, Reg.MBX.MSTAT_DROP n, Reg.HDR.IRQ_RAW 0x09]) c
    else c = b)

/-- Transfers, counter events and fault inputs (R267, R268, R272, R273, R285). A transfer that is due makes the shadow duties
and frequency active together, restarts the counter and leaves a forced module forced while a source stands; where none stands
it releases the module, whose dead times then begin at `DT_MAX`. A request for a transfer stands until it happens, and ends
the hold from an entry into SERVICE. A zero, period or compare event sets the counter and raises its interrupt at the
prescaled rate. A pulse of 20 ns or more at the active level latches the fault and forces each module that has the input
enabled, one below 5 ns does nothing, and between them a free value decides. A latch is cleared only when its input is
inactive and its class is not LASTING; otherwise the write is an error. The operands, that a command out of its moment changes
nothing, and the readings of log entries 1, 11, 12, 22, 144 and 155 are the model's choice. -/
def Obligations.PwmTransfersAndFaults : Prop :=
  (∀ (m : Fin 4) (b : Block), Completes (.pwmTransfer m) b fun c =>
    if b.transferDue m then
      c.rd (Reg.HDR.PWM_LD_PEND m) = 0 ∧ c.rd (Reg.PWM.PER_PER m) = pwmPeriod (b.pwmFreq m) % 2 ^ 16
        ∧ c.rd (Reg.PWM.CNT_CNT m) = 0 ∧ c.rd (Reg.PWM.CNT_DOWN m) = 0
        ∧ (m.val < b.drive.mods.length → (c.pwm m).freq = b.pwmFreq m
            ∧ (c.pwm m).duty = [b.rd (Reg.PWM.DUTY_DUTY m 0), b.rd (Reg.PWM.DUTY_DUTY m 1), b.rd (Reg.PWM.DUTY_DUTY m 2)])
        ∧ (b.is (Reg.PWM.CFG_TLOCK m) = true → c.rd Reg.TICK.CYC_CYC = b.cycle 8184)
        ∧ (b.pwmSource m = true → c.rd (Reg.HDR.PWM_FORCED m) = b.rd (Reg.HDR.PWM_FORCED m))
        ∧ (b.pwmSource m = false → c.rd (Reg.HDR.PWM_FORCED m) = 0 ∧ (b.is (Reg.HDR.PWM_FORCED m) = true →
            ∀ l ∈ List.range (pwmLegs m), c.rd (Reg.PWM.DT_STAT_RISE m l) = b.dtMax m % 2 ^ (Reg.PWM.DT_STAT_RISE m l).width
              ∧ c.rd (Reg.PWM.DT_STAT_FALL m l) = b.dtMax m % 2 ^ (Reg.PWM.DT_STAT_FALL m l).width
              ∧ c.rd (Reg.PWM.DT_STAT_CONV m l) = 0))
        ∧ b.Frame ([Reg.TICK.CYC_CYC, Reg.PWM.PER_PER m, Reg.HDR.PWM_LD_PEND m, Reg.PWM.CNT_CNT m, Reg.PWM.CNT_DOWN m,
            Reg.HDR.PWM_COMM_ON 0, Reg.HDR.PWM_FORCED m] ++ dtFlds m) c
    else c = b)
  ∧ (∀ (m : Fin 4) (b : Block), Completes (.ldall m) b fun c =>
    c.is (Reg.HDR.PWM_LD_PEND m) = true ∧ (b.is (Reg.HDR.PWM_LD_PEND m) = true → c = { b with drive := c.drive })
      ∧ c.drive.svcHold.getD m false = false ∧ b.Frame [Reg.HDR.PWM_LD_PEND m] c)
  ∧ (∀ (m kind : Fin 4) (b : Block), Completes (.pwmCounterEvent m kind) b fun c =>
    if b.pwmCounts m = true
        ∧ (kind.val < 2 ∨ (if kind.val = 2 then (b.pwm m).cmpA else (b.pwm m).cmpB) ≤ b.rd (Reg.PWM.PER_PER m) / 2) then
      c.rd (Reg.PWM.CNT_CNT m) = (if kind.val = 0 then 0 else if kind.val = 1 then b.rd (Reg.PWM.PER_PER m) / 2
          else if kind.val = 2 then (b.pwm m).cmpA else (b.pwm m).cmpB) % 2 ^ 16
        ∧ c.rd (Reg.PWM.CNT_DOWN m) = (if kind.val = 1 then 1 else 0)
        ∧ (if b.rd (Reg.PWM.IRQ_PS m) < (b.pwm m).events.getD kind 0 + 1 then
            (c.rd (Reg.HDR.IRQ_RAW (pwmPage m))).testBit kind = true
              ∧ b.Frame [Reg.PWM.CNT_CNT m, Reg.PWM.CNT_DOWN m, Reg.HDR.IRQ_RAW (pwmPage m)] c
          else b.Frame [Reg.PWM.CNT_CNT m, Reg.PWM.CNT_DOWN m] c)
    else c = b)
  ∧ (∀ (input : Fin 2) (level : Bool) (ns : Nat) (stays : Bool) (b : Block),
      Completes (.faultInput input level ns stays) b fun c =>
    b.SamePages [0x0B, 0x1C, 0x1D, 0x1E, 0x1F, 0x2E] c
      ∧ c.drive.flt = b.drive.flt.set input (if stays then level else !level)
      ∧ (20 ≤ ns ∨ (5 ≤ ns ∧ (Config.freeWord b.free).getLsbD 0 = true) →
          ∀ m ∈ List.range 4, b.fltEnabled m input = true → b.fltActive m input level = true →
          c.is (Reg.HDR.PWM_FLT_LAT m input) = true ∧ c.is (Reg.HDR.PWM_FORCED m) = true
            ∧ (c.rd (Reg.HDR.ERR (pwmPage m))).testBit input = true ∧ (c.rd (Reg.HDR.IRQ_RAW (pwmPage m))).testBit 4 = true)
      ∧ (5 ≤ ns → ns < 20 → (Config.freeWord b.free).getLsbD 0 = false →
          c = { b with drive := c.drive, free := b.free + 1 })
      ∧ (ns < 5 → c = { b with drive := c.drive }) ∧ b.SameMem c)
  ∧ (∀ (m : Fin 4) (input : Fin 2) (b : Block), Completes (.fltclr m input) b fun c =>
    if b.fltActive m input (b.drive.flt.getD input true) || b.isLasting ⟨pwmPage m, input, 0⟩ then
      (c.rd (Reg.HDR.ERR (pwmPage m))).testBit 2 = true ∧ b.Frame (errFlds (pwmPage m)) c
    else c.rd (Reg.HDR.PWM_FLT_LAT m input) = 0 ∧ b.Frame [Reg.HDR.PWM_FLT_LAT m input] c)

/-- Dead time and bootstrap refresh (R277 to R280). In a period of a leg that adapts, both dead times move toward their
targets and `DT_STAT` shows them; four periods in a row within one PWM cycle of both targets show CONV, and a target beyond
`DT_MAX` shows SLOW and is an error when it begins. A leg that has not converged after 64 periods is an error. A leg without
an off interval for `BOOT_MAX` periods takes a refresh pulse, which raises its interrupt. The operands, that a command out of
its moment changes nothing, and the readings of log entries 1, 11, 144 and 162 are the model's choice. -/
def Obligations.PwmLegCommands : Prop :=
  (∀ (m : Fin 4) (leg : Fin 3) (rise fall : Option Nat) (b : Block), Completes (.deadTimeUpdate m leg rise fall) b fun c =>
    let move := Block.dtMove (b.rd (Reg.PWM.DT_DT_MIN m) * 32) (b.dtMax m * 32) (b.rd (Reg.PWM.DTCFG_MARGIN m) * 32)
    let r := move ((b.pwm m).rise.getD leg 0) rise
    let f := move ((b.pwm m).fall.getD leg 0) fall
    if leg.val < pwmLegs m ∧ b.is (Reg.HDR.PWM_FORCED m) = false ∧ b.is (Reg.PWM.DTCFG_ADAPT m) = true
        ∧ b.pwmCounts m = true then
      c.rd (Reg.PWM.DT_STAT_RISE m leg) = r.1 / 32 % 2 ^ (Reg.PWM.DT_STAT_RISE m leg).width
        ∧ c.rd (Reg.PWM.DT_STAT_FALL m leg) = f.1 / 32 % 2 ^ (Reg.PWM.DT_STAT_FALL m leg).width
        ∧ c.rd (Reg.PWM.DT_STAT_CONV m leg)
            = (if r.2.2 = true ∧ f.2.2 = true ∧ 3 ≤ (b.pwm m).inBand.getD leg 0 then 1 else 0)
        ∧ (r.2.1 = true ∨ f.2.1 = true → c.rd (Reg.PWM.DT_STAT_SLOW m leg) = 1 ∧
            (b.is (Reg.PWM.DT_STAT_SLOW m leg) = false → (c.rd (Reg.HDR.ERR (pwmPage m))).testBit 4 = true))
        ∧ (r.2.1 = false → f.2.1 = false → b.Frame [Reg.PWM.DT_STAT_RISE m leg, Reg.PWM.DT_STAT_FALL m leg,
            Reg.PWM.DT_STAT_CONV m leg, Reg.HDR.IRQ_RAW (pwmPage m)] c)
        ∧ b.Frame ([Reg.PWM.DT_STAT_RISE m leg, Reg.PWM.DT_STAT_FALL m leg, Reg.PWM.DT_STAT_CONV m leg,
            Reg.PWM.DT_STAT_SLOW m leg, Reg.HDR.IRQ_RAW (pwmPage m)] ++ errFlds (pwmPage m)) c
    else c = b)
  ∧ (∀ (m : Fin 4) (leg : Fin 3) (b : Block), Completes (.dtConvTimeout m leg) b fun c =>
    if leg.val < pwmLegs m ∧ 64 ≤ (b.pwm m).periods.getD leg 0 ∧ b.is (Reg.PWM.DT_STAT_CONV m leg) = false then
      (c.rd (Reg.HDR.ERR (pwmPage m))).testBit 4 = true ∧ b.Frame (errFlds (pwmPage m)) c
    else c = b)
  ∧ (∀ (m : Fin 4) (leg : Fin 3) (b : Block), Completes (.bootstrapRefresh m leg) b fun c =>
    if leg.val < pwmLegs m ∧ b.is (Reg.PWM.BOOT_EN m) = true ∧ b.is (Reg.HDR.PWM_FORCED m) = false ∧ b.pwmCounts m = true
        ∧ b.rd (Reg.PWM.BOOT_BOOT_MAX m) ≤ (b.pwm m).noOff.getD leg 0 then
      (c.rd (Reg.HDR.IRQ_RAW (pwmPage m))).testBit 7 = true
        ∧ (m.val < b.drive.mods.length → (c.pwm m).refresh.contains (leg.val, false) = true) ∧ b.Frame [Reg.HDR.IRQ_RAW (pwmPage m)] c
    else c = b)

/-- Six-step commutation (R281 to R284). A step advances by one of six, and `LAST` keeps the interval that ended; the timer
without an accepted edge advances the step in the timed mode, counts a miss in the sensed modes, and in the third mode does
both; the sixth miss in a row is an error and forces the module. An edge of the leg that is off, in the expected direction and
after blanking, is accepted and ends a run of misses, and `DLY`/256 of the last interval later the step advances. A write of
`COMM` takes its fields; another mode than the one in force starts at once at `START`, and mode OFF leaves the mask until the
next transfer. The operands, that a command out of its moment changes nothing, and the readings of log entries 1, 11 and 163
are the model's choice. -/
def Obligations.Commutation : Prop :=
  (∀ (us : Nat) (b : Block), Completes (.commTimer us) b fun c =>
    b.SamePages [0x0B, 0x1C, 0x1D, 0x1E, 0x1F, 0x2E] c ∧ (if b.rd (Reg.PWM.COMM_MODE 0) = 0
        ∨ us < b.rd (Reg.PWM.COMM_T_TMR 0) * (b.drive.waited + 1) ∨ b.drive.zcEdge.isSome = true then c = b
    else if b.rd (Reg.PWM.COMM_MODE 0) = 1 ∨ b.offLeg = none then
      c.rd (Reg.PWM.COMM_STAT_STEP 0) = (b.rd (Reg.PWM.COMM_STAT_STEP 0) + 1) % 6
        ∧ c.rd (Reg.PWM.COMM_STAT_LAST 0) = min us 65535 ∧ (c.rd (Reg.HDR.IRQ_RAW 0x1C)).testBit 5 = true
        ∧ b.Frame [Reg.PWM.COMM_STAT_STEP 0, Reg.PWM.COMM_STAT_LAST 0, Reg.HDR.IRQ_RAW 0x1C] c
    else c.drive.misses = b.drive.misses + 1 ∧ b.SameMem c
      ∧ c.rd (Reg.PWM.COMM_STAT_STEP 0) = (if b.rd (Reg.PWM.COMM_MODE 0) = 2 then b.rd (Reg.PWM.COMM_STAT_STEP 0)
          else (b.rd (Reg.PWM.COMM_STAT_STEP 0) + 1) % 6)
      ∧ (b.rd (Reg.PWM.COMM_MODE 0) ≠ 2 → c.rd (Reg.PWM.COMM_STAT_LAST 0) = min us 65535)
      ∧ (b.drive.misses = 5 → (c.rd (Reg.HDR.ERR 0x1C)).testBit 5 = true ∧ c.is (Reg.HDR.PWM_FORCED 0) = true)
      ∧ (b.drive.misses ≠ 5 → b.Frame [Reg.PWM.COMM_STAT_STEP 0, Reg.PWM.COMM_STAT_LAST 0, Reg.PWM.COMM_STAT_MISS 0,
          Reg.HDR.IRQ_RAW 0x1C] c)))
  ∧ (∀ (leg : Fin 3) (rising : Bool) (us : Nat) (b : Block), Completes (.zcEdge leg rising us) b fun c =>
    if 2 ≤ b.rd (Reg.PWM.COMM_MODE 0) ∧ b.offLeg = some leg.val
        ∧ rising = (decide (b.rd (Reg.PWM.COMM_STAT_STEP 0) % 2 = 0) != b.is (Reg.PWM.COMM_DIR 0))
        ∧ b.rd (Reg.PWM.COMM_T_BLANK 0) ≤ us ∧ b.drive.zcEdge = none then
      c = { b with drive := { b.drive with zcEdge := some us, misses := 0 } }
    else c = b)
  ∧ (∀ (us : Nat) (b : Block), Completes (.commStepAdvance us) b fun c =>
    if b.drive.zcEdge.any fun t =>
        decide (t * 256 + b.rd (Reg.PWM.COMM_T_DLY 0) * b.rd (Reg.PWM.COMM_STAT_LAST 0) ≤ us * 256) then
      c.rd (Reg.PWM.COMM_STAT_STEP 0) = (b.rd (Reg.PWM.COMM_STAT_STEP 0) + 1) % 6
        ∧ c.rd (Reg.PWM.COMM_STAT_LAST 0) = min us 65535 ∧ c.drive.zcEdge = none
        ∧ (c.rd (Reg.HDR.IRQ_RAW 0x1C)).testBit 5 = true
        ∧ b.Frame [Reg.PWM.COMM_STAT_STEP 0, Reg.PWM.COMM_STAT_LAST 0, Reg.HDR.IRQ_RAW 0x1C] c
    else c = b)
  ∧ (∀ (w : Word) (b : Block), Completes (.commModeWrite w) b fun c =>
    c.rd (Reg.PWM.COMM_MODE 0) = w.toNat % 4 ∧ c.rd (Reg.PWM.COMM_DIR 0) = w.toNat / 4 % 2
      ∧ c.rd (Reg.PWM.COMM_START 0) = min 5 (w.toNat / 16 % 8)
      ∧ (w.toNat % 4 ≠ 0 → w.toNat % 4 ≠ b.rd (Reg.PWM.COMM_MODE 0) → c.rd (Reg.HDR.PWM_COMM_ON 0) = 1
          ∧ c.rd (Reg.PWM.COMM_STAT_STEP 0) = min 5 (w.toNat / 16 % 8))
      ∧ (w.toNat % 4 = 0 ∨ w.toNat % 4 = b.rd (Reg.PWM.COMM_MODE 0) →
          b.Frame [Reg.PWM.COMM_MODE 0, Reg.PWM.COMM_DIR 0, Reg.PWM.COMM_START 0] c)
      ∧ (w.toNat % 4 = 0 → b.is (Reg.HDR.PWM_COMM_ON 0) = true → c.drive.commOff = true)
      ∧ b.Frame [Reg.PWM.COMM_MODE 0, Reg.PWM.COMM_DIR 0, Reg.PWM.COMM_START 0, Reg.HDR.PWM_COMM_ON 0,
          Reg.PWM.COMM_STAT_STEP 0] c)

/-- The loop engine's drip (R33, R34, R298, R299, R312, R324). Once a drip, from cycle 655 and when the converter's group is
in place, the slots that are due run: the duty registers, and the mode and output of a slot that is not due, stay. At cycle
3,274 the run's duties are written, and a transfer is requested of each module written. A mode request for DISABLED acts at
once and ends an injection on the slot; one for MAN or AUTO is refused with its cause, which is an error, or stands; on a
frozen page it is an error. After a fault latch the AUTO slots whose target lies in a faulted module go to MAN with their last
output, a request for AUTO that waits there is refused, and every other slot keeps its mode. The operands, that a command out
of its moment changes nothing, and the readings of log entries 1, 11, 21, 164 and 166 are the model's choice. -/
def Obligations.LoopEngine : Prop :=
  (∀ b : Block, Completes .loopRun b fun c =>
    if b.agents.loop = true ∧ b.powered = true ∧ b.is Reg.HDR.TICK_FROZEN = false ∧ b.loop.ranAt ≠ some b.now
        ∧ b.notPast 655 = true ∧ b.adcSettled = true then
      c.rd Reg.TICK.CYC_CYC = b.cycle 655 ∧ c.loop.ranAt = some b.now
        ∧ (∀ m ∈ List.range 4, ∀ l ∈ List.range 3, c.rd (Reg.PWM.DUTY_DUTY m l) = b.rd (Reg.PWM.DUTY_DUTY m l))
        ∧ (∀ s ∈ List.range 32, b.slotDue s = false → c.slotCur s = b.slotCur s
            ∧ c.rd (ofSlot Reg.LOOP.MODE_MODE s) = b.rd (ofSlot Reg.LOOP.MODE_MODE s)
            ∧ c.rd (ofSlot Reg.LOOP.OUT_OUT s) = b.rd (ofSlot Reg.LOOP.OUT_OUT s))
        ∧ b.SamePages [0x03, 0x07, 0x09, 0x0A, 0x0B, 0x20, 0x21, 0x22, 0x23, 0x2E] c
        ∧ (b.loop.capture = none → b.SameMem c)
        ∧ (∀ x ∈ b.loop.capture, b.SameMemBut (x.addr / 4 * 4) (12 * x.count + 36) c)
    else c = b)
  ∧ (∀ b : Block, Completes .loopOutputWrite b fun c =>
    if b.loop.ranAt = some b.now ∧ b.loop.wroteAt ≠ some b.now ∧ b.notPast 3274 = true then
      c.rd Reg.TICK.CYC_CYC = b.cycle 3274 ∧ c.loop.wroteAt = some b.now ∧ c.loop.duties = []
        ∧ ((b.loop.duties.all fun d => decide (d.1 < 4 ∧ d.2.1 < 3)) = true →
            (∀ m ∈ List.range 4, ∀ l ∈ List.range 3, c.rd (Reg.PWM.DUTY_DUTY m l) =
              ((b.loop.duties.filter fun d => d.1 == m && d.2.1 == l).getLast?.map
                fun d => d.2.2 % 2 ^ (Reg.PWM.DUTY_DUTY m l).width).getD (b.rd (Reg.PWM.DUTY_DUTY m l)))
            ∧ b.Frame (Reg.TICK.CYC_CYC :: (List.range 4).flatMap fun m => [Reg.HDR.PWM_LD_PEND m, Reg.PWM.DUTY_DUTY m 0,
                Reg.PWM.DUTY_DUTY m 1, Reg.PWM.DUTY_DUTY m 2]) c)
        ∧ (∀ m ∈ List.range 4, (b.loop.duties.any fun d => d.1 = m) = true → c.is (Reg.HDR.PWM_LD_PEND m) = true)
        ∧ b.SameMem c
    else c = b)
  ∧ (∀ (slot : Fin 32) (mode : Fin 4) (b : Block), Completes (.loopModeRequest slot mode) b fun c =>
    if mode.val = 3 then c = b
    else if b.is (Reg.HDR.FREEZE (slotPage slot)) = true then
      (c.rd (Reg.HDR.ERR (slotPage slot))).testBit 2 = true ∧ b.Frame (errFlds (slotPage slot)) c
    else if mode.val = 0 then c.slotCur slot = 0 ∧ c.rd (ofSlot Reg.LOOP.MODE_MODE slot) = 0
      ∧ (b.injectsOn slot false = true → c.loop.inject = none ∧ c.rd Reg.LOOP0.INJ_STAT_RES = 3)
      ∧ b.Frame [ofSlot Reg.LOOP.LSTAT_CUR slot, ofSlot Reg.LOOP.MODE_MODE slot, ofSlot Reg.LOOP.LSTAT_WIDE slot,
          ofSlot Reg.LOOP.LSTAT_INJ slot, Reg.LOOP0.INJ_STAT_RES, Reg.HDR.IRQ_RAW 0x20] c
    else if b.refuseCause slot mode ≠ 0 then
      c.rd (ofSlot Reg.LOOP.LSTAT_REFUSE slot) = b.refuseCause slot mode
        ∧ c.rd (ofSlot Reg.LOOP.MODE_MODE slot) = b.slotCur slot % 4
        ∧ (c.rd (Reg.HDR.ERR (slotPage slot))).testBit 2 = true
        ∧ b.Frame ([ofSlot Reg.LOOP.LSTAT_REFUSE slot, ofSlot Reg.LOOP.MODE_MODE slot] ++ errFlds (slotPage slot)) c
    else c.rd (ofSlot Reg.LOOP.MODE_MODE slot) = mode.val ∧ c.rd (ofSlot Reg.LOOP.LSTAT_REFUSE slot) = 0
      ∧ b.Frame [ofSlot Reg.LOOP.MODE_MODE slot, ofSlot Reg.LOOP.LSTAT_REFUSE slot] c)
  ∧ (∀ b : Block, Completes .faultSlotMan b fun c =>
    c.drive.latched = [false, false, false, false]
      ∧ (∀ s ∈ List.range 32,
          if ((Block.targetLegs (if b.isPair (s / 2) then 8 else b.slotTarget s)).any
              fun e => b.drive.latched.getD e.1 false) = true then
            (b.slotCur s = 2 → c.slotCur s = 1 ∧ c.rd (ofSlot Reg.LOOP.MAN_OUT_OUT s) = b.rd (ofSlot Reg.LOOP.OUT_OUT s)
              ∧ (c.rd (Reg.HDR.IRQ_RAW (slotPage s))).testBit (8 + s % 8) = true)
            ∧ (b.slotCur s ≠ 2 → b.rd (ofSlot Reg.LOOP.MODE_MODE s) = 2 →
                c.rd (ofSlot Reg.LOOP.LSTAT_REFUSE s) = 4 ∧ c.rd (ofSlot Reg.LOOP.MODE_MODE s) = b.slotCur s)
          else c.slotCur s = b.slotCur s ∧ c.rd (ofSlot Reg.LOOP.MODE_MODE s) = b.rd (ofSlot Reg.LOOP.MODE_MODE s))
      ∧ b.SamePages [0x0B, 0x20, 0x21, 0x22, 0x23, 0x2E] c ∧ b.SameMem c)

/-- Test injection and response capture (R318, R319). An injection starts only in SERVICE, and at the setpoint only of an AUTO
slot, with the slot, point and generator that its registers give; a stop ends a running one with its code and interrupt. A
capture starts when none runs, from its registers and with no sample; an abort of a running one ends it with its code and
interrupt, shows its count, and stores nowhere but in the header's words. The operands, that a command out of its moment
changes nothing, and the readings of log entries 1, 11 and 167 are the model's choice. -/
def Obligations.LoopInjectionAndCapture : Prop :=
  (∀ b : Block, Completes .injectionStart b fun c =>
    c.rd Reg.LOOP0.INJ_STAT_RES = (if b.mode ≠ .service
        ∨ (b.rd Reg.LOOP0.INJ_CFG_POINT = 0 ∧ b.slotCur (b.rd Reg.LOOP0.INJ_CFG_SLOT) ≠ 2) then 4 else 1)
      ∧ (c.rd Reg.LOOP0.INJ_STAT_RES = 1 → (c.loop.inject.any fun i => i.slot == b.rd Reg.LOOP0.INJ_CFG_SLOT
          && i.point == b.rd Reg.LOOP0.INJ_CFG_POINT && i.kind == b.rd Reg.LOOP0.INJ_CFG_KIND && i.run == 0) = true)
      ∧ (c.rd Reg.LOOP0.INJ_STAT_RES = 4 → c.loop.inject = b.loop.inject)
      ∧ b.Frame [Reg.LOOP0.INJ_STAT_RES] c)
  ∧ (∀ b : Block, Completes .injectionStop b fun c =>
    (∀ i ∈ b.loop.inject,
        c.loop.inject = none ∧ c.rd Reg.LOOP0.INJ_STAT_RES = 2 ∧ c.rd (ofSlot Reg.LOOP.LSTAT_INJ i.slot) = 0
          ∧ (c.rd (Reg.HDR.IRQ_RAW 0x20)).testBit 17 = true
          ∧ b.Frame [ofSlot Reg.LOOP.LSTAT_INJ i.slot, Reg.LOOP0.INJ_STAT_RES, Reg.HDR.IRQ_RAW 0x20] c)
      ∧ (b.loop.inject = none → c = b))
  ∧ (∀ b : Block, Completes .capCtrlStart b fun c =>
    if b.loop.capture.isSome then c = b
    else (c.loop.capture.any fun x => x.slot == b.rd Reg.LOOP0.CAP_CFG_SLOT && x.addr == b.rd Reg.LOOP0.CAP_ADDR_ADDR
          && x.n == min 4096 (max 1 (b.rd Reg.LOOP0.CAP_CFG_N)) && x.dec == b.rd Reg.LOOP0.CAP_CFG_DEC && x.count == 0) = true
      ∧ c.rd Reg.LOOP0.CAP_STAT_RES = 1 ∧ c.rd Reg.LOOP0.CAP_STAT_COUNT = 0
      ∧ b.Frame [Reg.LOOP0.CAP_STAT_RES, Reg.LOOP0.CAP_STAT_COUNT] c)
  ∧ (∀ b : Block, Completes .capCtrlAbort b fun c =>
    (∀ x ∈ b.loop.capture,
        c.loop.capture = none ∧ c.rd Reg.LOOP0.CAP_STAT_RES = 4
          ∧ c.rd Reg.LOOP0.CAP_STAT_COUNT = x.count % 2 ^ Reg.LOOP0.CAP_STAT_COUNT.width
          ∧ (c.rd (Reg.HDR.IRQ_RAW 0x20)).testBit 16 = true
          ∧ b.SamePages [0x07, 0x09, 0x0A, 0x0B, 0x20, 0x2E] c ∧ b.SameMemBut (x.addr / 4 * 4) 20 c)
      ∧ (b.loop.capture = none → c = b))

/-- Supervision (R321, R323). `N` samples out of band mark an enabled slot, raise its interrupt and an error, take an AUTO
slot to MAN, and put `OPEN_OUT`, between the limits, into `MAN_OUT` where the action asks for it; `N` samples within the band
clear the mark and leave the mode. Each counts one report and stores nowhere but in the report's place in the ring. The
operands, that a command out of its moment changes nothing, and the readings of log entries 1, 11 and 165 are the model's
choice. -/
def Obligations.LoopSupervision : Prop :=
  (∀ (slot : Fin 32) (b : Block), Completes (.supervisionFail slot) b fun c =>
    if b.rd (Reg.LW.SUPV_N_N slot) ≤ (b.slot slot).bad ∧ b.slotCur slot ≠ 0
        ∧ b.is (ofSlot Reg.LOOP.LSTAT_SUPV_FAIL slot) = false then
      c.rd (ofSlot Reg.LOOP.LSTAT_SUPV_FAIL slot) = 1 ∧ (c.rd (Reg.HDR.IRQ_RAW (slotPage slot))).testBit (slot.val % 8) = true
        ∧ (c.rd (Reg.HDR.ERR (slotPage slot))).testBit 1 = true
        ∧ c.slotCur slot = (if b.slotCur slot = 2 then 1 else b.slotCur slot)
        ∧ c.rd (ofSlot Reg.LOOP.MAN_OUT_OUT slot) = (if 2 ≤ b.rd (Reg.LW.CFG_ACTION slot) then unsignedOf 32 (b.openOut slot)
            else if b.slotCur slot = 2 then b.rd (ofSlot Reg.LOOP.OUT_OUT slot) else b.rd (ofSlot Reg.LOOP.MAN_OUT_OUT slot))
        ∧ c.loop.reports = b.loop.reports + 1
        ∧ b.SamePages [0x07, 0x09, 0x0A, 0x0B, 0x20, 0x21, 0x22, 0x23, 0x2E] c
        ∧ b.SameMemBut ((b.rd Reg.LOOP0.SUPV_ADDR_ADDR + 16 * (b.loop.reports % 8)) / 4 * 4) 20 c
    else c = b)
  ∧ (∀ (slot : Fin 32) (b : Block), Completes (.supervisionRecover slot) b fun c =>
    if b.rd (Reg.LW.SUPV_N_N slot) ≤ (b.slot slot).good ∧ b.is (ofSlot Reg.LOOP.LSTAT_SUPV_FAIL slot) = true then
      c.rd (ofSlot Reg.LOOP.LSTAT_SUPV_FAIL slot) = 0 ∧ c.slotCur slot = b.slotCur slot
        ∧ c.loop.reports = b.loop.reports + 1
        ∧ b.SamePages [0x07, 0x09, 0x0A, 0x0B, 0x20, 0x21, 0x22, 0x23, 0x2E] c
        ∧ b.SameMemBut ((b.rd Reg.LOOP0.SUPV_ADDR_ADDR + 16 * (b.loop.reports % 8)) / 4 * 4) 20 c
    else c = b)

/-- The converter (R286 to R289, R559). A complete group, once a drip and before its window ends, puts the code and the
corrected value of each channel whose core has not failed into its result, no longer stale, leaves the others, and stores
nowhere but in one ring entry. A core's first failure in a drip makes its channels stale and is an error; where neither has
failed yet it is the block's overrun too. `EN` is cleared in SERVICE alone, which makes every channel stale. The operands,
that a command out of its moment changes nothing, and the readings of log entries 1, 11, 21 and 93 are the model's choice. -/
def Obligations.AdcCommands : Prop :=
  (∀ (codes : List (BitVec 12)) (b : Block), Completes (.adcGroupComplete codes) b fun c =>
    if b.adcDue = true then
      c.rd Reg.TICK.CYC_CYC = b.cycle 655 ∧ c.adc.done = true ∧ (c.rd (Reg.HDR.IRQ_RAW 0x24)).testBit 0 = true
        ∧ (∀ n ∈ List.range 16, b.coreFailed n = false →
            c.rd (Reg.ADC.RESN_RAW n) = (codes.map (·.toNat)).getD n 0 ∧ c.rd (Reg.ADC.RESN_STALE n) = 0
              ∧ c.rd (Reg.ADC.RESN_CORR n) = unsignedOf (Reg.ADC.RESN_CORR n).width (b.corrected n ((codes.map (·.toNat)).getD n 0)))
        ∧ (∀ n ∈ List.range 16, b.coreFailed n = true → c.rd (Reg.ADC.RESN_RAW n) = b.rd (Reg.ADC.RESN_RAW n)
            ∧ c.rd (Reg.ADC.RESN_CORR n) = b.rd (Reg.ADC.RESN_CORR n) ∧ c.rd (Reg.ADC.RESN_STALE n) = b.rd (Reg.ADC.RESN_STALE n))
        ∧ b.SamePages [0x02, 0x03, 0x07, 0x0A, 0x0B, 0x24, 0x2E] c
        ∧ (b.is Reg.ADC.DMA_EN = true →
            b.SameMemBut ((b.rd Reg.ADC.DMA_ADDR_ADDR + 32 * b.rd Reg.ADC.DMA_HEAD) / 4 * 4) 36 c)
        ∧ (b.is Reg.ADC.DMA_EN = false → b.SameMem c)
    else c = b)
  ∧ (∀ (coreB : Bool) (b : Block), Completes (.adcConversionFail coreB) b fun c =>
    if b.adcDue = true ∧ (if coreB then b.adc.failB else b.adc.failA) = false then
      (∀ n ∈ List.range 16, c.rd (Reg.ADC.RESN_STALE n) = if n % 2 = bit coreB then 1 else b.rd (Reg.ADC.RESN_STALE n))
        ∧ (c.rd (Reg.HDR.ERR 0x24)).testBit (bit coreB) = true ∧ (if coreB then c.adc.failB else c.adc.failA) = true
        ∧ (b.adc.failA = false → b.adc.failB = false → b.tick.overran.contains .adc = false →
            c.rd Reg.TICK.OVR_ADC = 1 ∧ c.rd (Reg.HDR.TICK_DEGRADE 0) = 1)
        ∧ b.SamePages [0x03, 0x0B, 0x24, 0x2E] c ∧ b.SameMem c
    else c = b)
  ∧ (∀ b : Block, Completes .adcDisable b fun c =>
    if b.mode = .service then
      c.rd (Reg.HDR.EN 0x24) = 0 ∧ (∀ n ∈ List.range 16, c.rd (Reg.ADC.RESN_STALE n) = 1)
        ∧ b.Frame (Reg.HDR.EN 0x24 :: (List.range 16).map Reg.ADC.RESN_STALE) c
    else c = b)

/-- The gallery's pool (R37, R188, R199, R200, R214). The drip-9 latch takes the configuration, the copied boundary and the
pulse inputs; a section is then available when it is enabled, its boom node is assigned and ready, and no other enabled
section has its output, and an unavailable one is planned closed and, unless the leaving sequence has closed all, effective
closed. The evaluation, from drip 10 to drip 89, decides only for available sections, by the rule of each section, and
commands nothing; at drip 89 it leaves out those that the window missed, which is an overrun. The drip-90 latch turns the
decisions into the plan and gives each assigned, ready boom node one switch drip and one map of its open outputs, and closes
every planned section when FIELD is being left or a safe action is in force. The operands, that a command out of its moment
changes nothing, and the readings of log entries 1, 11, 77, 78, 80 and 153 are the model's choice. -/
def Obligations.GalleryPool : Prop :=
  (∀ b : Block, Completes .galleryInputLatch b fun c =>
    if b.galRuns = true ∧ b.drip = 9 ∧ b.gal.latched = false ∧ b.powered = true then
      c.gal.latched = true ∧ c.gal.bnd = b.gal.bndNew ∧ (c.rd (Reg.HDR.IRQ_RAW 0x10)).testBit 0 = true
        ∧ (∀ f : Fld, f.key / 32768 ∈ [0x10, 0x11, 0x12, 0x13] → c.cf f = b.rd f)
        ∧ (∀ n ∈ List.range 4, c.pulseOf n
            = (b.rd (Reg.CAP.COUNT_COUNT n), b.rd (Reg.CAP.PERIOD_US n), b.cap.last.getD n none))
        ∧ (∀ s ∈ List.range 256, c.secBit Reg.GAL.AVAIL_MAP s =
            (b.is (Block.ofSec Reg.GAL.SMAP_EN s) && b.nodeReady (b.rd (Block.ofSec Reg.GAL.SMAP_NODE s))
              && !((List.range 256).any fun x => x != s && b.is (Block.ofSec Reg.GAL.SMAP_EN x)
                && b.rd (Block.ofSec Reg.GAL.SMAP_NODE x) == b.rd (Block.ofSec Reg.GAL.SMAP_NODE s)
                && b.rd (Block.ofSec Reg.GAL.SMAP_OUT x) == b.rd (Block.ofSec Reg.GAL.SMAP_OUT s))))
        ∧ (∀ s ∈ List.range 256, c.secBit Reg.GAL.AVAIL_MAP s = false →
            c.secBit Reg.GAL.PLAN_MAP s = false
              ∧ ((b.md.leaving.any fun l => decide (2 ≤ l.stage)) = false → c.secBit Reg.GAL.EFF_MAP s = false))
        ∧ b.SamePages [0x0B, 0x10, 0x11, 0x12, 0x13, 0x2E] c ∧ b.SameMem c
    else c = b)
  ∧ (∀ (cycles : BitVec 21) (missed : List (Fin 256)) (b : Block), Completes (.galleryEvaluation cycles missed) b fun c =>
    let todo (s : Nat) : Bool := b.secBit Reg.GAL.AVAIL_MAP s && (!b.galDegraded || s % 2 = b.pool % 2)
    let evaluated (s : Nat) : Bool := todo s && !(b.drip == 89 && (missed.map (·.val)).contains s)
    if b.mode = .field ∧ b.md.leaving = none ∧ b.gal.latched = true ∧ b.gal.evaluated = false ∧ 10 ≤ b.drip ∧ b.drip ≤ 89
        ∧ b.is Reg.GAL0.MAPSTAT_RESTORED = true then
      c.gal.evaluated = true
        ∧ c.rd Reg.TICK.GAL_PEAK_PEAK = max (b.rd Reg.TICK.GAL_PEAK_PEAK) cycles.toNat % 2 ^ 21
        ∧ (∀ d ∈ c.gal.decided, d.1 < 256 ∧ evaluated d.1 = true)
        ∧ (∀ s ∈ List.range 256, evaluated s = true → (b.gal.probes.any (·.1 == s)) = false →
            ∀ d ∈ b.decideSec s, (s, d.1, d.2) ∈ c.gal.decided)
        ∧ (b.drip = 89 → (∃ s ∈ missed, todo s = true) → b.tick.overran.contains .gal = false →
            c.is (Block.ovrField .gal) = true ∧ (c.rd (Reg.HDR.ERR 0x03)).testBit 0 = true)
        ∧ (∀ k ∈ List.range 4, ∀ i ∈ List.range 2, c.rd (Reg.GAL.PLAN_MAP k i) = b.rd (Reg.GAL.PLAN_MAP k i)
            ∧ c.rd (Reg.GAL.EFF_MAP k i) = b.rd (Reg.GAL.EFF_MAP k i))
        ∧ b.SamePages [0x03, 0x07, 0x08, 0x0A, 0x0B, 0x10, 0x2E] c ∧ b.SameMem c
    else c = b)
  ∧ (∀ b : Block, Completes .sectionCommandLatch b fun c =>
    if b.galRuns = true ∧ b.drip = 90 ∧ b.powered = true then
      c.gal.decided = [] ∧ c.gal.cmds.map (·.1) = ((List.range 64).map (· + 0x10)).filter b.nodeReady
        ∧ (b.md.leaving.isSome = true ∨ b.safeActing = true → ∀ s ∈ List.range 256, c.secBit Reg.GAL.PLAN_MAP s = false)
        ∧ (b.md.leaving = none → b.safeActing = false → (b.gal.decided.map (·.1)).Nodup → ∀ s ∈ List.range 256,
            c.secBit Reg.GAL.PLAN_MAP s = (b.secBit Reg.GAL.PLAN_MAP s
              != ((b.gal.decided.any (·.1 == s)) && b.secBit Reg.GAL.AVAIL_MAP s)))
        ∧ (∀ x ∈ c.gal.cmds, b.windowDrip ≤ x.2.1 ∧ ∀ s ∈ List.range 256, c.secBit Reg.GAL.AVAIL_MAP s = true →
            c.secBit Reg.GAL.PLAN_MAP s = true → b.cf (Block.ofSec Reg.GAL.SMAP_NODE s) = x.1 →
            x.2.2.testBit (b.cf (Block.ofSec Reg.GAL.SMAP_OUT s)) = true)
        ∧ b.SamePages [0x0B, 0x10, 0x11, 0x12, 0x13] c ∧ b.SameMem c
    else c = b)

/-- The boundary table and the hold (R193, R202, R208, R221). A write to `NPOLY` on a locked page does nothing; a table that
is not good, and a write of 0, leave no polygon; `BND_STAT` names the table's result or the budget; what is kept and the
prediction agree with what is stored. A hold that has lasted `HOLD_T`, outside the leaving sequence, expires, and the plan is
frozen only under policy FREEZE with a wheel source. The operands, that a command out of its moment changes nothing, and the
readings of log entries 1, 11, 75, 79, 82, 132 and 145 are the model's choice. -/
def Obligations.GalleryConfigAndHold : Prop :=
  (∀ (v : BitVec 4) (b : Block), Completes (.boundaryLoad v) b fun c =>
    if b.locked 0x10 = true then c = b
    else
      c.gal.bndNew.polys.length = c.rd Reg.GAL0.BND_NPOLY ∧ c.rd Reg.GAL0.BND_NPOLY ≤ 8
        ∧ c.gal.bndNew.emax % 2 ^ Reg.GAL0.BND_STAT_EMAX.width = c.rd Reg.GAL0.BND_STAT_EMAX
        ∧ (v = 0 ∨ b.readBoundary.2.1 ≠ 1 → c.rd Reg.GAL0.BND_NPOLY = 0 ∧ c.rd Reg.GAL0.BND_STAT_EMAX = 0
            ∧ c.rd Reg.GAL0.BND_STAT_XCOUNT = 0 ∧ c.rd Reg.GAL0.BND_STAT_NVERT = 0)
        ∧ (c.rd Reg.GAL0.BND_STAT_RES = b.readBoundary.2.1
            ∨ (c.rd Reg.GAL0.BND_STAT_RES = 7 ∧ b.readBoundary.2.1 = 1 ∧ c.rd Reg.GAL0.BND_NPOLY ≠ v.toNat))
        ∧ c.rd Reg.TICK.GAL_PRED_PRED
            = c.galPredWith (c.rd Reg.GAL0.GRID_CELL) (c.rd Reg.GAL0.EVAL_BISECT) (c.rd Reg.GAL0.BND_STAT_EMAX) % 2 ^ 21
        ∧ b.SamePages [0x03, 0x07, 0x08, 0x0A, 0x0B, 0x0C, 0x10, 0x2E] c ∧ (b.flips = [] → b.SameMem c))
  ∧ (∀ b : Block, Completes .holdExpiry b fun c =>
    if (b.gal.holdAt.any fun t => decide (t + b.cf Reg.GAL0.HOLD_T * 1000 ≤ b.ftDrips)) = true ∧ b.md.leaving = none then
      c.gal.holdAt = none ∧ c.rd Reg.GAL0.STATUS_HOLD = 0 ∧ c.rd Reg.GAL0.STATUS_HOLD_EXP = 1 ∧ c.rd Reg.GAL0.STATUS_LA = 0
        ∧ c.rd Reg.GAL0.STATUS_VALID = 0 ∧ (c.rd (Reg.HDR.IRQ_RAW 0x10)).testBit 2 = true
        ∧ c.gal.frozen = (b.cf Reg.GAL0.HOLD_POLICY == 1 && b.axleSpeed.isSome)
        ∧ b.Frame ([Reg.GAL0.STATUS_HOLD, Reg.GAL0.STATUS_HOLD_EXP, Reg.GAL0.STATUS_LA, Reg.GAL0.STATUS_VALID,
            Reg.HDR.IRQ_RAW 0x10] ++ evFlds) c
    else c = b)

/-- Delay observations and pulse inputs (R204, R205, R214). An observation whose window has ended is taken off the list: a
rejected one is counted and changes no delay; an accepted one is counted, marks the section's delay as learned and moves it by
`W`, or takes the measured delay where none was learned. An edge of the kind that the input counts, on an enabled input whose
class is not LASTING, is counted and timed and raises its interrupt when its level holds for `FILT`, and is an error
otherwise. The operands, that a command out of its moment changes nothing, and the readings of log entries 1, 11, 80 and 154
are the model's choice. -/
def Obligations.GalleryObservations : Prop :=
  (∀ (k : Fin 4) (b : Block), Completes (.delayObservationEnd k) b fun c =>
    let found := b.gal.obs.find? fun o => o.cls = k.val && o.sw + 25000 ≤ b.now
    (found = none → c = b)
      ∧ (∀ o ∈ found, c.gal.obs = b.gal.obs.erase o ∧ b.SameMem c
          ∧ (b.obsTau o = none → c.rd Reg.GAL0.OBS_REJ = min 65535 (b.rd Reg.GAL0.OBS_REJ + 1)
              ∧ b.SameRegs (Reg.GAL0.OBS_REJ :: errFlds 0x10) c)
          ∧ (∀ tau ∈ b.obsTau o,
              let dly := Block.ofSec (if o.opening then Reg.GAL.SDLY_ON else Reg.GAL.SDLY_OFF) o.sec
              let flag := Block.ofSec (if o.opening then Reg.GAL.SDLY_ON_L else Reg.GAL.SDLY_OFF_L) o.sec
              c.rd Reg.GAL0.OBS_ACC = min 65535 (b.rd Reg.GAL0.OBS_ACC + 1) ∧ c.rd flag = 1
                ∧ (c.rd (Reg.HDR.IRQ_RAW 0x10)).testBit 4 = true
                ∧ (b.is flag = false → c.rd dly = (roundDiv tau 10).toNat % 2 ^ dly.width)
                ∧ (b.is flag = true → c.rd dly = (roundDiv ((b.rd dly : Int) * 10 * 2 ^ b.cf Reg.GAL0.LEARN_W + tau
                    - b.rd dly * 10) (10 * 2 ^ b.cf Reg.GAL0.LEARN_W)).toNat % 2 ^ dly.width)
                ∧ b.SameRegs ([dly, flag, Reg.GAL0.OBS_ACC, Reg.HDR.IRQ_RAW 0x10] ++ evFlds) c)))
  ∧ (∀ (n : Fin 4) (rising : Bool) (held : Byte) (cyc : BitVec 14) (b : Block),
      Completes (.capEdge n rising held cyc) b fun c =>
    if b.powered = true ∧ b.is (Reg.CAP.CFG_EN n) = true ∧ b.is (Reg.HDR.FREEZE 0x2F) = false
        ∧ b.isLasting ⟨0x2F, n, 0⟩ = false ∧ (b.rd (Reg.CAP.CFG_EDGE n)).testBit (if rising then 0 else 1) = true then
      if held.toNat < b.rd (Reg.CAP.CFG_FILT n) then
        (c.rd (Reg.HDR.ERR 0x2F)).testBit n = true ∧ b.Frame (errFlds 0x2F) c ∧ c.cap = b.cap
      else
        c.rd (Reg.CAP.COUNT_COUNT n) = (b.rd (Reg.CAP.COUNT_COUNT n) + 1) % 2 ^ 32
          ∧ c.rd (Reg.CAP.LAST_DRIP_DRIP n) = b.ftDrips % 2 ^ 32
          ∧ c.rd (Reg.CAP.LAST_CYC_CYC n) = cyc.toNat % 16368 ∧ (c.rd (Reg.HDR.IRQ_RAW 0x2F)).testBit n = true
          ∧ (b.cap.last.getD n none = none → c.rd (Reg.CAP.PERIOD_US n) = 0xFFFFFF)
          ∧ (∀ l ∈ b.cap.last.getD n none, (b.ftDrips * 16368 + cyc.toNat % 16368 - l) * 100 / 16368 ≤ 16700000 →
              c.rd (Reg.CAP.PERIOD_US n) = (b.ftDrips * 16368 + cyc.toNat % 16368 - l) * 100 / 16368)
          ∧ b.Frame [Reg.CAP.COUNT_COUNT n, Reg.CAP.LAST_DRIP_DRIP n, Reg.CAP.LAST_CYC_CYC n, Reg.CAP.PERIOD_US n,
              Reg.HDR.IRQ_RAW 0x2F] c
    else c = b)

/-- Checkpoints, the journal and the map (R75, R210, R211, R213, R220). A checkpoint starts by itself in FIELD after 1,000
pools or at 96 dirty tiles, and by `CKPT`; it takes the dirty tiles as its work, and starts not where one runs, no tile is
dirty, the map is suspended or CKPT_FAIL is LASTING; the leaving sequence forces one when its closes are effective. Each
record takes the next erased slot of the journal and stores nowhere else; a checkpoint ends when no tile remains, and shows
its number, or after three failures. Folding, while fewer than 128 records are free, erases the oldest sector and stores in
MAPS alone. CLEAR acts outside FIELD alone: the map and its flash are empty under a new random identity. These wait while
another owns the flash controller, CLEAR as log entry 159 says. The operands, that a command out of its moment changes
nothing, and the readings of log entries 1, 11, 81, 138, 139, 140, 159 and 176 are the model's choice. -/
def Obligations.Checkpoints : Prop :=
  (∀ b : Block, Completes .checkpointStart b fun c =>
    let idle := b.gal.dirty.isEmpty || b.is Reg.GAL0.MAPSTAT_SUSP || b.isLasting ⟨0x10, 0, 0⟩
    if b.mode = .field ∧ b.gal.ckpt = none ∧ b.md.leaving = none ∧ (1000 ≤ b.gal.ckptPools ∨ 96 ≤ b.gal.dirty.length) then
      if idle then c = { b with gal := { b.gal with ckptPools := 0 } }
      else c.gal.ckpt.map (·.tiles) = some b.gal.dirty ∧ c.gal.dirty = [] ∧ c.rd Reg.GAL0.MAPSTAT_BUSY = 1
        ∧ c.rd Reg.GAL0.MAPSTAT_DIRTY = 0 ∧ b.Frame [Reg.GAL0.MAPSTAT_BUSY, Reg.GAL0.MAPSTAT_DIRTY] c
    else if (b.md.leaving.any fun l => decide (l.stage = 2 ∧ l.goal = none ∧ l.closeAt ≤ b.tick.pools)) = true
        ∧ b.gal.events = [] ∧ b.gal.wasOpen = [] then
      c.md.leaving.map (·.stage) = some (if c.gal.ckpt.isSome then 3 else 4)
        ∧ (b.gal.ckpt = none → idle = false → c.gal.ckpt.map (·.tiles) = some b.gal.dirty)
        ∧ b.Frame [Reg.GAL0.MAPSTAT_BUSY, Reg.GAL0.MAPSTAT_DIRTY] c
    else c = b)
  ∧ (∀ b : Block, Completes .ckpt b fun c =>
    if b.powered = true then
      if b.gal.ckpt = none ∧ b.gal.dirty ≠ [] ∧ b.is Reg.GAL0.MAPSTAT_SUSP = false ∧ b.isLasting ⟨0x10, 0, 0⟩ = false then
        c.gal.ckpt.map (·.tiles) = some b.gal.dirty ∧ c.gal.dirty = [] ∧ c.rd Reg.GAL0.MAPSTAT_BUSY = 1
          ∧ c.rd Reg.GAL0.MAPSTAT_DIRTY = 0 ∧ b.Frame [Reg.GAL0.MAPSTAT_BUSY, Reg.GAL0.MAPSTAT_DIRTY] c
      else c.gal.ckpt.map (·.tiles) = b.gal.ckpt.map (·.tiles) ∧ c.gal.dirty = b.gal.dirty ∧ b.Frame [] c
    else c = b)
  ∧ (∀ (ok : Bool) (b : Block), Completes (.checkpointRecordWrite ok) b fun c =>
    if b.flashWaits 3 then b.FlashLater 3 c
    else
      (b.gal.ckpt = none → c.gal = b.gal ∧ b.Frame flashFlds c)
        ∧ (∀ x ∈ b.gal.ckpt, x.tiles = [] → c.rd Reg.GAL0.CKPT_NUM_NUM = x.num % 2 ^ 32
            ∧ (c.rd (Reg.HDR.IRQ_RAW 0x10)).testBit 3 = true
            ∧ (x.again = false → c.gal.ckpt = none ∧ c.rd Reg.GAL0.MAPSTAT_BUSY = 0) ∧ b.SameMem c)
        ∧ (∀ x ∈ b.gal.ckpt, x.tiles ≠ [] → b.nextSlot = none → c.gal = b.gal ∧ b.Frame flashFlds c)
        ∧ (∀ x ∈ b.gal.ckpt, ∀ i ∈ b.nextSlot, x.tiles ≠ [] →
            c.gal.slot = (i + 1) % 248 ∧ c.gal.seq = b.gal.seq + 1
            ∧ b.SameMemBut (Block.journalAt i) 1024 c
            ∧ (ok = true → 2 ≤ x.tiles.length → c.gal.ckpt.map (·.tiles) = some x.tiles.tail)
            ∧ (ok = true → x.tiles.length = 1 → c.rd Reg.GAL0.CKPT_NUM_NUM = x.num % 2 ^ 32
                ∧ (x.again = false → c.gal.ckpt = none))
            ∧ (ok = false → x.fails < 2 → c.gal.ckpt.map (·.tiles) = some x.tiles)
            ∧ (ok = false → 2 ≤ x.fails → x.again = false → c.gal.ckpt = none ∧ (c.rd (Reg.HDR.ERR 0x10)).testBit 0 = true))
        ∧ b.SamePages [0x07, 0x08, 0x0A, 0x0B, 0x0E, 0x10, 0x2E] c)
  ∧ (∀ b : Block, Completes .journalFold b fun c =>
    if b.flashWaits 3 then b.FlashLater 3 c
    else
      (if b.is Reg.GAL0.MAPSTAT_SUSP = true ∨ b.is Reg.GAL0.MAPSTAT_RESTORED = false ∨ 128 ≤ b.journalFree then
          c.gal = b.gal ∧ b.Frame flashFlds c
        else ∀ k ∈ b.oldestSector, c.erased (Block.journalBase + 4096 * k) 4096 = true
          ∧ c.rd Reg.GAL0.MAPSTAT_FREE = c.journalFree % 2 ^ Reg.GAL0.MAPSTAT_FREE.width)
        ∧ b.SameMemBut Block.homeBase 0xBE000 c ∧ b.SameRegs (Reg.GAL0.MAPSTAT_FREE :: flashFlds) c)
  ∧ (∀ b : Block, Completes .clear b fun c =>
    if b.mode = .field then c = b
    else if b.flashWaits 3 then b.OwnLater .clear c
    else
      c.gal.dirty = [] ∧ c.gal.ckpt = none ∧ c.rd Reg.GAL0.MAPSTAT_DIRTY = 0 ∧ c.rd Reg.GAL0.MAPSTAT_SUSP = 0
        ∧ c.rd Reg.GAL0.MAPSTAT_BUSY = 0 ∧ c.rd Reg.GAL0.MAPSTAT_FREE = 248
        ∧ c.rd Reg.GAL0.MAP_ID_ID = (Config.freeWord b.free).toNat ∧ c.erased Block.homeBase 0xBE000 = true
        ∧ (∀ l ∈ b.md.leaving, l.stage = 3 → c.md.leaving.map (·.stage) = some 4)
        ∧ b.SameOutside (fun a => isSram a || inRange mapsBase 0xC0000 a) c
        ∧ b.SamePages [0x07, 0x08, 0x0A, 0x0B, 0x0E, 0x10, 0x2E] c)

/-- Supplies that come (R520, R521, R540, R60, R64). VIN_3V3 in its range is shown with the presence of VBAT_AON and the strap
LDO18_EN; a late external VDD_1V8 holds the reset until it is in range. PV good asserts with VIN_3V3 in its range and the ball
at `PVG.ON` for `DEB_ON`; then, with no reset held, an unpowered mode is left for WAKE with the cause 1, no image runs yet,
every output is forced, the banks that the mode before did not keep are clear, and what lies outside SRAM stays. The operands,
that a command out of its moment changes nothing, and the readings of log entries 1, 11, 37 and 42 are the model's choice. -/
def Obligations.Supplies : Prop :=
  (∀ (ldo vbat : Bool) (b : Block), Completes (.vin3v3RangeEntry ldo vbat) b fun c =>
    if b.is Reg.PWR.SUPPLY_VIN_OK = true then c = b
    else c.rd Reg.PWR.SUPPLY_VIN_OK = 1 ∧ c.rd Reg.PWR.SUPPLY_VBAT_OK = bit vbat ∧ c.md.external18 = !ldo
      ∧ b.Frame [Reg.PWR.SUPPLY_VIN_OK, Reg.PWR.SUPPLY_VBAT_OK] c)
  ∧ (∀ b : Block, Completes .vdd1v8Late b fun c =>
    if b.is Reg.PWR.SUPPLY_VIN_OK = true ∧ b.md.external18 = true ∧ b.powered = false then
      c.rd Reg.PWR.SUPPLY_V1V8_OK = 0 ∧ c.md.late18 = true ∧ c.resetHeld = true ∧ b.Frame [Reg.PWR.SUPPLY_V1V8_OK] c
    else c = b)
  ∧ (∀ b : Block, Completes .vdd1v8InRange b fun c =>
    if b.resetHeld = true ∧ b.is Reg.PWR.SUPPLY_VIN_OK = true then
      c.rd Reg.PWR.SUPPLY_V1V8_OK = 1 ∧ b.SameOutsideSram c
        ∧ (if b.powered = false ∧ b.md.pvGood = true then c.mode = .wake ∧ c.rd Reg.SYS.MODE_CAUSE = 1
          else c.mode = b.mode ∧ b.Frame [Reg.PWR.SUPPLY_V1V8_OK] c)
    else c = b)
  ∧ (∀ (ball units : BitVec 8) (b : Block), Completes (.pvGoodAssert ball units) b fun c =>
    if b.is Reg.PWR.SUPPLY_VIN_OK = true ∧ b.md.pvGood = false ∧ b.rd Reg.PWR.PVG_ON ≤ ball.toNat
        ∧ b.rd Reg.PWR.DEB_DEB_ON ≤ units.toNat then
      c.md.pvGood = true ∧ b.SameOutsideSram c
        ∧ (if b.powered = false ∧ b.resetHeld = false then
            c.mode = .wake ∧ c.rd Reg.SYS.MODE_CAUSE = 1 ∧ c.rd Reg.SYS.MODE_PREV = b.mode.code ∧ c.md.running = false
              ∧ c.AllForced ∧ c.sec.slots = b.sec.slots ∧ c.ft = b.ft
              ∧ c.SramCleared ((List.range 8).filter fun n => !Block.bankKept b.mode n)
          else c.mode = b.mode ∧ b.Frame [] c)
    else c = b)

/-- Supplies that go (R60, R64, R80, R81, R94, R539). A loss of VIN_3V3 takes PV good at once and leads from a powered mode or
SNAPSHOT to DARK with all SRAM clear. PV good deasserts with the ball below `PVG.OFF`, as in effect, for `DEB_OFF`: outside
FIELD this leads to SNAPSHOT or DARK with the cause 2 and the banks it does not keep clear; in FIELD, and while FIELD is being
left, every planned section is closed and the descent is the goal. SNAPSHOT ends in DARK below `SNAP_MIN`, DARK in SHELF with
VBAT_AON below `VBAT_LOW`; with no work at flash, keys or OTP what lies outside SRAM stays. Without VBAT_AON the secret keys,
field time, the RADIO core's memory, the replay table, the escalations, the SAFE latch, the frame counter and the failure
count are gone, and no byte of the address space changes. The operands, that a command out of its moment changes nothing, and
the readings of log entries 1, 11, 35, 39, 40, 41, 43 and 156 are the model's choice. -/
def Obligations.SupplyLosses : Prop :=
  (∀ (vbat : Bool) (b : Block), Completes (.vin3v3RangeLoss vbat) b fun c =>
    if b.is Reg.PWR.SUPPLY_VIN_OK = true then
      c.rd Reg.PWR.SUPPLY_VIN_OK = 0 ∧ c.rd Reg.PWR.SUPPLY_VBAT_OK = bit vbat ∧ c.md.pvGood = false
        ∧ c.mode = (if b.powered = true ∨ b.mode = .snapshot then .dark else b.mode)
        ∧ (b.powered = true ∨ b.mode = .snapshot → c.SramCleared (List.range 8) ∧ c.ramLoop = [] ∧ c.ramGnss = [])
        ∧ (vbat = false → c.ft = 0 ∧ c.ramRadio = [] ∧ c.rd Reg.RADSEC.FC_FC = 0)
        ∧ (b.powered = false → b.mode ≠ .snapshot → vbat = true →
            b.Frame [Reg.PWR.SUPPLY_VIN_OK, Reg.PWR.SUPPLY_VBAT_OK] c)
    else c = b)
  ∧ (∀ (ball units : BitVec 8) (b : Block), Completes (.pvGoodDeassert ball units) b fun c =>
    if b.md.pvGood = true ∧ ball.toNat < b.pvOff ∧ b.rd Reg.PWR.DEB_DEB_OFF ≤ units.toNat then
      c.md.pvGood = false
        ∧ (b.powered = false ∨ (b.md.leaving.any fun l => !l.atEdge) = true →
            c = { b with md := { b.md with pvGood := false } })
        ∧ (b.powered = true → b.mode ≠ .field → b.md.leaving = none →
            c.mode = b.afterLoss ball.toNat ∧ c.rd Reg.SYS.MODE_CAUSE = 2
              ∧ c.SramCleared ((List.range 8).filter fun n => !Block.bankKept (b.afterLoss ball.toNat) n))
        ∧ (b.powered = true → b.mode = .field ∨ b.md.leaving.isSome = true → (b.md.leaving.any fun l => !l.atEdge) = false →
            (∀ s ∈ List.range 256, c.secBit Reg.GAL.PLAN_MAP s = false)
              ∧ ((c.mode = b.afterLoss ball.toNat ∧ c.rd Reg.SYS.MODE_CAUSE = 2)
                ∨ (c.mode = b.mode ∧ c.rd Reg.SYS.MODE_LEAVING = 1
                  ∧ c.md.leaving.map (fun l => (l.goal, l.atEdge)) = some (some (b.afterLoss ball.toNat, 2), false))))
    else c = b)
  ∧ (∀ (ball : BitVec 8) (b : Block), Completes (.snapMinLoss ball) b fun c =>
    if b.mode = .snapshot ∧ ball.toNat < b.snapMin then
      c.mode = .dark ∧ c.rd Reg.SYS.MODE_CAUSE = 3 ∧ c.SramCleared (List.range 8)
        ∧ (b.flash = {} → b.cal.job = none → b.sec.job = none → b.sec.keyOp = none → b.sec.programming = none →
            (b.gnss.grabs.all fun g => g.ant < 2 && g.slot < b.snapSlots) = true → b.SameOutsideSram c)
    else c = b)
  ∧ (∀ (level : BitVec 8) (b : Block), Completes (.vbatLowTimeout level) b fun c =>
    if b.mode = .dark ∧ level.toNat < b.rd Reg.PWR.DEB_VBAT_LOW then
      c.mode = .shelf ∧ c.rd Reg.SYS.MODE_CAUSE = 4 ∧ c.rd Reg.PWR.SUPPLY_VBAT_OK = 0
        ∧ (c.rd (Reg.HDR.ERR 0x02)).testBit 2 = true ∧ c.ramRadio = [] ∧ c.agents.radio = false
        ∧ (b.flash = {} → b.cal.job = none → b.sec.programming = none → b.SameOutsideSram c)
    else c = b)
  ∧ (∀ b : Block, Completes .vbatAonLoss b fun c =>
    if b.is Reg.PWR.SUPPLY_VIN_OK = false ∧ (b.mode = .shelf ∨ b.mode = .dark) then
      c.sec.slots = (List.range 16).map (fun n =>
          if (2 ≤ n ∧ n ≤ 4) ∨ 8 ≤ n then none else b.sec.slots.getD n none)
        ∧ c.ft = 0 ∧ c.ramRadio = [] ∧ c.radio.replay = [] ∧ c.test.esc = [] ∧ c.md.safeLatch = false
        ∧ c.rd Reg.PWR.SUPPLY_VBAT_OK = 0
        ∧ c.rd Reg.RADSEC.FC_FC = 0 ∧ c.rd Reg.DBG.FAILS_CNT = 0 ∧ c.mem = b.mem ∧ b.SamePages [0x02, 0x05, 0x06, 0x29, 0x2D] c
    else c = b)

/-- Clocks (R30, R57, R87, R541). The PLL's lock, before an image runs, starts the tick at drip 0 of pool 0 and ends fallback
timing at the start after a reset of MAIN. A lock that does not come puts the part in fallback timing with the PWM, GSMP and
GCOR domains off and every output forced. The loss of the TCXO or of PLL lock leads to SAFE, every output forced, and to
fallback timing at the next edge; that of the 32 MHz crystal leads to SAFE; that of the 32.768 kHz crystal changes no mode.
Each loss of a clock in a powered mode sets its bit of `ERR`. The operands, that a command out of its moment changes nothing,
and the readings of log entries 1, 11, 29 and 30 are the model's choice. -/
def Obligations.ClockCommands : Prop :=
  (∀ b : Block, Completes .tickStart b fun c =>
    if b.powered = true ∧ b.md.running = false ∧ b.is Reg.CLK.CSTAT_PLL_LOCK = false
        ∧ (b.is Reg.HDR.TICK_FALLBACK = false ∨ b.drive.mainReset = true) then
      c.rd Reg.CLK.CSTAT_PLL_LOCK = 1 ∧ c.rd Reg.HDR.TICK_FALLBACK = 0 ∧ c.rd Reg.TICK.POS_DRIP = 0
        ∧ c.rd Reg.TICK.POS_POOL = 0 ∧ c.rd Reg.TICK.POS_EPOCH = 0 ∧ c.mode = b.mode ∧ b.SameMem c
    else c = b)
  ∧ (∀ b : Block, Completes .pllLockTimeout b fun c =>
    if b.powered = true ∧ b.md.running = false ∧ b.is Reg.CLK.CSTAT_PLL_LOCK = false ∧ b.is Reg.HDR.TICK_FALLBACK = false then
      c.rd Reg.HDR.TICK_FALLBACK = 1 ∧ c.running 1 = false ∧ c.running 2 = false ∧ c.running 3 = false
        ∧ c.drive.clockLoss = true ∧ c.AllForced ∧ c.mode = b.mode
    else c = b)
  ∧ (∀ (tcxo : Bool) (b : Block), Completes (.tcxoOrPllLoss tcxo) b fun c =>
    if b.powered = true ∧ b.is Reg.CLK.CSTAT_PLL_LOCK = true then
      c.rd Reg.CLK.CSTAT_PLL_LOCK = 0 ∧ (tcxo = true → c.rd Reg.CLK.CSTAT_TCXO_OK = 0) ∧ c.tick.fallbackDue = true
        ∧ c.mode = .safe ∧ c.AllForced ∧ (c.rd (Reg.HDR.ERR 0x01)).testBit (if tcxo then 0 else 3) = true
        ∧ (b.mode ≠ .safe → c.md.safeLatch = true ∧ c.rd Reg.SYS.SAFE_CAUSE_PAGE = 1) ∧ b.SameMem c
    else c = b)
  ∧ (∀ b : Block, Completes .xt32mLoss b fun c =>
    if b.powered = true ∧ b.is Reg.CLK.CSTAT_XT32M_OK = true then
      c.rd Reg.CLK.CSTAT_XT32M_OK = 0 ∧ c.mode = .safe ∧ (c.rd (Reg.HDR.ERR 0x01)).testBit 1 = true
        ∧ (b.mode ≠ .safe → c.md.safeLatch = true ∧ c.AllForced) ∧ b.SameMem c
    else c = b)
  ∧ (∀ b : Block, Completes .xt32kLoss b fun c =>
    if b.powered = true ∧ b.is Reg.CLK.CSTAT_XT32K_OK = false then c = b
    else
      c.rd Reg.CLK.CSTAT_XT32K_OK = 0 ∧ c.mode = b.mode ∧ (b.powered = true → (c.rd (Reg.HDR.ERR 0x01)).testBit 2 = true)
        ∧ b.Frame (Reg.CLK.CSTAT_XT32K_OK :: errFlds 0x01) c)

/-- The start and the reset of MAIN (R76, R77, R86, R442, R444). A start from WAKE, once the closing commands of a FIELD that
was left are out, with a good LOADER ends with the image running, the PUMP and FIELD requests and READY clear and L at 0, and
in SAFE, or unpowered, where it is loader-only; with a bad LOADER MAIN stays in reset and SAFE names page 0x33. A reset of
MAIN in a powered mode leads to WAKE with the cause 0x0B, every output forced, no agent running, the same requests clear, and
its own bit of `RESET_CAUSE` set. The operands, that a command out of its moment changes nothing, and the readings of log
entries 1, 11, 37, 38, 45, 46, 47, 129, 149 and 172 are the model's choice. -/
def Obligations.StartAndReset : Prop :=
  (∀ (loaderOk : Bool) (ks06 : List Byte) (b : Block), Completes (.start loaderOk ks06) b fun c =>
    if b.mode = .wake ∧ b.md.running = false ∧ b.resetHeld = false ∧ b.closing = false then
      if loaderOk then
        c.md.running = true ∧ c.drive.mainReset = false ∧ c.rd Reg.SYS.STANDING_PUMP_EN = 0
          ∧ c.rd Reg.SYS.STANDING_FIELD_REQ = 0 ∧ c.rd Reg.SYS.STANDING_READY = 0 ∧ c.rd Reg.PWR.PPV_LEVEL = 0
          ∧ (c.is Reg.UPD.USTAT_LOADER_ONLY = true → c.mode = .safe ∨ c.powered = false)
      else
        c.mode = .safe ∧ c.md.running = false ∧ c.drive.mainReset = true ∧ c.rd Reg.SYS.SAFE_CAUSE_CODE = 0x14
          ∧ c.rd Reg.SYS.SAFE_CAUSE_PAGE = 0x33 ∧ c.AllForced
    else c = b)
  ∧ (∀ (cause : ResetCause) (b : Block), Completes (.mainReset cause) b fun c =>
    if b.powered = true then
      c.mode = .wake ∧ c.rd Reg.SYS.MODE_CAUSE = 0x0B ∧ c.md.running = false ∧ c.AllForced
        ∧ c.agents.loop = false ∧ c.agents.gnss = false ∧ c.agents.radio = false
        ∧ c.rd Reg.SYS.STANDING_PUMP_EN = 0 ∧ c.rd Reg.SYS.STANDING_FIELD_REQ = 0 ∧ c.rd Reg.SYS.STANDING_READY = 0
        ∧ c.rd Reg.PWR.PPV_LEVEL = 0
        ∧ c.rd (causeFld cause) = 1 ∧ (b.sec.programming = none → b.SameMem c)
    else c = b)

/-- Agents (R20, R21, R26, R27, R442). The agents load in their order, each at most twice, in loader-only state the RADIO core
alone, and a RADIO core that runs when it is idle. A load whose digest matches releases its agent; a mismatch leaves it in
reset, and LOOP's second one leads to SAFE. A RADIO core that has not been idle for 50 ms after the entry into WAKE loses its
frames and is loaded. No command touches a byte of the address space. The operands, that a command out of its moment changes
nothing, and the readings of log entries 1, 11, 52 and 53 are the model's choice. -/
def Obligations.AgentLoads : Prop :=
  (∀ (a : Agent) (upset : Bool) (b : Block), Completes (.agentLoad a upset) b fun c =>
    let only := b.is Reg.UPD.USTAT_LOADER_ONLY
    let up (x : Block) : Bool := match a with | .loop => x.agents.loop | .gnss => x.agents.gnss | .radio => x.agents.radio
    c.mem = b.mem
      ∧ (if b.powered = true ∧ b.md.running = true ∧ b.agentSettled a = false
            ∧ (if only then a == .radio else b.loadTurn a) = true
            ∧ (a == .radio && b.agents.radio && !b.radioIdle) = false then
          if upset = false ∧ (only = true ∨ Crypto.sha256 (b.agentImage a).1 = (b.agentImage a).2) then
            up c = true ∧ c.mode = b.mode ∧ (b.agents.tries.length = 3 → c.agentTries a = 3)
          else
            up c = false ∧ c.mode = (if b.agentTries a = 1 ∧ a = .loop then .safe else b.mode)
        else c = b))
  ∧ (∀ (upset : Bool) (b : Block), Completes (.radioIdleTimeout upset) b fun c =>
    let only := b.is Reg.UPD.USTAT_LOADER_ONLY
    c.mem = b.mem
      ∧ (if b.agents.radio = true ∧ b.powered = true ∧ b.md.running = true ∧ b.agentSettled .radio = false
            ∧ (only || b.loadTurn .radio) = true ∧ b.md.wakeAt + 500 ≤ b.now then
          c.radio.taken = none ∧ c.radio.tx = none ∧ c.radio.queue = [] ∧ c.mode = b.mode
            ∧ c.agents.radio = (!upset && (only || Crypto.sha256 (b.agentImage .radio).1 == (b.agentImage .radio).2))
        else c = b))

/-- The edges (R8, R30 to R33, R56, R63). A drip edge advances the drip count by one and the position by one drip, 100 to a
pool and 10 pools to an epoch, the first edge being drip 0 of pool 0 of epoch 0; it puts CYC at 0 and brings pool and epoch
edges. A pending freeze stops the tick at the edge, at CYC 16,367, with every output forced; while the tick is frozen a drip
passes with field time alone. A pool edge is taken once for each that a drip edge brought; there a transition that was decided
takes effect, and none takes effect without one. An epoch edge is taken once too and changes no mode. The operands, that a
command out of its moment changes nothing, and the readings of log entries 1, 11, 21, 25, 31, 36, 108 and 136 are the model's
choice. -/
def Obligations.TickEdges : Prop :=
  (∀ (levels : List Bool) (b : Block), Completes (.dripEdge levels) b fun c =>
    if b.tickRuns = true ∧ b.is Reg.HDR.TICK_FROZEN = false then
      c.now = b.now + 1
        ∧ (b.tick.freezePending = true →
          c.rd Reg.HDR.TICK_FROZEN = 1 ∧ c.rd Reg.HDR.TICK_RUN = 0 ∧ c.rd Reg.TICK.CYC_CYC = 16367 ∧ c.ft = b.timeEdge.ft
            ∧ c.AllForced ∧ c.drip = b.drip ∧ c.pool = b.pool ∧ b.SameMem c)
        ∧ (b.tick.freezePending = false → b.md.leaving = none →
            c.ft = b.timeEdge.ft ∧ c.rd Reg.TICK.CYC_CYC = 0
              ∧ c.drip = (if b.tick.started = true ∧ b.drip < 99 then b.drip + 1 else 0)
              ∧ c.pool = (if b.tick.started = false then 0 else if b.drip < 99 then b.pool else if b.pool < 9 then b.pool + 1 else 0)
              ∧ (b.tick.started = true → ¬ (b.drip < 99) → ¬ (b.pool < 9) →
                  c.rd Reg.TICK.POS_EPOCH = (b.rd Reg.TICK.POS_EPOCH + 1) % 2 ^ 16)
              ∧ (b.tick.started = false → c.rd Reg.TICK.POS_EPOCH = 0)
              ∧ (c.drip = 0 → c.tick.poolDue = true) ∧ (c.drip = 0 → c.pool = 0 → c.tick.epochDue = true))
    else if b.tickRuns = true then c = b.timePass
    else c = b)
  ∧ (∀ (front : Front) (b : Block), Completes (.poolEdge front) b fun c =>
    if b.tick.poolDue = true ∧ b.powered = true ∧ b.is Reg.HDR.TICK_FROZEN = false then
      c.tick.poolDue = false ∧ c.md.pools = b.md.pools + 1
        ∧ (b.upd.restart = false → b.md.leaving = none → b.md.follow = none → b.md.next = none → c.mode = b.mode)
        ∧ (b.upd.restart = false → b.md.leaving = none → b.md.follow = none → b.mode ≠ .field → ∀ x ∈ b.md.next, x.1 ≠ .shelf →
            c.mode = x.1 ∧ c.rd Reg.SYS.MODE_PREV = b.mode.code ∧ c.rd Reg.SYS.MODE_CAUSE = x.2 % 256)
    else c = b)
  ∧ (∀ (obs : List ChanObs) (b : Block), Completes (.epochEdge obs) b fun c =>
    if b.tick.epochDue = true ∧ b.powered = true ∧ b.is Reg.HDR.TICK_FROZEN = false then
      c.tick.epochDue = false ∧ c.mode = b.mode ∧ b.SameMem c
        ∧ b.SamePages [0x03, 0x14, 0x15, 0x16, 0x17, 0x18, 0x19, 0x1A, 0x1B, 0x26, 0x27] c
    else c = b)

/-- Requests to the mode controller and their evaluation (R61, R63, R64, R77, R83). The requests 1, 2, 4 and 5 wait for the
evaluation in a powered mode and are refused with the code 2 otherwise; SAFE is entered at once; `READY` is set. The
evaluation, at drip 99, empties the samples and the request and changes no mode; a SERVICE request in WAKE that is not ready
is then granted, one to leave SERVICE outside it refused. The operands, that a command out of its moment changes nothing, and
the readings of log entries 1, 11, 24 and 124 are the model's choice. -/
def Obligations.ModeRequests : Prop :=
  (∀ b : Block, (∀ x ∈ [(Instr.serviceRequest, 1), (Instr.leaveService, 2), (Instr.safeClr, 4), (Instr.shelfRequest, 5)],
    Completes x.1 b fun c =>
      if b.powered = true then c = { b with md := { b.md with request := x.2 } }
      else c.rd Reg.SYS.REQ_STAT_RES = 2 ∧ c.rd Reg.SYS.REQ_STAT_CMD = x.2
        ∧ b.Frame [Reg.SYS.REQ_STAT_RES, Reg.SYS.REQ_STAT_CMD] c))
  ∧ (∀ b : Block, Completes .safeRequest b fun c =>
    c.rd Reg.SYS.REQ_STAT_CMD = 3
      ∧ (if b.powered = true ∧ b.mode ≠ .safe then
          c.mode = .safe ∧ c.rd Reg.SYS.REQ_STAT_RES = 1 ∧ c.rd Reg.SYS.MODE_CAUSE = 9 ∧ c.rd Reg.SYS.MODE_PREV = b.mode.code
            ∧ c.md.safeLatch = true ∧ c.AllForced ∧ b.SameMem c
        else c.rd Reg.SYS.REQ_STAT_RES = 2 ∧ b.Frame [Reg.SYS.REQ_STAT_RES, Reg.SYS.REQ_STAT_CMD] c))
  ∧ (∀ b : Block, Completes .readySet b fun c => c.rd Reg.SYS.STANDING_READY = 1 ∧ b.Frame [Reg.SYS.STANDING_READY] c)
  ∧ (∀ b : Block, Completes .modeEvaluation b fun c =>
    if b.drip = 99 ∧ b.powered = true then
      c.md.request = 0 ∧ c.md.samples = 0 ∧ c.mode = b.mode
        ∧ (b.md.request = 1 → b.mode = .wake → b.is Reg.SYS.STANDING_READY = false → b.md.next = none → b.md.leaving = none →
            b.is Reg.UPD.USTAT_LOADER_ONLY = false →
            c.md.next = some (.service, 9) ∧ c.rd Reg.SYS.REQ_STAT_RES = 1 ∧ c.rd Reg.SYS.REQ_STAT_CMD = 1)
        ∧ (b.md.request = 2 → b.mode ≠ .service → b.md.next = none → b.md.leaving = none →
            c.md.next.any (fun x => x.1 == .service) = false → c.rd Reg.SYS.REQ_STAT_RES = 2)
        ∧ b.SamePages [0x00, 0x02] c ∧ b.SameMem c
    else c = b)

/-- The load-shedding ladder and the leaving of FIELD (R69 to R71, R74, R75). At drip 0 one step is shed or restored as the
evaluation decided; with step 3 the observations and probes end, with step 7 the retry wait is set. The closing of the valves
starts the forced checkpoint. The operands, that a command out of its moment changes nothing, and the readings of log entries
1, 11, 32 and 33 are the model's choice. -/
def Obligations.Ladder : Prop :=
  (∀ b : Block, Completes .ladderShed b fun c =>
    if b.md.step = some true ∧ b.drip = 0 ∧ b.powered = true then
      let recent := b.md.sheds7.filter fun t => b.md.pools < t + 60000
      c.ladder = (b.ladder + 1) % 8 ∧ c.md.step = none ∧ (b.ladder = 2 → c.gal.obs = [] ∧ c.gal.probes = [])
        ∧ (b.ladder = 6 → c.md.sheds7 = b.md.pools :: recent ∧ c.md.retryLeft = (if b.md.retryWait = 0
            then b.rd Reg.PWR.RETRY_RETRY_MIN
            else if recent = [] then b.md.retryWait else min 60000 (2 * b.md.retryWait)))
        ∧ b.SamePages [0x02, 0x0B, 0x10, 0x14, 0x15, 0x18] c ∧ b.SameMem c
    else c = b)
  ∧ (∀ b : Block, Completes .ladderRestore b fun c =>
    if b.md.step = some false ∧ b.drip = 0 ∧ b.powered = true then
      c.ladder = (b.ladder - 1) % 8 ∧ c.md.step = none ∧ b.SamePages [0x02, 0x15, 0x18] c ∧ b.SameMem c
        ∧ (b.ladder ≠ 4 → b.Frame [Reg.PWR.PPV_LEVEL] c)
    else c = b)
  ∧ (∀ b : Block, Completes .fieldExitValveClose b fun c =>
    if (b.md.leaving.any fun l => l.stage = 2 && l.goal.isSome && l.atEdge && decide (l.closeAt ≤ b.tick.pools)) = true
        ∧ b.drip = 0 then
      c.md.leaving.map (·.stage) = some (if c.gal.ckpt = none then 4 else 3)
        ∧ b.Frame [Reg.GAL0.MAPSTAT_BUSY, Reg.GAL0.MAPSTAT_DIRTY] c
    else c = b)

/-- Overruns, degrade and the freeze (R43 to R47, R52, R54, R56, R489). A block whose window ends with its work undone
overruns: its bit and the error OVR are set, unless the overrun was counted already; results of the ADC are then stale, and
the gallery's evaluation is over. The gallery returns to full rate at a pool edge after HOLD pools. The record of an epoch
that was never posted is abandoned. The tick freezes in SERVICE at level FULL alone, at its next edge, and ends the running
test of its page (R489), and starts again from drip 0 when FREEZE is cleared. The operands, that a command out of its moment
changes nothing, and the readings of log entries 1, 11, 26, 27, 28 and 31 are the model's choice. -/
def Obligations.OverrunsAndFreeze : Prop :=
  (∀ (o : OvrBlock) (b : Block), Completes (.blockOverrun o) b fun c =>
    if b.powered = true ∧ b.is Reg.HDR.TICK_FROZEN = false ∧ b.windowOver o = true then
      b.SameMem c ∧ b.SamePages [0x03, 0x0B, 0x24, Block.ovrPage o, 0x2E] c
        ∧ (b.tick.overran.contains o = false →
            c.is (Block.ovrField o) = true ∧ (c.rd (Reg.HDR.ERR 0x03)).testBit 0 = true ∧ c.tick.overran = o :: b.tick.overran)
        ∧ (o = .adc → ∀ n ∈ List.range 16, c.rd (Reg.ADC.RESN_STALE n) = 1) ∧ (o = .gal → c.gal.evaluated = true)
    else c = b)
  ∧ (∀ b : Block, Completes .galleryDegradeExit b fun c =>
    if b.is (Reg.HDR.TICK_DEGRADE 1) = true ∧ b.drip = 0 ∧ b.tick.poolDue = false
        ∧ b.rd Reg.TICK.HOLD_HOLD ≤ b.tick.degPools ∧ b.isLasting ⟨0x03, 0, 2⟩ = false then
      c.rd (Reg.HDR.TICK_DEGRADE 1) = 0 ∧ (c.rd (Reg.HDR.IRQ_RAW 0x03)).testBit 4 = true
        ∧ b.Frame [Reg.HDR.TICK_DEGRADE 1, Reg.HDR.IRQ_RAW 0x03] c
    else c = b)
  ∧ (∀ b : Block, Completes .gpvtRecordAbandon b fun c =>
    if b.gnss.unposted = none then c = b
    else c.gnss.unposted = none ∧ c.rd Reg.TICK.GPVT_LAT_LAT = 0x3FF ∧ c.rd (Reg.HDR.TICK_DEGRADE 4) = 1
      ∧ (b.gnss.unposted = some false → (c.rd (Reg.HDR.ERR 0x03)).testBit 0 = true) ∧ b.SameMem c
      ∧ b.SamePages [0x03, 0x0B, 0x1B, 0x2E] c)
  ∧ (∀ b : Block, Completes .tickFreeze b fun c =>
    if b.level = 2 ∧ b.mode = .service then
      c.rd (Reg.HDR.FREEZE 0x03) = 1 ∧ c.tick.freezePending = (!b.is Reg.HDR.TICK_FROZEN)
        ∧ c.test.running.any (·.page == 0x03) = false ∧ b.SameMem c ∧ b.SamePages [0x03, 0x0B, 0x2E] c
        ∧ (b.test.running.any (·.page == 0x03) = false → b.Frame [Reg.HDR.FREEZE 0x03] c)
    else (c.rd (Reg.HDR.ERR 0x03)).testBit 2 = true ∧ c.tick = b.tick ∧ b.Frame (errFlds 0x03) c)
  ∧ (∀ b : Block, Completes .tickUnfreeze b fun c =>
    c.rd (Reg.HDR.FREEZE 0x03) = 0 ∧ c.ft = b.ft ∧ c.now = b.now
      ∧ (if b.is Reg.HDR.TICK_FROZEN = true then
          c.rd Reg.HDR.TICK_FROZEN = 0 ∧ c.rd Reg.HDR.TICK_RUN = 1 ∧ c.rd Reg.TICK.CYC_CYC = 0 ∧ c.tick.started = false
            ∧ b.Frame [Reg.HDR.FREEZE 0x03, Reg.HDR.TICK_FROZEN, Reg.HDR.TICK_RUN, Reg.TICK.CYC_CYC] c
        else c.tick.freezePending = false ∧ b.Frame [Reg.HDR.FREEZE 0x03] c))

/-- The lifecycle (R90). An advance is accepted only when armed, to the next state, under its condition; each refusal has its
code; the end of the programming sets the mark's bits of the word, `NEXT` and the result, and no byte beside that word. The
operands, that a command out of its moment changes nothing, and the readings of log entries 1, 11 and 129 are the model's
choice. -/
def Obligations.Lifecycle : Prop :=
  (∀ (key : Word) (b : Block), Completes (.lcKeyWrite key) b fun c =>
    c = { b with sec := { b.sec with armed := if key.toNat = 0x4C432560 then some b.now else none } })
  ∧ (∀ (target : Fin 4) (b : Block), Completes (.lcAdvance target) b fun c =>
    c.sec.armed = none ∧ b.Frame [Reg.SEC.LC_ADV_RES] c
      ∧ (if b.sec.programming.isSome = true then c.rd Reg.SEC.LC_ADV_RES = 5 ∧ c.sec.programming = b.sec.programming
        else if (b.sec.armed.any fun t => decide (b.now ≤ t + 1000)) = false then
          c.rd Reg.SEC.LC_ADV_RES = 2 ∧ c.sec.programming = none
        else if target.val ≠ b.lifecycle + 1 ∨ b.is Reg.SEC.LC_NEXT = true then
          c.rd Reg.SEC.LC_ADV_RES = 3 ∧ c.sec.programming = none
        else if b.lcCondition target = false then c.rd Reg.SEC.LC_ADV_RES = 4 ∧ c.sec.programming = none
        else c.rd Reg.SEC.LC_ADV_RES = 5 ∧ c.sec.programming = some (target.val, b.now)))
  ∧ (∀ b : Block, Completes .lcAdvanceDone b fun c =>
    b.SamePages [0x04] c ∧ ((b.sec.programming = none → c = b)
      ∧ (∀ x ∈ b.sec.programming, c.sec.programming = none ∧ c.rd Reg.SEC.LC_NEXT = 1 ∧ c.rd Reg.SEC.LC_ADV_RES = 1
          ∧ c.val (otpBase + 4 * (x.1 - 1)) 4 &&& 0x5A5AA5A5 = 0x5A5AA5A5
          ∧ b.SameRegs [Reg.SEC.LC_NEXT, Reg.SEC.LC_ADV_RES] c ∧ b.SameMemBut (otpBase + 4 * (x.1 - 1)) 4 c)))
  ∧ (∀ b : Block, Completes .lcArmExpire b fun c =>
    if (b.sec.armed.any fun t => decide (t + 1000 ≤ b.now)) = true then c = { b with sec := { b.sec with armed := none } }
    else c = b)

/-- Key operations (R93, R95, R96, R106, R107). A start while one runs is an error; one that is refused shows its result at
once; any other runs. The end of a LOAD clears the data registers and fills the slot, or waits while the slot is held; a WRAP
without a nonce, and an UNWRAP whose slot was erased meanwhile, show 2; the end of a ZEROIZE leaves the slot empty, that of
PROG_OTP stores in OTP alone. A key that waits is installed when nothing holds its slot. The operands, that a command out of
its moment changes nothing, and the readings of log entries 1, 11, 57, 58 and 173 are the model's choice. -/
def Obligations.KeyOperations : Prop :=
  (∀ (n : Fin 32) (b : Block), ∀ x ∈ [(Instr.load n, 1), (Instr.wrap n, 2), (Instr.unwrap n, 3), (Instr.zeroize n, 4),
      (Instr.progOtp n, 5)], Completes x.1 b fun c =>
    b.SamePages [0x05, 0x0B, 0x2E] c ∧ (if b.is Reg.KEY.OP_STAT_BUSY = true then
      (c.rd (Reg.HDR.ERR 0x05)).testBit 0 = true ∧ c.sec = b.sec ∧ b.Frame (errFlds 0x05) c
    else if (b.keyOpRefusal x.2 n (b.rd Reg.KEY.BLOB_ADDR)).isSome = true then
      c.rd Reg.KEY.OP_STAT_RES = (b.keyOpRefusal x.2 n (b.rd Reg.KEY.BLOB_ADDR)).getD 0 ∧ c.sec = b.sec
        ∧ b.Frame [Reg.KEY.OP_STAT_RES] c
    else c.rd Reg.KEY.OP_STAT_BUSY = 1 ∧ c.sec.keyOp.map (fun k => (k.code, k.slot)) = some (x.2, n.val)
      ∧ b.Frame [Reg.KEY.OP_STAT_BUSY] c))
  ∧ (∀ b : Block, Completes .keyOpEnd b fun c =>
    b.SamePages [0x04, 0x05, 0x07, 0x0A, 0x0B, 0x29, 0x2E] c ∧ ((b.sec.keyOp = none → c = b)
      ∧ (∀ k ∈ b.sec.keyOp, c.rd Reg.KEY.OP_STAT_BUSY = 0 ∧ c.sec.keyOp = none
          ∧ (k.code = 1 → (∀ i ∈ List.range 8, c.rd (Reg.KEY.DATA_DATA i) = 0) ∧ b.SameMem c
              ∧ (b.slotHeld k.slot = false → k.slot < b.sec.slots.length →
                  c.keySlot k.slot = some k.data ∧ c.rd Reg.KEY.OP_STAT_RES = 0)
              ∧ (b.slotHeld k.slot = true → c.keySlot k.slot = b.keySlot k.slot ∧ c.rd Reg.KEY.OP_STAT_RES = 1))
          ∧ (k.code = 2 → c.sec.slots = (b.installPending k.slot).sec.slots ∧ (b.trngFailed = true → c.rd Reg.KEY.OP_STAT_RES = 2)
              ∧ c.rd Reg.KEY.OP_STAT_RES ∈ [0, 2, 5])
          ∧ (k.code = 3 → (k.keyLost = true → c.rd Reg.KEY.OP_STAT_RES = 2 ∧ c.sec.slots = b.sec.slots)
              ∧ c.rd Reg.KEY.OP_STAT_RES ∈ [0, 1, 2, 3, 5])
          ∧ (k.code = 4 → c.keySlot k.slot = none ∧ c.rd Reg.KEY.OP_STAT_RES = 0 ∧ b.SameMem c)
          ∧ (k.code = 5 → c.rd Reg.KEY.OP_STAT_RES = 0
              ∧ b.SameOutside (fun a => inRange otpBase 0x400 a) c ∧ (k.slot = 1 → c.recorded 1 0 = true)
              ∧ (k.slot = 5 → c.recorded 5 0 = true)))))
  ∧ (∀ (n : Fin 16) (b : Block), Completes (.keyPendingInstall n) b fun c =>
    b.SamePages [0x04, 0x05, 0x29] c ∧ (if b.slotHeld n = false ∧ (b.sec.pending.any fun e => e.1 == n.val) = true then
      (n.val < b.sec.slots.length → c.keySlot n = (b.sec.pending.find? fun e => e.1 == n.val).map (·.2))
        ∧ (c.sec.pending.any fun e => e.1 == n.val) = false ∧ c.rd Reg.KEY.OP_STAT_RES = 0 ∧ b.SameMem c
    else c = b))

/-- Crypto jobs and random words (R97 to R99, R106 to R108). A start while a job runs is an error; a job that may not start
shows why; its end releases the engine with its interrupt, and its result names what it found: inputs that cannot be read, a
key erased meanwhile, an abort, a check that fails, or the work done; XTS and SHA-256 leave their output at the destination,
ED_VERIFY writes nothing. The next random word is free, 0 after a failed health test. The operands, that a command out of its
moment changes nothing, and the readings of log entries 1, 11, 3, 7, 56 and 127 are the model's choice. -/
def Obligations.CryptoJobs : Prop :=
  (∀ b : Block, ∀ x ∈ [(Instr.xtsDec, 1), (Instr.gcmEnc, 2), (Instr.gcmDec, 3), (Instr.ccmEnc, 4), (Instr.ccmDec, 5),
      (Instr.sha256, 6), (Instr.edVerify, 7)], Completes x.1 b fun c =>
    b.SamePages [0x04, 0x05, 0x0B, 0x29, 0x2E] c ∧ (c.rd Reg.SEC.JOB_OP_OP = x.2 ∧ b.SameMem c
      ∧ (if b.sec.job.isSome = true then
          (c.rd (Reg.HDR.ERR 0x04)).testBit 1 = true ∧ c.sec = b.sec ∧ b.Frame (Reg.SEC.JOB_OP_OP :: errFlds 0x04) c
        else if Block.jobSlotOk x.2 (b.rd Reg.SEC.JOB_OP_SLOT) = false then
          c.rd Reg.SEC.JOB_STAT_RES = 6 ∧ c.sec.job = none ∧ (c.rd (Reg.HDR.IRQ_RAW 0x04)).testBit 0 = true
        else if x.2 ≠ 6 ∧ (b.installPending (b.rd Reg.SEC.JOB_OP_SLOT)).keySlot (b.rd Reg.SEC.JOB_OP_SLOT) = none then
          c.rd Reg.SEC.JOB_STAT_RES = 5 ∧ c.sec.job = none
        else if Block.jobLenOk x.2 (b.rd Reg.SEC.JOB_LEN_LEN) = false then
          c.rd Reg.SEC.JOB_STAT_RES = 9 ∧ c.sec.job = none
        else (c.rd Reg.SEC.JOB_STAT_RES = 7 ∧ c.sec.job = none)
          ∨ (c.rd Reg.SEC.JOB_STAT_RES = 1 ∧ c.sec.job.map (fun j => (j.op, j.slot)) = some (x.2, b.rd Reg.SEC.JOB_OP_SLOT)))))
  ∧ (∀ (done : Nat) (b : Block), Completes (.jobEnd done) b fun c =>
    b.SamePages [0x04, 0x05, 0x07, 0x0A, 0x0B, 0x29, 0x2E] c ∧ (if b.sec.job = none then c = b
    else c.sec.job = none ∧ (c.rd (Reg.HDR.IRQ_RAW 0x04)).testBit 0 = true
      ∧ (∀ j ∈ b.sec.job, (b.jobInputs j).2 = none → c.rd Reg.SEC.JOB_STAT_RES = 7)
      ∧ (∀ j ∈ b.sec.job, ∀ x ∈ (b.jobInputs j).2,
          let out := Block.jobCompute j x.1 x.2.1 x.2.2.1 x.2.2.2
          if j.keyLost = true then c.rd Reg.SEC.JOB_STAT_RES = 4
          else if j.abort = true then c.rd Reg.SEC.JOB_STAT_RES = 8
          else if out = none then c.rd Reg.SEC.JOB_STAT_RES = 3
          else c.rd Reg.SEC.JOB_STAT_RES ∈ [2, 7] ∧ (b.flips = [] → c.rd Reg.SEC.JOB_STAT_RES = 2 →
            (j.op = 7 → b.SameMem c)
              ∧ (j.op = 1 ∨ j.op = 6 → ∀ o ∈ out, c.bytes j.dst o.1.length = o.1)))))
  ∧ (∀ (late : Bool) (b : Block), Completes (.jobAbort late) b fun c =>
    if late then c = b
    else b.Frame [] c ∧ c.sec.job.isSome = b.sec.job.isSome ∧ (∀ j ∈ c.sec.job, j.op ≠ 7 → j.abort = true))
  ∧ (∀ b : Block, Completes .trngRead b fun c =>
    if b.trngFailed = true then c = { b with resp := { word := 0 } }
    else c = { b with free := b.free + 1, resp := { word := (Config.freeWord b.free).toNat } })
  ∧ (∀ b : Block, Completes .trngHealthFail b fun c =>
    (c.rd (Reg.HDR.ERR 0x04)).testBit 2 = true ∧ c.trngFailed = true ∧ b.Frame (errFlds 0x04) c)

/-- The debug port (R100 to R105, R110, R111). Where its port is powered the TAP answers with the IDCODE, shifts bits through
the one-bit bypass register, and returns to Test-Logic-Reset; a nonce is drawn for each challenge and lasts 60 s; a signature
counts once, under a nonce in force; a good one wins its level for its duration, at most 480 minutes, a bad one counts, and
the third in a row starts a lock-out of 600 s. A level request lowers the effective level; a halt is honoured at level FULL
alone, and that of MAIN forces every output. The operands, that a command out of its moment changes nothing, and the readings
of log entries 1, 11, 55, 59, 121, 128 and 133 are the model's choice. -/
def Obligations.DebugPort : Prop :=
  (∀ b : Block, Completes .idcode b fun c =>
    if b.is Reg.DBG.LEVEL_PORT_PWR = true then
      c.dbg.ir = 1 ∧ c.resp = { word := 0x125600B7 } ∧ c = { b with dbg := { b.dbg with ir := 1, tap := c.dbg.tap }, resp := c.resp }
        ∧ (b.dbg.tap = .reset ∨ b.dbg.tap = .idle → c.dbg.tap = .idle)
    else c = b)
  ∧ (∀ (tdi : List Bool) (b : Block), Completes (.bypass tdi) b fun c =>
    if b.is Reg.DBG.LEVEL_PORT_PWR = true then
      c.dbg.ir = 0x1F ∧ c.dbg.bypass = tdi.getLast?.getD false
        ∧ c.resp.bytes = ((false :: tdi).take tdi.length).map (fun v => BitVec.ofNat 8 (bit v))
        ∧ c = { b with dbg := { b.dbg with ir := 0x1F, tap := c.dbg.tap, bypass := c.dbg.bypass }, resp := c.resp }
    else c = b)
  ∧ (∀ b : Block, Completes .tapReset b fun c =>
    if b.is Reg.DBG.LEVEL_PORT_PWR = true then c = { b with dbg := { b.dbg with ir := 1, tap := .reset } } else c = b)
  ∧ (∀ b : Block, Completes .chalNonceRequest b fun c =>
    b.SamePages [0x04, 0x06, 0x0B, 0x2E] c ∧ (if b.is Reg.DBG.LEVEL_PORT_PWR = true then
      if b.trngFailed = true then
        c.rd Reg.DBG.CHAL_STAT_RES = 7 ∧ c.dbg.nonce = none ∧ c.resp.err = true ∧ b.Frame [Reg.DBG.CHAL_STAT_RES] c
      else c.dbg.nonce = some (c.resp.bytes.take 16, b.now) ∧ c.resp.bytes.length = 24
        ∧ c.resp.bytes.drop 16 = leBytes 8 b.uid ∧ b.Frame [] c
    else c = b))
  ∧ (∀ (full : Bool) (minutes : BitVec 16) (sig : List Byte) (b : Block), Completes (.chalSignature full minutes sig) b fun c =>
    b.SamePages [0x04, 0x05, 0x06, 0x09, 0x0B, 0x29] c ∧ (if b.is Reg.DBG.LEVEL_PORT_PWR = true then
      c.dbg.nonce = none ∧ b.SameMem c
        ∧ (if b.dbg.lockEnd.isSome = true then c.rd Reg.DBG.CHAL_STAT_RES = 5 ∧ c.dbg.won = b.dbg.won
          else if b.keySlot 6 = none then c.rd Reg.DBG.CHAL_STAT_RES = 6 ∧ c.dbg.won = b.dbg.won
          else if (b.dbg.nonce.any fun x => decide (b.now < x.2 + 600000)) = false then
            c.rd Reg.DBG.CHAL_STAT_RES = 4 ∧ c.dbg.won = b.dbg.won
          else if (b.dbg.nonce.any fun x => Crypto.edVerify ((b.keySlot 6).getD [])
              (b.chalMessage x.1 (if full then 2 else 1) minutes.toNat) sig) = true then
            c.dbg.won = (if full then 2 else 1) ∧ c.rd Reg.DBG.FAILS_CNT = 0
              ∧ c.dbg.wonEnd = (if minutes.toNat = 0 then none else some (b.now + min 480 minutes.toNat * 600000))
          else c.rd Reg.DBG.CHAL_STAT_RES = 3 ∧ c.rd Reg.DBG.FAILS_CNT = (b.rd Reg.DBG.FAILS_CNT + 1) % 4
            ∧ c.dbg.won = b.dbg.won ∧ (2 ≤ b.rd Reg.DBG.FAILS_CNT → c.dbg.lockEnd = some (b.now + 6000000)))
    else c = b))
  ∧ (∀ b : Block, Completes .chalNonceExpire b fun c =>
    if (b.dbg.nonce.any fun x => decide (x.2 + 600000 ≤ b.now)) = true then c = { b with dbg := { b.dbg with nonce := none } }
    else c = b)
  ∧ (∀ b : Block, Completes .chalLockoutEnd b fun c =>
    if (b.dbg.lockEnd.any fun t => decide (t ≤ b.now)) = true then
      c.dbg.lockEnd = none ∧ c.rd Reg.DBG.FAILS_CNT = 0 ∧ c.rd Reg.DBG.FAILS_LOCK_S = 0
        ∧ b.Frame [Reg.DBG.FAILS_CNT, Reg.DBG.FAILS_LOCK_S] c
    else c = b)
  ∧ (∀ b : Block, Completes .debugAuthExpire b fun c =>
    b.SamePages [0x04, 0x05, 0x06, 0x09, 0x0B, 0x29] c ∧ (if (b.dbg.wonEnd.any fun t => decide (t ≤ b.now)) = true then c.dbg.won = 0 ∧ c.dbg.wonEnd = none ∧ b.SameMem c
    else c = b))
  ∧ (∀ (v : Fin 4) (b : Block), Completes (.dbgReqWrite v) b fun c =>
    b.SamePages [0x04, 0x05, 0x06, 0x09, 0x0B, 0x29] c ∧ (if v.val < 2 then c.rd Reg.DBG.LEVEL_CEIL ≤ v.val ∧ c.level ≤ v.val ∧ b.SameMem c else c = b))
  ∧ (∀ (agent : Fin 3) (halt : Bool) (brk : Option Word) (b : Block), Completes (.dhalt agent halt brk) b fun c =>
    b.SamePages [0x06, 0x09, 0x0B, 0x1C, 0x1D, 0x1E, 0x1F, 0x20, 0x21, 0x22, 0x23] c ∧ (if b.is Reg.DBG.LEVEL_PORT_PWR = true ∧ b.level = 2 then
      c.rd (if agent.val = 0 then Reg.DBG.HALT_MAIN else if agent.val = 1 then Reg.DBG.HALT_GNSS else Reg.DBG.HALT_RADIO) = bit halt
        ∧ c.dbg.breakpoints = b.dbg.breakpoints ++ (brk.map (·.toNat)).toList
        ∧ (agent.val = 0 → halt = true → c.AllForced) ∧ b.SameMem c
    else c = b))

/-- Targeted tests (R487 to R490, R493, R511). A pending test whose page is idle, clocked and not frozen starts at a drip
edge. The end of a running one, no earlier than its length allows, takes it off the list, shows its page and result, which on
a LOOP page come from its vectors and the watch of its slot (R322), and raises the interrupt; one that fails is classed
LASTING where it has classes. An abort ends what runs with the result ABORTED; a request by `TEST.START` for a page with a
test waits, unless one waits or runs; a retest is accepted in SERVICE and SAFE alone, for a page with a test whose domain is
on, and takes the place of the page's waiting requests but for that of a FLT test. The operands, that a command out of its
moment changes nothing, and the readings of log entries 1, 11, 119, 124, 137, 148 and 158 are the model's choice. -/
def Obligations.TargetedTests : Prop :=
  (∀ (page : Fin 48) (flt : Bool) (b : Block), Completes (.targetedTestStart page flt) b fun c =>
    if b.rd Reg.TICK.CYC_CYC = 0 ∧ ((b.test.pend.find? fun t => t.page == page.val && t.flt == flt).any b.canStart) = true then
      c.test.running.length = b.test.running.length + 1 ∧ c.test.pend.length + 1 = b.test.pend.length
        ∧ c.rd (Reg.HDR.TEST_BUSY page) = 1 ∧ (c.rd (Reg.STEST.RUN_PAGES (page.val / 32))).testBit (page.val % 32) = true
        ∧ b.Frame [Reg.STEST.COUNTS_RUN, Reg.STEST.PEND_PAGES (page.val / 32), Reg.STEST.RUN_PAGES (page.val / 32),
            Reg.HDR.TEST_BUSY page, Reg.STEST.RETEST_RES_RES] c
    else c = b)
  ∧ (∀ (page : Fin 48) (flt pass : Bool) (detail : Nat) (b : Block), Completes (.targetedTestEnd page flt pass detail) b fun c =>
    let found := b.test.running.find? fun t => t.page == page.val && t.flt == flt
    if (found.any fun t => decide (t.began + b.testLen t ≤ b.edges)) = true then
      c.rd Reg.STEST.LAST_PAGE = page.val ∧ (∀ t ∈ found, c.rd Reg.STEST.LAST_RES = if b.testResult t pass detail then 1 else 2)
        ∧ (c.rd (Reg.HDR.IRQ_RAW 0x2E)).testBit 0 = true
        ∧ (c.test.running.any fun t => t.page == page.val && t.flt == flt) = false
        ∧ ((∀ t ∈ found, b.testResult t pass detail = false ∧ Block.testClasses t false ≠ []) → c.rd Reg.STEST.LAST_CLASS = 2)
    else c = b)
  ∧ (∀ (page : Fin 48) (b : Block), Completes (.testStart page) b fun c =>
    if Block.hasTest page = true ∧ (b.test.pend.any fun t => t.page == page.val) = false
        ∧ (b.test.running.any fun t => t.page == page.val) = false then
      c.test.pend = b.test.pend ++ [{ page := page.val, diag := true }]
        ∧ (c.rd (Reg.STEST.PEND_PAGES (page.val / 32))).testBit (page.val % 32) = true
        ∧ b.Frame [Reg.STEST.PEND_PAGES (page.val / 32), Reg.STEST.RUN_PAGES (page.val / 32), Reg.HDR.TEST_BUSY page] c
    else c = b)
  ∧ (∀ (page : Fin 48) (b : Block), Completes (.testAbort page) b fun c =>
    if (b.test.running.any fun t => t.page == page.val) = true then
      (c.test.running.any fun t => t.page == page.val) = false ∧ c.rd (Reg.HDR.TEST_RES page) = 3
        ∧ c.rd Reg.STEST.LAST_RES = 3 ∧ (c.rd (Reg.HDR.IRQ_RAW 0x2E)).testBit 0 = true ∧ b.SameMem c
        ∧ b.SamePages [page.val, 0x0B, 0x2E] c
    else c = b)
  ∧ (∀ b : Block, Completes .abortAll b fun c => c.test.running = [] ∧ b.SameMem c ∧ (b.test.running = [] → c = b))
  ∧ (∀ (page : Fin 64) (b : Block), Completes (.retest page) b fun c =>
    c.test.running = b.test.running ∧ b.SameMem c ∧ b.SamePages [page.val, 0x2E] c
      ∧ c.rd Reg.STEST.RETEST_RES_RES = (if b.mode ≠ .service ∧ b.mode ≠ .safe then 5
          else if Block.hasTest page = false ∨ b.domainOn page = false ∨ 48 ≤ page.val then 6 else 1)
      ∧ (c.rd Reg.STEST.RETEST_RES_RES = 1 → (c.test.pend.filter fun t => t.page == page.val && !t.flt).length = 1
          ∧ (c.test.pend.filter fun t => t.page != page.val || t.flt) = b.test.pend.filter fun t => t.page != page.val || t.flt)
      ∧ (c.rd Reg.STEST.RETEST_RES_RES ≠ 1 → c.test = b.test))

/-- The safety pairs (R498 to R505) and the core supply's fault (R490). A channel's filtered state changes after three
agreeing samples. A change to stop, a discrepancy that reaches `DISC_T` and a failed or crossed test pulse of an enabled pair
each begin its safe action, and the first two force PWM0 and PWM1; the latter two clear TEST_OK. A latch is cleared only after
a passed test and 10,000 drips of run, and a pair restarts only when nothing is latched and no LASTING class holds it, after
500 drips of run where it is enabled. The operands, that a command out of its moment changes nothing, and the readings of log
entries 1, 11 and 120 are the model's choice. -/
def Obligations.SafetyPairs : Prop :=
  (∀ (p ch : Fin 2) (b : Block), Completes (.safetyFilterChange p ch) b fun c =>
    b.SamePages [0x0B, 0x1C, 0x1D, 0x1E, 0x1F, 0x25, 0x2E] c ∧ (if 3 ≤ b.safe.agree.getD (2 * p.val + ch.val) 0 then
      c.chanRun p ch = (!b.chanRun p ch) ∧ b.SameMem c
        ∧ (b.chanRun p ch = true → b.pairEnabled p = true → c.rd (Reg.SAFE.PSTAT_ACT p) = 1
            ∧ c.is (Reg.HDR.PWM_FORCED 0) = true ∧ c.is (Reg.HDR.PWM_FORCED 1) = true
            ∧ (c.rd (Reg.HDR.IRQ_RAW 0x25)).testBit p = true)
    else c = b))
  ∧ (∀ (tp : Fin 2) (levels : List Bool) (b : Block), Completes (.tpPulseCheck tp levels) b fun c =>
    b.SamePages [0x0B, 0x1C, 0x1D, 0x1E, 0x1F, 0x25, 0x2E] c ∧ (if b.safe.pulse = (if tp.val = 0 then 0 else b.rd Reg.SAFE.PULSE_PER / 2) ∧ b.powered = true then
      b.SameMem c
        ∧ (∀ p ∈ List.range 2, b.pairEnabled p = true → b.chanRun p tp = true → levels.getD (2 * p + tp.val) false = true →
            c.rd (Reg.SAFE.PSTAT_PULSE p) = 1 ∧ c.rd (Reg.SAFE.PSTAT_TEST_OK p) = 0 ∧ c.rd (Reg.SAFE.PSTAT_ACT p) = 1)
        ∧ (∀ p ∈ List.range 2, b.pairEnabled p = true → b.chanRun p (1 - tp.val) = true →
            levels.getD (2 * p + (1 - tp.val)) false = false →
            c.rd (Reg.SAFE.PSTAT_CROSS p) = 1 ∧ c.rd (Reg.SAFE.PSTAT_TEST_OK p) = 0 ∧ c.rd (Reg.SAFE.PSTAT_ACT p) = 1)
    else c = b))
  ∧ (∀ (p : Fin 2) (b : Block), Completes (.discTimeout p) b fun c =>
    b.SamePages [0x0B, 0x1C, 0x1D, 0x1E, 0x1F, 0x25, 0x2E] c ∧ (if b.pairEnabled p = true ∧ b.chanRun p 0 ≠ b.chanRun p 1 ∧ b.rd (Reg.SAFE.CFG_DISC_T p) ≤ b.safe.disc.getD p 0
        ∧ b.safe.discDone.getD p false = false then
      c.rd (Reg.SAFE.PSTAT_DISC p) = 1 ∧ c.rd (Reg.SAFE.PSTAT_TEST_OK p) = 0 ∧ c.rd (Reg.SAFE.PSTAT_ACT p) = 1
        ∧ (c.rd (Reg.HDR.ERR 0x25)).testBit p = true ∧ c.is (Reg.HDR.PWM_FORCED 0) = true
        ∧ c.is (Reg.HDR.PWM_FORCED 1) = true ∧ b.SameMem c
    else c = b))
  ∧ (∀ (p : Fin 2) (b : Block), Completes (.safetyClr p) b fun c =>
    b.SamePages [0x25] c ∧ (if b.is (Reg.SAFE.PSTAT_TEST_OK p) = false then c.rd (Reg.SAFE.CMD_RES p) = 4 ∧ b.Frame [Reg.SAFE.CMD_RES p] c
    else if b.rd (Reg.SAFE.PSTAT_RUN p) < 10000 then c.rd (Reg.SAFE.CMD_RES p) = 2 ∧ b.Frame [Reg.SAFE.CMD_RES p] c
    else c.rd (Reg.SAFE.CMD_RES p) = 1 ∧ c.latchedPair p = false
      ∧ b.Frame [Reg.SAFE.CMD_RES p, Reg.SAFE.PSTAT_DISC p, Reg.SAFE.PSTAT_PULSE p, Reg.SAFE.PSTAT_CROSS p] c))
  ∧ (∀ (p : Fin 2) (b : Block), Completes (.safetyRestart p) b fun c =>
    b.SamePages [0x1C, 0x1D, 0x1E, 0x1F, 0x25] c ∧ (if b.latchedPair p = true ∨ b.pairHeld p = true then c.rd (Reg.SAFE.CMD_RES p) = 3 ∧ b.Frame [Reg.SAFE.CMD_RES p] c
    else if b.rd (Reg.SAFE.PSTAT_RUN p) < 500 ∧ b.pairEnabled p = true then
      c.rd (Reg.SAFE.CMD_RES p) = 2 ∧ b.Frame [Reg.SAFE.CMD_RES p] c
    else c.rd (Reg.SAFE.CMD_RES p) = 1 ∧ c.rd (Reg.SAFE.PSTAT_ACT p) = 0 ∧ b.SameMem c))
  ∧ (∀ b : Block, Completes .buckFault b fun c =>
    c.rd Reg.PWR.SUPPLY_VCORE_OK = 0 ∧ (c.rd (Reg.HDR.ERR 0x02)).testBit 3 = true
      ∧ b.Frame (Reg.PWR.SUPPLY_VCORE_OK :: errFlds 0x02) c)

/-- The event recorder (R467 to R472, R558). An event waits in the queue, behind those it does not precede at the same time,
in the AON buffer where SYS is off, or is counted as lost where that is full. Once the records are rebuilt, the recorder
writes the first one, of the AON buffer ahead of the queue, and none while a clear of the founding area waits for its marker:
a repeat of the newest record keeps its place and the counts, any other takes the next founding or circulating place; a
verdict it carries is held. `WR_GO` queues the event of its registers, and is an error with a full queue; the event port of a
core takes three words. The operands, that a command out of its moment changes nothing, and the readings of log entries 1, 11,
20 and 60 are the model's choice. -/
def Obligations.EventRecorder : Prop :=
  (∀ (code : BitVec 16) (source : Fin 0x34) (sev : Fin 4) (verdict : BitVec 16) (a0 a1 : Word) (b : Block),
    Completes (.eventRaise code source sev verdict a0 a1) b fun c => b.Frame evFlds c ∧
      (if b.powered = true then
        if b.log.queue.length < 16 then
          let e : Event := {
            code := code.toNat, source := source.val, severity := Block.severityOf code.toNat sev.val,
            cls := if code.toNat / 8192 = 2 then code.toNat / 4 % 4 else 0, verdict := verdict.toNat, arg0 := a0.toNat,
            arg1 := a1.toNat, time := b.ft, era := b.era, aon := false }
          b.Frame [] c ∧ c.log.queue = queueWith b.log.queue e
        else c.log.queue = b.log.queue ∧ c.log.lost = b.log.lost + 1
          ∧ c.rd Reg.LOG.LOST_COUNT = min (2 ^ Reg.LOG.LOST_COUNT.width - 1) (b.rd Reg.LOG.LOST_COUNT + 1)
          ∧ (c.rd (Reg.HDR.IRQ_RAW 0x0B)).testBit 2 = true
      else c.log.queue = b.log.queue ∧
        (if b.log.aon.length < 8 then
          b.Frame [] c ∧ c.log.aon = queueWith b.log.aon {
            code := code.toNat, source := source.val, severity := Block.severityOf code.toNat sev.val,
            cls := if code.toNat / 8192 = 2 then code.toNat / 4 % 4 else 0, verdict := verdict.toNat, arg0 := a0.toNat,
            arg1 := a1.toNat, time := b.ft, era := b.era, aon := true }
        else c.log.aon = b.log.aon ∧ c.log.lost = b.log.lost + 1)))
  ∧ (∀ b : Block, Completes .recordWrite b fun c =>
    let newest := recordAt b.log.base (b.rd Reg.LOG.NEWEST_INDEX)
    let readable := b.flips.isEmpty && isSram newest && isSram (newest + 31)
    let img := if b.anyRecord then (b.readRange 11 newest 32).2 else []
    ((b.recorderUp = false ∨ b.log.aon ++ b.log.queue = [] ∨ b.flash.due.contains .found = true) → c = b)
    ∧ (b.recorderUp = true → b.flash.due.contains .found = false → ∀ e ∈ (b.log.aon ++ b.log.queue).head?,
      b.SamePages [0x0A, 0x0B, 0x2C, 0x2E] c
        ∧ (readable = true → b.SamePages [0x0B, 0x2C] c
            ∧ b.SameMemBut (recordAt b.log.base (c.rd Reg.LOG.NEWEST_INDEX)) 32 c)
        ∧ (if b.repeats img e = true then
          c.rd Reg.LOG.NEWEST_INDEX = b.rd Reg.LOG.NEWEST_INDEX ∧ c.rd Reg.LOG.TOTAL_COUNT = b.rd Reg.LOG.TOTAL_COUNT
            ∧ c.rd Reg.LOG.HELD_FOUND = b.rd Reg.LOG.HELD_FOUND
        else
          c.rd Reg.LOG.NEWEST_INDEX = (if b.rd Reg.LOG.HELD_FOUND < 512 then b.rd Reg.LOG.HELD_FOUND else 512 + b.log.circ % 512)
            ∧ c.rd Reg.LOG.TOTAL_COUNT = min (2 ^ 32 - 1) (b.rd Reg.LOG.TOTAL_COUNT + 1)
            ∧ (b.rd Reg.LOG.HELD_FOUND < 512 → c.rd Reg.LOG.HELD_FOUND = b.rd Reg.LOG.HELD_FOUND + 1)
            ∧ c.bytes (recordAt b.log.base (c.rd Reg.LOG.NEWEST_INDEX)) 32
                = recordBytes e (decide (b.rd Reg.LOG.HELD_FOUND < 512)) 1 0
            ∧ (c.rd (Reg.HDR.IRQ_RAW 0x0B)).testBit 0 = true)
        ∧ (e.verdict ≠ 0 → (c.rd (Reg.HDR.IRQ_RAW 0x0B)).testBit 1 = true ∧ c.log.verdicts.any (·.verdict == e.verdict) = true)
        ∧ (b.log.lost = 0 → readable = true → c.log.aon = b.log.aon.drop 1
            ∧ c.log.queue = if b.log.aon = [] then b.log.queue.drop 1 else b.log.queue) ∧ (readable = true → c.log.lost ≤ b.log.lost)
        ∧ c.log.pending.any (·.index == c.rd Reg.LOG.NEWEST_INDEX) = true))
  ∧ (∀ b : Block, Completes .wrGo b fun c =>
    if b.log.queue.length < 16 then
      b.Frame evFlds c ∧ (b.powered = true →
        c.log.queue = queueWith b.log.queue {
            code := 3 * 8192 + b.rd Reg.LOG.WR_CODE_CODE, source := 0x30, severity := b.rd Reg.LOG.WR_CODE_SEV,
            verdict := wrVerdict (b.rd Reg.LOG.WR_CODE_VERDICT), arg0 := b.rd Reg.LOG.WR_ARG0_ARG,
            arg1 := b.rd Reg.LOG.WR_ARG1_ARG, time := b.ft, era := b.era } ∧ b.Frame [] c)
    else (c.rd (Reg.HDR.ERR 0x0B)).testBit 1 = true ∧ b.Frame (errFlds 0x0B) c)
  ∧ (∀ (radio : Bool) (w : Word) (b : Block), Completes (.eventPortWrite radio w) b fun c =>
    b.Frame evFlds c ∧
      (if (if radio then b.log.portRadio else b.log.portGnss).length < 2 then
        (if radio then c.log.portRadio else c.log.portGnss) = (if radio then b.log.portRadio else b.log.portGnss) ++ [w]
          ∧ c.log.queue = b.log.queue ∧ b.Frame [] c
      else (if radio then c.log.portRadio else c.log.portGnss) = []
        ∧ (b.powered = true → b.log.queue.length < 16 → c.log.queue.length = b.log.queue.length + 1
            ∧ c.log.queue.any (fun e => e.source == (if radio then 0x32 else 0x31) && e.time == b.ft) = true)))

/-- The recorder's flash and the LED (R473 to R480). An image that may be appended is, in its turn at the flash controller,
under the next write sequence; a failed program leaves it waiting; nothing is appended while LOG is LASTING. FLUSH appends
every one, and FOUND_CLR, within 100 drips of the key in RETURN and SERVICE alone, leaves one founding record: each in its
turn at the flash controller. At the end of a cycle the LED takes the next pattern and verdict: off without power or while
GPIO is LASTING, the override of SERVICE, SAFE, the mode, or the verdict of highest severity; LED_ACK drops the one that is
shown, but not the cause of SAFE in SAFE. The operands, that a command out of its moment changes nothing, and the readings of
log entries 1, 11, 61, 140 and 159 are the model's choice. -/
def Obligations.LogFlash : Prop :=
  (∀ (ok : Bool) (b : Block), Completes (.logAppend ok) b fun c =>
    if b.powered = true ∧ b.pageLasting 0x0B = false ∧ (b.log.pending.find? b.mayAppend).isSome = true then
      if b.flashWaits 2 then b.FlashLater 2 c
      else ∀ p ∈ b.log.pending.find? b.mayAppend,
        if ok = true then
          c.log.seq = b.log.seq + 1 ∧ c.log.pending = b.log.pending.filter (·.index != p.index)
            ∧ b.SamePages [0x0A, 0x0B, 0x0E, 0x2C, 0x2E] c
            ∧ (b.flips = [] → (b.log.slot < 2048 → b.SameMemBut logBase 131072 c)
                ∧ b.SameRegs ([Reg.LOG.MIRROR_PENDING, Reg.LOG.MIRROR_FREE, Reg.GPIO.LED_STAT_HELD] ++ flashFlds) c)
        else (c.rd (Reg.HDR.ERR 0x0B)).testBit 0 = true ∧ c.log.pending = b.log.pending ∧ c.log.seq = b.log.seq
          ∧ b.SameMemBut (Block.slotAt b.log.slot) 64 c ∧ b.SameRegs (errFlds 0x0B ++ flashFlds) c
    else c = b)
  ∧ (∀ b : Block, Completes .flush b fun c =>
    if b.flashWaits 2 then b.OwnLater .flush c
    else if b.pageLasting 0x0B = true then b.Frame flashFlds c ∧ c.log = b.log
    else c.log.pending = [] ∧ b.SamePages [0x0A, 0x0B, 0x0E, 0x2C, 0x2E] c
      ∧ (b.flips = [] → (b.log.slot < 2048 → b.SameMemBut logBase 131072 c)
          ∧ b.SameRegs ([Reg.LOG.MIRROR_PENDING, Reg.LOG.MIRROR_FREE, Reg.GPIO.LED_STAT_HELD] ++ flashFlds) c))
  ∧ (∀ (key : Word) (b : Block), Completes (.clrKeyWrite key) b fun c =>
    c.log.clrKey = (if key = 0x46434C52#32 then some b.now else none) ∧ b.Frame [] c)
  ∧ (∀ b : Block, Completes .foundClr b fun c =>
    c.log.clrKey = none ∧
      (if (b.log.clrKey.any fun t => decide (b.now ≤ t + 100)) = true ∧ b.lifecycle = 3 ∧ b.mode = .service then
        if b.flashWaits 2 then c.flash.due.contains .found = true ∧ b.Frame [] c
        else c.rd Reg.LOG.HELD_FOUND = 1 ∧ c.rd Reg.LOG.NEWEST_INDEX = 0 ∧ c.rd Reg.LOG.HELD_CIRC = b.rd Reg.LOG.HELD_CIRC
          ∧ c.log.seq = b.log.seq + 1 ∧ (∀ k ∈ List.range 511, c.val (b.log.base + 32 + 32 * k) 4 = 0)
          ∧ b.SameRegs ([Reg.LOG.HELD_FOUND, Reg.LOG.NEWEST_INDEX, Reg.LOG.TOTAL_COUNT, Reg.LOG.MIRROR_PENDING,
              Reg.LOG.MIRROR_FREE, Reg.GPIO.LED_STAT_HELD, Reg.HDR.IRQ_RAW 0x0B] ++ flashFlds) c
      else b.Frame [] c))
  ∧ (∀ b : Block, Completes .ledCycleStart b fun c =>
    if b.ledBusy = true then c = b
    else c.rd Reg.GPIO.LED_STAT_PATTERN = (if b.powered = false ∨ b.pageLasting 0x2C = true then 0
        else if b.mode = .service ∧ b.is Reg.GPIO.LED_OVR_EN = true then 4 else if b.mode = .safe then 3
        else if b.ledChoice = 0 then 1 else 2)
      ∧ (c.rd Reg.GPIO.LED_STAT_PATTERN = 3 → b.md.safeVerdict ≠ 0 →
          c.rd Reg.GPIO.LED_STAT_SHOWN = b.md.safeVerdict % 2 ^ Reg.GPIO.LED_STAT_SHOWN.width)
      ∧ (c.rd Reg.GPIO.LED_STAT_PATTERN = 2 →
          c.rd Reg.GPIO.LED_STAT_SHOWN = b.ledChoice % 2 ^ Reg.GPIO.LED_STAT_SHOWN.width)
      ∧ c.rd Reg.GPIO.LED_STAT_HELD = b.log.verdicts.length % 2 ^ Reg.GPIO.LED_STAT_HELD.width
      ∧ b.Frame [Reg.GPIO.LED_STAT_SHOWN, Reg.GPIO.LED_STAT_PATTERN, Reg.GPIO.LED_STAT_HELD, Reg.LOG.MIRROR_PENDING] c)
  ∧ (∀ b : Block, Completes .ledAck b fun c =>
    if b.rd Reg.GPIO.LED_STAT_SHOWN = 0
        ∨ (b.mode = .safe ∧ b.md.safeLatch = true ∧ b.rd Reg.GPIO.LED_STAT_SHOWN = b.md.safeVerdict) then c = b
    else c.log.verdicts = b.log.verdicts.filter (·.verdict != b.rd Reg.GPIO.LED_STAT_SHOWN)
      ∧ b.Frame [Reg.GPIO.LED_STAT_HELD, Reg.LOG.MIRROR_PENDING] c)

/-- The reader's side of the tag (R452, R453, R461, R462, R466). A field begins with the tag in IDLE and no session, and its
end ends both. A tag whose domain is gated is silent. REQA and WUPA are answered with ATQA 0x0044, a cascade level with the
rest of its five bytes and with its SAK, and HLTA halts a selected tag. A selected tag reads 16 bytes, in the protected sector
in a session alone once a KS05 record is programmed, and writes an OEM page in a session with FIELD_WR set alone. The right
password opens a session; a wrong one counts and puts the tag in IDLE; after three each field is judged once, after ten none.
A bad frame gets its NAK. The operands, that a command out of its moment changes nothing, and the readings of log entries 1,
11, 63 and 64 are the model's choice. -/
def Obligations.TagReader : Prop :=
  (∀ b : Block, Completes .nfcFieldOn b fun c =>
    (b.showDomains = b → b.SamePages [0x01, 0x2A] c) ∧ (c.tag.state = .idle ∧ c.tag.sector = 0 ∧ c.tag.judged = false ∧ c.rd Reg.TAG.FSTAT_FIELD = 1 ∧ c.rd Reg.TAG.FSTAT_AUTH = 0
      ∧ (c.rd (Reg.HDR.IRQ_RAW 0x2A)).testBit 0 = true ∧ b.SameMem c))
  ∧ (∀ b : Block, Completes .nfcFieldOff b fun c =>
    (b.showDomains = b → b.SamePages [0x01, 0x2A] c) ∧ (c.tag.state = .off ∧ c.rd Reg.TAG.FSTAT_FIELD = 0 ∧ c.rd Reg.TAG.FSTAT_ACTIVE = 0 ∧ c.rd Reg.TAG.FSTAT_AUTH = 0
      ∧ (c.rd (Reg.HDR.IRQ_RAW 0x2A)).testBit 1 = true ∧ b.SameMem c))
  ∧ (∀ b : Block, Completes .reqa b fun c =>
    if b.nfcHears = false ∨ b.tag.state = .off ∨ b.tag.state = .halted then b.NfcSilent c
    else b.SamePages [0x2A] c ∧ b.SameMem c
      ∧ (if b.tag.state = .idle then c.tag.state = .ready1 ∧ c.resp.bytes = [0x44#8, 0x00#8]
        else c.tag.state = .idle ∧ c.resp.bytes = [] ∧ c.rd Reg.TAG.FSTAT_AUTH = 0))
  ∧ (∀ b : Block, Completes .wupa b fun c =>
    if b.nfcHears = false ∨ b.tag.state = .off then b.NfcSilent c
    else b.SamePages [0x2A] c ∧ b.SameMem c
      ∧ (if b.tag.state = .idle ∨ b.tag.state = .halted then c.tag.state = .ready1 ∧ c.resp.bytes = [0x44#8, 0x00#8]
        else c.tag.state = .idle ∧ c.resp.bytes = [] ∧ c.rd Reg.TAG.FSTAT_AUTH = 0))
  ∧ (∀ (second : Bool) (bits value : Nat) (b : Block), Completes (.anticollision second bits value) b fun c =>
    b.Frame [] c ∧ c.tag = b.tag
      ∧ c.resp.bytes = (if b.nfcHears = true ∧ b.tag.state = (if second then NfcState.ready2 else .ready1) ∧ bits ≤ 40
            ∧ leValue (b.cascade second) % 2 ^ bits = value then
          leBytes ((47 - bits) / 8) (leValue (b.cascade second) / 2 ^ bits) else []))
  ∧ (∀ (second : Bool) (uid : List Byte) (b : Block), Completes (.select second uid) b fun c =>
    if b.nfcHears = true ∧ b.tag.state = (if second then NfcState.ready2 else .ready1) ∧ uid = b.cascade second then
      c.tag.state = (if second then NfcState.active else .ready2)
        ∧ c.resp.bytes.head? = some (if second then 0x00#8 else 0x04#8) ∧ b.SamePages [0x2A] c ∧ b.SameMem c
    else b.NfcSilent c)
  ∧ (∀ b : Block, Completes .hlta b fun c =>
    if b.nfcHears = true ∧ b.tag.state = .active then
      c.tag.state = .halted ∧ c.rd Reg.TAG.FSTAT_AUTH = 0 ∧ c.rd Reg.TAG.FSTAT_ACTIVE = 0 ∧ c.resp.bytes = []
        ∧ b.SamePages [0x2A] c ∧ b.SameMem c
    else b.NfcSilent c)
  ∧ (∀ (page : Fin 256) (b : Block), Completes (.nfcRead page) b fun c =>
    c.tag = b.tag ∧ b.Frame [Reg.TAG.COUNTS_READS] c
      ∧ (if b.nfcHears = false ∨ b.tag.state ≠ .active then b.NfcSilent c
        else if b.tag.sector = 1 ∧ b.is Reg.TAG.FSTAT_AUTH = false ∧ b.recorded 5 0 = true then c.resp.bytes = [0x0#8]
        else c.resp.bytes.length = 18 ∧ c.resp.bytes.take 4 = b.tagPage (b.tag.sector * 256 + page.val)))
  ∧ (∀ (page : Fin 256) (data : Word) (b : Block), Completes (.nfcWrite page data) b fun c =>
    b.SamePages [0x2A] c ∧ (b.SameMemBut (tagBase + 4 * (b.tag.sector * 256 + page.val)) 4 c ∧
      (if b.nfcHears = false then b.NfcSilent c
      else if b.tag.state = .active ∧ 208 ≤ b.tag.sector * 256 + page.val ∧ b.tag.sector * 256 + page.val ≤ 255
          ∧ b.is Reg.TAG.FSTAT_AUTH = true ∧ b.is Reg.TAG.CFG_FIELD_WR = true then
        c.val (tagBase + 4 * (b.tag.sector * 256 + page.val)) 4 = data.toNat ∧ c.resp.bytes = [0xA#8]
          ∧ (c.tag.queue.all fun x => x.page != page.val) = true
      else c.resp.bytes = (if b.tag.state = .active then [0x0#8] else []) ∧ c.tag = b.tag ∧ b.Frame [] c)))
  ∧ (∀ (sector : Fin 256) (b : Block), Completes (.sectorSelect sector) b fun c =>
    b.Frame [] c ∧
      (if b.nfcHears = false then b.NfcSilent c
      else if b.tag.state = .active ∧ (sector.val = 0 ∨ (sector.val = 1 ∧ b.protectedOpen = true)) then
        c.tag.sector = sector.val ∧ c.resp.bytes = [0xA#8]
      else c.tag = b.tag ∧ c.resp.bytes = (if b.tag.state = .active then [0x0#8] else [])))
  ∧ (∀ (pw : Word) (b : Block), Completes (.auth pw) b fun c =>
    b.SamePages [0x0B, 0x2A, 0x2E] c ∧ (b.SameMem c ∧
      (if b.nfcHears = false ∨ b.tag.state ≠ .active then b.NfcSilent c
      else if 10 ≤ b.rd Reg.TAG.AUTH_FAIL_CNT ∨ (3 ≤ b.rd Reg.TAG.AUTH_FAIL_CNT ∧ b.tag.judged = true) then
        c.resp.bytes = [0x0#8] ∧ c.tag = b.tag ∧ b.Frame [] c
      else if b.tag.password = some (leBytes 4 pw.toNat) then
        c.rd Reg.TAG.AUTH_FAIL_CNT = 0 ∧ c.rd Reg.TAG.FSTAT_AUTH = 1 ∧ c.resp.bytes.take 2 = [0x4C#8, 0x54#8]
          ∧ (c.rd (Reg.HDR.IRQ_RAW 0x2A)).testBit 3 = true
          ∧ b.Frame [Reg.TAG.AUTH_FAIL_CNT, Reg.TAG.FSTAT_AUTH, Reg.HDR.IRQ_RAW 0x2A] c
      else
        c.rd Reg.TAG.AUTH_FAIL_CNT = b.rd Reg.TAG.AUTH_FAIL_CNT + 1 ∧ c.rd Reg.TAG.FSTAT_AUTH = 0 ∧ c.tag.state = .idle
          ∧ c.resp.bytes = [0x0#8] ∧ (c.rd (Reg.HDR.IRQ_RAW 0x2A)).testBit 4 = true)))
  ∧ (∀ (badCrc : Bool) (b : Block), Completes (.tagBadFrame badCrc) b fun c =>
    b.Frame [] c ∧ c.tag = b.tag
      ∧ c.resp.bytes = (if b.nfcHears = false ∨ b.tag.state = .off then [] else if badCrc then [0x1#8] else [0x0#8]))
  ∧ (∀ b : Block, Completes .authRst b fun c =>
    c.rd Reg.TAG.AUTH_FAIL_CNT = 0 ∧ c.tag.lockSeen = false ∧ b.Frame [Reg.TAG.AUTH_FAIL_CNT] c)

/-- The wired side of the tag (R454, R457 to R459, R463 to R465, R484). A commit job compares its pages and queues what
differs between the two commits of the sequence page; a job of pages that it may not write, or whose source cannot be read,
ends at once. One waiting commit, from whatever source, completes at a time, and the last one of a job ends it; a page that
fails is marked bad and ends the job it belongs to. A job ends by ABORT and after 2 s, without what it had left. A word of the
host window waits, up to four of them, for pages of the card and the OEM area alone. The pages of the status area that are due
wait with their content, and the page of their time with them; a record that waits is read for the fault summary, and the page
that holds the summary's count waits behind the rest. The operands, that a command out of its moment changes nothing, and the
readings of log entries 1, 11, 65, 66, 67 and 172 are the model's choice. -/
def Obligations.TagCommits : Prop :=
  (∀ b : Block, Completes .tagCommit b fun c =>
    let first := b.rd Reg.TAG.JOB_FIRST
    let count := b.rd Reg.TAG.JOB_COUNT
    let src := b.rd Reg.TAG.SRC_ADDR
    let pages := (List.range count).map (first + ·)
    let image := (b.fetch 8 src (4 * count)).2
    let differ (img : List Byte) : List Commit := pages.zipIdx.filterMap fun e =>
      if (img.drop (4 * e.2)).take 4 = b.tagPage e.1 then none
      else some { kind := .jobPage, page := e.1, data := (img.drop (4 * e.2)).take 4 }
    let seq := b.val (tagBase + 0x320) 2
    let ends (res : Nat) : Prop := c.rd Reg.TAG.JRES_RES = res ∧ c.tag.job = none ∧ (c.rd (Reg.HDR.IRQ_RAW 0x2A)).testBit 5 = true
      ∧ c.tag.queue = b.tag.queue.filter fun x => !Block.ofJob x.kind
    b.SamePages [0x07, 0x0A, 0x0B, 0x2A, 0x2E] c ∧
      (if b.tag.job.isSome = true then (c.rd (Reg.HDR.ERR 0x2A)).testBit 2 = true ∧ c.tag = b.tag ∧ b.Frame (errFlds 0x2A) c
      else if count = 0 ∨ 252 < count ∨ pages.all Block.wiredPage = false then ends 4
      else if src % 4 ≠ 0 ∨ b.allowedRange 0 src (4 * count) 0 = false ∨ image = none then ends 5
      else ∀ img ∈ image,
        if differ img = [] then ends 2
        else c.rd Reg.TAG.JRES_RES = 1 ∧ c.rd Reg.TAG.JRES_PAGES = 0 ∧ c.tag.job = some b.now
          ∧ c.tag.queue = b.tag.queue ++ [{ kind := .jobBusy, page := 200, data := Block.seqPage seq true }] ++ differ img
            ++ [{ kind := .jobEnd, page := 200, data := Block.seqPage (seq + 1) false }]))
  ∧ (∀ b : Block, Completes .tagCommitAbort b fun c =>
    b.SamePages [0x2A] c ∧ (if b.tag.job = none then c = b
    else c.tag.job = none ∧ c.rd Reg.TAG.JRES_RES = 6 ∧ c.tag.queue = b.tag.queue.filter (fun x => !Block.ofJob x.kind)
      ∧ (c.rd (Reg.HDR.IRQ_RAW 0x2A)).testBit 5 = true ∧ b.SameMem c))
  ∧ (∀ b : Block, Completes .tagJobTimeout b fun c =>
    b.SamePages [0x2A] c ∧ (if (b.tag.job.any fun t => decide (t + 20000 ≤ b.now)) = true then
      c.tag.job = none ∧ c.tag.queue = b.tag.queue.filter (fun x => !Block.ofJob x.kind) ∧ c.rd Reg.TAG.JRES_RES = 3 ∧ (c.rd (Reg.HDR.IRQ_RAW 0x2A)).testBit 5 = true ∧ b.SameMem c
    else c = b))
  ∧ (∀ (ok : Bool) (b : Block), Completes (.tagPageCommit ok) b fun c =>
    b.SamePages [0x0B, 0x2A, 0x2E] c ∧ (b.powered = false ∨ b.tag.queue = [] → c = b)
    ∧ (b.powered = true → ∀ x ∈ b.tag.queue.head?,
      b.SameMemBut (tagBase + 4 * x.page) (max 4 x.data.length) c
        ∧ (if ok = true ∨ b.tagStopped x.page = true then
          (if b.tagStopped x.page = true then b.SameMem c else c.bytes (tagBase + 4 * x.page) x.data.length = x.data)
            ∧ c.tag.bad = b.tag.bad
            ∧ (x.kind = .jobEnd → c.tag.job = none ∧ c.rd Reg.TAG.JRES_RES = 2)
            ∧ (x.kind ≠ .jobEnd → c.tag.queue = b.tag.queue.drop 1 ∧ c.tag.job = b.tag.job)
            ∧ (x.kind = .status → c.tag.statLast = b.tag.statLast.set (x.page - 201) (some b.now))
        else
          c.tag.bad = b.tag.bad ++ [x.page] ∧ b.SameMem c ∧ (c.rd (Reg.HDR.ERR 0x2A)).testBit 0 = true
            ∧ (if Block.ofJob x.kind = true then c.tag.job = none ∧ c.rd Reg.TAG.JRES_RES = 7
                ∧ c.tag.queue = (b.tag.queue.drop 1).filter fun y => !Block.ofJob y.kind
              else c.tag.queue = b.tag.queue.drop 1 ∧ c.tag.job = b.tag.job))))
  ∧ (∀ (page : Fin 512) (data : Word) (b : Block), Completes (.tagWindowWrite page data) b fun c =>
    b.SamePages [0x0B, 0x2A, 0x2E] c ∧ (b.SameMem c ∧
      (if b.powered = false then c = b
      else if Block.wiredPage page.val = false then c.tag = b.tag ∧ (c.rd (Reg.HDR.ERR 0x2A)).testBit 3 = true ∧ b.Frame (errFlds 0x2A) c
      else if 4 ≤ b.buffered then c.tag = b.tag ∧ (c.rd (Reg.HDR.ERR 0x2A)).testBit 2 = true ∧ b.Frame (errFlds 0x2A) c
      else c.tag.queue = b.tag.queue ++ [{ kind := .buffer, page := page.val, data := leBytes 4 data.toNat }]
        ∧ c.rd Reg.TAG.FSTAT_BUSY = 1)))
  ∧ (∀ b : Block, Completes .statusAreaCommit b fun c =>
    if b.powered = false ∨ b.statusDue = [] then c = b
    else b.SamePages [0x2A] c ∧ b.SameMem c ∧ c.rd Reg.TAG.FSTAT_BUSY = 1
      ∧ c.tag.queue = b.tag.queue ++ (b.statusDue ++ if b.statusFree 1 = true then [1] else []).map fun k =>
          { kind := .status, page := 201 + k, data := b.statusPage k (b.ft / 65536 % 2 ^ 32) })
  ∧ (∀ b : Block, Completes .summaryCopy b fun c =>
    if b.recorderUp = false ∨ b.tag.sumQueue.find? b.sumReady = none ∨ b.tag.queue.any (·.kind == .summary) = true then c = b
    else b.SamePages [0x07, 0x0A, 0x0B, 0x2A, 0x2E] c ∧ (b.flips = [] → b.SameMem c)
      ∧ (∀ i ∈ b.tag.sumQueue.find? b.sumReady, c.tag.sumQueue = b.tag.sumQueue.filter (· != i)
          ∧ ((b.fetch 8 (recordAt b.log.base i) 32).2 = none → c.tag.queue = b.tag.queue ∧ c.tag.sumSlots = b.tag.sumSlots)
          ∧ (∀ img ∈ (b.fetch 8 (recordAt b.log.base i) 32).2,
              c.tag.sumSlots = b.tag.sumSlots.set (b.summaryPlace i).1 (some (i, b.now))
                ∧ (∀ x ∈ b.sumSlotOf i, (b.summaryPlace i).1 = x.1 ∧ c.tag.queue = b.tag.queue ++ (List.range 8).map fun k =>
                    { kind := .summary, page := 0x108 + 8 * x.1 + k, data := (img.drop (4 * k)).take 4 })
                ∧ (b.sumSlotOf i = none → c.tag.queue.length = b.tag.queue.length + 16
                    ∧ c.tag.queue.take (b.tag.queue.length + 8) = b.tag.queue ++ (List.range 8).map (fun k =>
                      { kind := .summary, page := 0x108 + 8 * (b.summaryPlace i).1 + k, data := (img.drop (4 * k)).take 4 })
                    ∧ c.tag.queue.getLast?.map (·.page) = some 0x101))))

/-- The host port (R175 to R179, R185, R465). A frame with a good CRC is counted, sets `ALIVE` and is answered with the status
byte, and a response behind its marker 0x5A; one that meets a WRITE still executing ends BUSY, but for STATUS. READ and WRITE
move words of SRAM that HOST may reach, and WRITE sets BUSY. MBX_SEND posts where HOST is the sender, at once where none of
its writes is under way, MBX_TAKE answers and takes the held notice where HOST is the receiver. The tag's commands read its
pages, queue writes of pages that the wired side may write, and show its status. A frame whose CRC is bad ends CRC, an unknown
command CMD_BAD, one cut short ends ABANDONED; HOST is off after `CFG.IDLE` without a good frame. The operands, that a command
out of its moment changes nothing, and the readings of log entries 1, 11, 23, 70, 72, 73, 74, 130 and 175 are the model's
choice. -/
def Obligations.HostFrames : Prop :=
  (∀ (early : Bool) (a : Word) (n : BitVec 16) (b : Block), Completes (.hostRead early a n) b fun c =>
    b.SamePages [0x07, 0x09, 0x0A, 0x0B, 0x2B, 0x2E] c ∧ (b.flips = [] → b.SameMem c) ∧ b.HostFramed early c
      (if n.toNat = 0 ∨ 256 < n.toNat then c.rd Reg.HOST.HSTAT_LAST = 3 ∧ c.resp.bytes.length = 1
        else if Block.hostRange a.toNat n.toNat = false then c.rd Reg.HOST.HSTAT_LAST = 1 ∧ c.resp.bytes.length = 1
        else (b.flips = [] → b.allowedRange 4 a.toNat (4 * n.toNat) 0 = true → c.rd Reg.HOST.HSTAT_LAST = 0)
          ∧ (b.flips = [] → b.allowedRange 4 a.toNat (4 * n.toNat) 0 = false → c.rd Reg.HOST.HSTAT_LAST = 1)
          ∧ (c.rd Reg.HOST.HSTAT_LAST = 0 → c.resp.bytes.length = 4 * n.toNat + 4 ∧ c.resp.bytes[1]? = some 0x5A#8
              ∧ (b.flips = [] → (c.resp.bytes.drop 2).take (4 * n.toNat) = b.bytes a.toNat (4 * n.toNat)))))
  ∧ (∀ (early : Bool) (a : Word) (ws : List Word) (b : Block), Completes (.hostWrite early a ws) b fun c =>
    b.SameMemBut a.toNat (4 * ws.length) c ∧ b.SamePages [0x07, 0x09, 0x0A, 0x0B, 0x2B, 0x2E] c ∧ b.HostFramed early c
      (if ws = [] ∨ 256 < ws.length then c.rd Reg.HOST.HSTAT_LAST = 3 ∧ b.SameMem c
        else if Block.hostRange a.toNat ws.length = false then c.rd Reg.HOST.HSTAT_LAST = 1 ∧ b.SameMem c
        else c.rd Reg.HOST.HSTAT_BUSY = 1
          ∧ c.rd Reg.HOST.HSTAT_LAST = (if b.allowedRange 4 a.toNat (4 * ws.length) 1 = true then 0 else 1)
          ∧ (c.rd Reg.HOST.HSTAT_LAST = 0 → c.bytes a.toNat (4 * ws.length) = ws.flatMap fun w => leBytes 4 w.toNat)))
  ∧ (∀ (early : Bool) (b : Block), Completes (.hostStatus early) b fun c =>
    b.SameMem c ∧ b.SamePages [0x09, 0x2B] c ∧ (if b.hostOpen = false then c.resp.bytes = [] ∧ b.Frame [] c
      else c.rd Reg.HOST.HSTAT_LAST = 0 ∧ c.rd Reg.HOST.HSTAT_ALIVE = 1
        ∧ c.rd Reg.HOST.FRAMES_COUNT = min (2 ^ 16 - 1) (b.rd Reg.HOST.FRAMES_COUNT + 1) ∧ c.resp.bytes.length = 12
        ∧ c.resp.bytes.head? = some (BitVec.ofNat 8 (b.hostBegin early).hostStatusByte) ∧ c.resp.bytes[1]? = some 0x5A#8
        ∧ c.resp.bytes[4]? = some (BitVec.ofNat 8 (b.rd Reg.HOST.HSTAT_LAST))
        ∧ (c.resp.bytes.drop 6).take 4 = leBytes 4 (b.ft / 65536 % 2 ^ 32)))
  ∧ (∀ (early : Bool) (n : BitVec 8) (ptr : Word) (len : BitVec 16) (tag : BitVec 8) (b : Block),
    Completes (.mbxSend early n ptr len tag) b fun c =>
      b.SameMem c ∧ b.SamePages [0x09, 0x0B, 0x2B, 0x2E] c ∧ b.HostFramed early c
        (if 16 ≤ n.toNat then c.rd Reg.HOST.HSTAT_LAST = 3
          else if b.mbxSender n.toNat ≠ 4 then c.rd Reg.HOST.HSTAT_LAST = 6
          else c.rd Reg.HOST.HSTAT_LAST = 0 ∧ (b.writing 9 = false → b.mbxReceiver n.toNat = 0 → b.is Reg.DBG.HALT_MAIN = false →
            n.toNat < b.mbx.length → c.rd (Reg.MBX.MSTAT_FULL n.toNat) = 1
              ∧ c.rd (Reg.MBX.RX_PTR_PTR n.toNat) = ptr.toNat / 4 * 4 ∧ c.rd (Reg.MBX.RX_HDR_SENDER n.toNat) = 4)))
  ∧ (∀ (early : Bool) (n : BitVec 8) (b : Block), Completes (.mbxTake early n) b fun c =>
    b.SameMem c ∧ b.SamePages [0x09, 0x2B] c ∧ b.HostFramed early c
      (if 16 ≤ n.toNat then c.rd Reg.HOST.HSTAT_LAST = 3 ∧ c.resp.bytes.length = 1
        else c.rd Reg.HOST.HSTAT_LAST = 0 ∧ c.resp.bytes.length = 13
          ∧ (b.mbxReceiver n.toNat = 4 → c.heldNotice n.toNat = none ∧ ∀ x ∈ b.heldNotice n.toNat,
              (c.resp.bytes.drop 2).take 8 = leBytes 4 x.ptr ++ leBytes 2 x.len ++ leBytes 1 x.tag ++ leBytes 1 x.sender)))
  ∧ (∀ (early : Bool) (page : BitVec 16) (n : BitVec 8) (b : Block), Completes (.tagRead early page n) b fun c =>
    b.SameMem c ∧ b.SamePages [0x09, 0x2B] c ∧ b.HostFramed early c
      (if n.toNat = 0 ∨ 64 < n.toNat then c.rd Reg.HOST.HSTAT_LAST = 3
        else if 256 < page.toNat + n.toNat then c.rd Reg.HOST.HSTAT_LAST = 1
        else c.rd Reg.HOST.HSTAT_LAST = 0 ∧ (c.resp.bytes.drop 2).take (4 * n.toNat)
          = (List.range n.toNat).flatMap fun k => b.tagPage (page.toNat + k)))
  ∧ (∀ (early : Bool) (page : BitVec 16) (ws : List Word) (b : Block), Completes (.tagWrite early page ws) b fun c =>
    b.SameMem c ∧ b.SamePages [0x09, 0x2A, 0x2B] c ∧ b.HostFramed early c
      (if ws = [] ∨ 4 < ws.length then c.rd Reg.HOST.HSTAT_LAST = 3 ∧ c.tag = b.tag
        else if ((List.range ws.length).all fun k => Block.wiredPage (page.toNat + k)) = false then
          c.rd Reg.HOST.HSTAT_LAST = 1 ∧ c.tag = b.tag
        else if 4 < b.buffered + ws.length then c.rd Reg.HOST.HSTAT_LAST = 7 ∧ c.tag = b.tag
        else c.rd Reg.HOST.HSTAT_LAST = 0 ∧ c.tag.queue = b.tag.queue ++ ws.zipIdx.map fun e =>
          { kind := .buffer, page := page.toNat + e.2, data := leBytes 4 e.1.toNat }))
  ∧ (∀ (early : Bool) (b : Block), Completes (.tagStat early) b fun c =>
    b.SameMem c ∧ b.SamePages [0x09, 0x2B] c ∧ b.HostFramed early c
      (c.rd Reg.HOST.HSTAT_LAST = 0 ∧ c.resp.bytes.length = 8
        ∧ (c.resp.bytes.drop 3).take 2 = b.bytes (tagBase + 0x320) 2))
  ∧ (∀ (early : Bool) (mosi : List Byte) (b : Block), Completes (.hostBadFrame early mosi) b fun c =>
    let m := mosi.take (mosi.length - 2)
    let busy := early && b.is Reg.HOST.HSTAT_BUSY
    if b.hostOpen = false then c.resp.bytes = [] ∧ b.Frame [] c
    else if 3 ≤ mosi.length ∧ leValue (mosi.drop (mosi.length - 2)) = crc16 m then
      (Block.hostCommand m = none → b.SameMem c ∧ b.SamePages [0x09, 0x2B] c
          ∧ b.HostFramed early c (c.rd Reg.HOST.HSTAT_LAST = 3 ∧ c.resp.bytes.length = 1))
        ∧ (∀ x ∈ Block.hostCommand m, c = b.hostFrame early x.1 x.2)
    else c.rd Reg.HOST.HSTAT_LAST = (if busy = true ∧ leValue (mosi.take 1) ≠ 3 then 7 else 2)
      ∧ (c.rd (Reg.HDR.ERR 0x2B)).testBit 0 = true ∧ c.host = b.host
      ∧ b.Frame ([Reg.HOST.HSTAT_LAST, Reg.HOST.HSTAT_BUSY, Reg.HOST.CRC_ERRS_COUNT] ++ errFlds 0x2B) c)
  ∧ (∀ (early : Bool) (b : Block), Completes (.hostFrameAbandon early) b fun c =>
    if b.hostOpen = true then
      c.rd Reg.HOST.HSTAT_LAST = (if early = true ∧ b.is Reg.HOST.HSTAT_BUSY = true then 7 else 5)
        ∧ b.Frame [Reg.HOST.HSTAT_LAST, Reg.HOST.HSTAT_BUSY] c
    else c.resp.bytes = [] ∧ b.Frame [] c)
  ∧ (∀ b : Block, Completes .hostIdleTimeout b fun c =>
    if b.hostOpen = true ∧ b.is Reg.HOST.HSTAT_ALIVE = true ∧ b.host.lastGood + b.rd Reg.HOST.CFG_IDLE * 100 ≤ b.now then
      c.rd Reg.HOST.HSTAT_ALIVE = 0 ∧ (c.rd (Reg.HDR.ERR 0x2B)).testBit 1 = true ∧ b.SameMem c
        ∧ b.SamePages [0x09, 0x0B, 0x2B, 0x2E] c
    else c = b)

/-- The calibration set (R143 to R145). A rewrite starts in SERVICE alone, from a set in SRAM that MAIN may read, with a
source and every section within its limits, and waits for the flash controller; each refusal shows its result. Once it has the
controller its end stores the set, records it and asks for the reload that the next pool edge makes; a failed one is an error.
The reload shows which sections are valid, with the fallback of section 1 where it is not. The operands, that a command out of
its moment changes nothing, and the readings of log entries 1, 11, 68 and 141 are the model's choice. -/
def Obligations.CalibrationSet : Prop :=
  (∀ b : Block, Completes .calRewriteStart b fun c =>
    let buf := b.rd Reg.CAL.BUF_ADDR
    let set := (b.fetch 10 buf 0x150 (fenced := false)).2
    let bad (bs : List Byte) : Option Nat := (List.range 6).find? fun k => (Block.u16At bs 6).testBit (k + 1)
      && !Block.calLimits (k + 1) ((bs.drop ((Block.calSection (k + 1)).1 + 8)).take (Block.calSection (k + 1)).2)
    (b.flips = [] → b.SameMem c) ∧ b.SamePages [0x07, 0x0A, 0x0B, 0x0D, 0x0E, 0x2E] c
      ∧ (if b.cal.job.isSome = true then (c.rd (Reg.HDR.ERR 0x0D)).testBit 3 = true ∧ c.cal = b.cal
        else if b.mode ≠ .service ∨ b.pageFailed 0x0D = true then c.rd Reg.CAL.RES_RES = 3 ∧ c.cal = b.cal
        else if buf % 4 ≠ 0 ∨ b.allowedRange 0 buf 0x150 0 = false then c.rd Reg.CAL.RES_RES = 5 ∧ c.cal = b.cal
        else if b.rd Reg.CAL.SOURCE_SRC = 0 then c.rd Reg.CAL.RES_RES = 4 ∧ c.cal = b.cal
        else (set = none → c.rd Reg.CAL.RES_RES = 5 ∧ c.cal = b.cal)
          ∧ (∀ bs ∈ set, ∀ k ∈ bad bs, c.rd Reg.CAL.RES_RES = 4 ∧ c.rd Reg.CAL.RES_SECTION = k + 1 ∧ c.cal = b.cal)
          ∧ (∀ bs ∈ set, bad bs = none → c.rd Reg.CAL.RES_RES = 1 ∧ c.cal.job.isSome = true
              ∧ (b.rd Reg.FLASH.OWNER_OWNER = 0 → b.flash.waiting = [] →
                  c.rd Reg.FLASH.OWNER_OWNER = 4 ∧ c.cal.rewrite = true)
              ∧ (b.rd Reg.FLASH.OWNER_OWNER ≠ 0 → c.rd Reg.FLASH.OWNER_OWNER = b.rd Reg.FLASH.OWNER_OWNER))))
  ∧ (∀ (ok : Bool) (b : Block), Completes (.calRewriteEnd ok) b fun c =>
    (b.cal.job = none ∨ b.rd Reg.FLASH.OWNER_OWNER ≠ 4 → c = b) ∧ (b.rd Reg.FLASH.OWNER_OWNER = 4 → ∀ img ∈ b.cal.job,
      c.cal.job = none ∧ c.cal.reload = true ∧ (c.rd (Reg.HDR.IRQ_RAW 0x0D)).testBit 0 = true
        ∧ c.rd Reg.CAL.RES_RES = (if b.cal.quiet = true then 0 else if ok = true then 2 else 6)
        ∧ (ok = true → img.length ≤ 4096 → c.bytes calBase img.length = img)
        ∧ (ok = false → (c.rd (Reg.HDR.ERR 0x0D)).testBit 0 = true)
        ∧ b.SameMemBut calBase (max 4096 img.length) c ∧ b.SamePages [0x0B, 0x0D, 0x0E, 0x2E] c))
  ∧ (∀ b : Block, Completes .calReload b fun c =>
    if b.cal.reload = true then
      c.cal.reload = false ∧ b.SameMem c
        ∧ b.SamePages [0x0B, 0x0D, 0x10, 0x11, 0x12, 0x13, 0x20, 0x21, 0x22, 0x23, 0x2E, 0x07, 0x09] c
        ∧ c.rd Reg.CAL.VALID_HDR = (if b.calHeaderOk then 1 else 0)
        ∧ (b.calHeaderOk = true → c.rd Reg.CAL.WCOUNT_COUNT = b.val (calBase + 8) 4)
        ∧ (b.calSectionOk 1 = false → c.cal.gain = List.replicate 16 32768 ∧ c.cal.offset = List.replicate 16 0)
        ∧ (∀ k ∈ List.range 6, (c.rd Reg.CAL.VALID_SECT).testBit k = b.calSectionOk (k + 1))
    else c = b)

/-- The flash controller (R146 to R149). The page takes one operation at a time and refuses with its reason one that may not
run; it is busy at once where nobody has or waits for the controller, and queued otherwise. Once the page has the controller
the operation ends with the sector erased or the page programmed and verified; an abort withdraws or stops it. A read of flash
is answered meanwhile and changes nothing. The operands, that a command out of its moment changes nothing, and the readings of
log entries 1, 11, 3, 69, 140, 141 and 159 are the model's choice. -/
def Obligations.FlashController : Prop :=
  (∀ b : Block, Completes .erase b fun c =>
    let free := b.rd Reg.FLASH.OWNER_OWNER == 0 && [1, 2, 3].all (fun r => !b.flash.waiting.contains r) && b.cal.job.isNone
    b.SameMem c ∧ b.SamePages [0x0B, 0x0E, 0x2E] c
      ∧ (if b.flash.op.isSome = true then (c.rd (Reg.HDR.ERR 0x0E)).testBit 0 = true ∧ c.flash = b.flash
        else if b.flashRefused (b.rd Reg.FLASH.ADDR_ADDR) = true ∨ b.pageFailed 0x0E = true then
          c.rd Reg.FLASH.RES_RES = 5 ∧ c.flash = b.flash
        else if b.rd Reg.FLASH.ADDR_ADDR % 4096 ≠ 0 then c.rd Reg.FLASH.RES_RES = 6 ∧ c.flash = b.flash
        else (c.flash.op.map fun o => (o.op, o.addr)) = some (1, b.rd Reg.FLASH.ADDR_ADDR)
          ∧ c.rd Reg.FLASH.RES_RES = (if free then 2 else 1) ∧ (free = true → c.rd Reg.FLASH.OWNER_OWNER = 5)))
  ∧ (∀ b : Block, Completes .program b fun c =>
    let free := b.rd Reg.FLASH.OWNER_OWNER == 0 && [1, 2, 3].all (fun r => !b.flash.waiting.contains r) && b.cal.job.isNone
    b.SameMem c ∧ b.SamePages [0x0B, 0x0E, 0x2E] c
      ∧ (if b.flash.op.isSome = true then (c.rd (Reg.HDR.ERR 0x0E)).testBit 0 = true ∧ c.flash = b.flash
        else if b.flashRefused (b.rd Reg.FLASH.ADDR_ADDR) = true ∨ b.pageFailed 0x0E = true then
          c.rd Reg.FLASH.RES_RES = 5 ∧ c.flash = b.flash
        else if b.rd Reg.FLASH.ADDR_ADDR % 256 ≠ 0 ∨ b.rd Reg.FLASH.SRC_ADDR % 4 ≠ 0 then
          c.rd Reg.FLASH.RES_RES = 6 ∧ c.flash = b.flash
        else if b.allowedRange 0 (b.rd Reg.FLASH.SRC_ADDR) 256 0 = false then c.rd Reg.FLASH.RES_RES = 8 ∧ c.flash = b.flash
        else (c.flash.op.map fun o => (o.op, o.addr, o.src))
              = some (2, b.rd Reg.FLASH.ADDR_ADDR, b.rd Reg.FLASH.SRC_ADDR)
          ∧ c.rd Reg.FLASH.RES_RES = (if free then 2 else 1) ∧ (free = true → c.rd Reg.FLASH.OWNER_OWNER = 5)))
  ∧ (∀ b : Block, Completes .flashAbort b fun c =>
    if b.flash.op = none then c = b
    else c.flash.op = none ∧ c.flash.quiet = b.flash.quiet ∧ c.rd Reg.FLASH.RES_RES = 4
      ∧ (c.rd (Reg.HDR.IRQ_RAW 0x0E)).testBit 0 = true
      ∧ (b.rd Reg.FLASH.RES_RES ≠ 2 → b.SameMem c) ∧ (b.flips = [] → ∀ o ∈ b.flash.op, b.SameMemBut o.addr 4096 c)
      ∧ b.SamePages [0x0A, 0x0B, 0x0E, 0x2E] c)
  ∧ (∀ (ok : Bool) (b : Block), Completes (.flashOpEnd ok) b fun c =>
    if b.rd Reg.FLASH.OWNER_OWNER ≠ 5 ∨ (b.flash.quiet = none ∧ b.flash.op = none) then c = b
    else b.SamePages [0x0A, 0x0B, 0x0E, 0x2E] c
      ∧ (b.flash.quiet = none → ∀ o ∈ b.flash.op,
          c.flash.op = none ∧ (c.rd (Reg.HDR.IRQ_RAW 0x0E)).testBit 0 = true
            ∧ (o.op = 1 → c.rd Reg.FLASH.RES_RES = 3 ∧ b.SameMemBut o.addr 4096 c
                ∧ ∀ k ∈ List.range 16, inRange 0x10000000 0x400000 (o.addr + 256 * k) = true → c.byte (o.addr + 256 * k) = 0xFF#8)
            ∧ (o.op ≠ 1 → c.rd Reg.FLASH.RES_RES = 3 ∨ (c.rd Reg.FLASH.RES_RES = 7 ∧ (c.rd (Reg.HDR.ERR 0x0E)).testBit 1 = true))
            ∧ (o.op ≠ 1 → ok = false → c.rd Reg.FLASH.RES_RES = 7)
            ∧ (o.op ≠ 1 → b.flips = [] → b.SameMemBut o.addr 256 c))
      ∧ (∀ o ∈ b.flash.quiet, c.flash.quiet = none ∧ c.flash.op = b.flash.op))
  ∧ (∀ (a : Word) (b : Block), Completes (.flashCacheMissSuspend a) b fun c =>
    c.flash = b.flash ∧ b.Frame [] c
      ∧ (isFlash a.toNat = true → c.resp.word = b.flashWord (a.toNat / 4 * 4) % 2 ^ 32))

/-- Shared memory (R154 to R165, R180, R184). An access outside SRAM fails where the map has something else there or MAIN
makes it, and otherwise answers 0; one outside the map is recorded. One that is granted its beat and allowed by the fences
reads the word, or writes whole words with good check bits; one changed bit does not reach the reader and is mended; a denied
one is an error that is recorded; one that is not granted waits. An access that leaves a bank free lets a capture's waiting
sample be written. The beats of a burst are checked at its first one alone. The scrub, where it is granted, reads its next
word and mends one changed bit there. Injections are accepted in SERVICE, for one or two bits. Fence rules come into force at
the drip edge after a commit. A reservation is stored no higher than written, a bank whose reservations fit still fits, and
TOTAL shows their sum. The operands, that a command out of its moment changes nothing, and the readings of log entries 1, 11,
76, 131, 134, 136 and 157 are the model's choice. -/
def Obligations.SramAndFences : Prop :=
  (∀ (master : Fin 10) (a : Word) (kind size : Fin 3) (v : Word) (more : Fin 8) (rivals : List (Fin 14)) (late : Bool)
      (upset : BitVec 39) (b : Block), b.burstOf master.val = none →
    Completes (.sramAccess master a kind size v (some more) rivals late upset) b fun c =>
      let w := a.toNat / 4 * 4
      let whole := size.val == 0 || more.val != 0
      let granted := b.grantOf (bankOf a.toNat) late (master.val :: rivals.map (·.val)) == master.val
      b.SameOutside (fun x => inRange w 4 x || b.sampleAt x) c ∧ b.SamePages [0x07, 0x09, 0x0A, 0x0B, 0x20, 0x2E] c
        ∧ (isSram a.toNat = false → b.OutsideSram master a.toNat c ∧ b.Frame evFlds c)
        ∧ (isSram a.toNat = true → granted = true → b.allowed (masterAgent master) w kind = true → more.val ≠ 0 →
            c.burstOf master.val = some (master.val, w + 4, kind.val, more.val))
        ∧ (isSram a.toNat = true → upset = 0 → granted = true → b.sampleHeld = false →
          if b.allowed (masterAgent master) w kind = false then
            c.resp.err = true ∧ b.SameMem c ∧ c.rd Reg.FENCE.VIOL_ADDR_ADDR = a.toNat
              ∧ (c.rd (Reg.HDR.IRQ_RAW 0x07)).testBit 0 = true
          else if kind.val = 1 then
            whole = true → c.val w 4 = v.toNat ∧ c.resp.err = false ∧ (b.sram.inject = none → c.flipOf w = 0)
          else b.flipOf w = 0 → b.SameMem c ∧ c.resp.err = false ∧ (whole = true → c.resp.word = b.val w 4))
        ∧ (isSram a.toNat = true → upset ∈ (List.range 39).map (1#39 <<< ·) → b.flipOf w = 0 → granted = true →
            b.allowed (masterAgent master) w 0 = true → kind.val = 0 → whole = true → b.sampleHeld = false →
              c.resp.word = b.val w 4 ∧ c.flipOf w = 0 ∧ b.SameMem c ∧ (c.rd (Reg.HDR.ERR 0x0A)).testBit 0 = true)
        ∧ (isSram a.toNat = true → granted = false → c.resp = {} ∧ b.Frame [] c
            ∧ Store.find (fun _ => 0) c.sram.wanted (Block.pairOf master (bankOf a.toNat)) = if kind.val = 1 then 2 else 1))
  ∧ (∀ (master : Fin 10) (a : Word) (kind size : Fin 3) (v : Word) (rivals : List (Fin 14)) (late : Bool)
      (upset : BitVec 39) (b : Block), Completes (.sramAccess master a kind size v none rivals late upset) b fun c =>
      (b.burstOf master.val = none → c = { b with resp := {} })
        ∧ (∀ x ∈ b.burstOf master.val, isSram x.2.1 = false → b.sampleHeld = false → b.OutsideSram master x.2.1 c ∧ b.SameMem c)
        ∧ (∀ x ∈ b.burstOf master.val, isSram x.2.1 = true →
          let w := x.2.1 / 4 * 4
          if b.grantOf (bankOf x.2.1) late (master.val :: rivals.map (·.val)) = master.val then
            b.SameOutside (fun y => inRange w 4 y || b.sampleAt y) c ∧ b.SamePages [0x07, 0x09, 0x0A, 0x0B, 0x20, 0x2E] c
              ∧ c.burstOf master.val
                = (if x.2.2.2 ≤ 1 then none else some (master.val, x.2.1 + 4, x.2.2.1, x.2.2.2 - 1))
              ∧ (x.2.2.1 = 1 → b.sampleHeld = false → c.val w 4 = v.toNat ∧ c.resp.err = false)
              ∧ (x.2.2.1 ≠ 1 → upset = 0 → b.flipOf w = 0 → b.sampleHeld = false → c.resp.err = false ∧ b.SameMem c)
          else c.resp = {} ∧ b.Frame [] c))
  ∧ (∀ (bank : Fin 8) (late : Bool) (rivals : List (Fin 13)) (upset : BitVec 39) (overtaken : Bool) (b : Block),
    Completes (.scrubRead bank late rivals upset overtaken) b fun c =>
      let a := 0x20000000 + bank.val * 0x40000 + Store.find (fun _ => 0) b.sram.scrubTotal bank.val % 65536 * 4
      if b.scrubWants bank = true ∧ b.grantOf bank late (13 :: rivals.map (·.val)) = 13 then
        Store.find (fun _ => 0) c.sram.scrubbed bank.val = Store.find (fun _ => 0) b.sram.scrubbed bank.val + 1
          ∧ Store.find (fun _ => 0) c.sram.scrubTotal bank.val = Store.find (fun _ => 0) b.sram.scrubTotal bank.val + 1
          ∧ b.SameMemBut a 4 c ∧ (overtaken = true → b.SameMem c)
          ∧ (overtaken = false → upset ∈ (List.range 39).map (1#39 <<< ·) → b.flipOf a = 0 →
              c.flipOf a = 0 ∧ b.SameMem c ∧ (c.rd (Reg.HDR.ERR 0x0A)).testBit 0 = true)
          ∧ b.SamePages [0x0A, 0x0B, 0x2E] c
      else c = b)
  ∧ (∀ (mask : Word) (b : Block), Completes (.eccInject mask) b fun c =>
    if b.mode = .service ∧ (Block.popCount mask.toNat = 1 ∨ Block.popCount mask.toNat = 2)
        ∧ isSram (b.rd Reg.ECC.INJ_ADDR_ADDR) = true then
      c.sram.inject = some (b.rd Reg.ECC.INJ_ADDR_ADDR / 4, mask.toNat) ∧ b.Frame [] c
    else c = b)
  ∧ (∀ b : Block, Completes .fenceCommit b fun c =>
    c.rd Reg.HDR.FENCE_PENDING = 1 ∧ c.sram = b.sram ∧ b.Frame [Reg.HDR.FENCE_PENDING] c)
  ∧ (∀ (levels : List Bool) (b : Block), Completes (.fenceApply levels) b fun c =>
    (b.is Reg.HDR.FENCE_PENDING = false ∨ b.tickRuns = false → c = b)
      ∧ (b.is Reg.HDR.FENCE_PENDING = true → b.tickRuns = true → b.is Reg.HDR.TICK_FROZEN = false →
        b.tick.freezePending = false → b.md.leaving = none →
          c.now = b.now + 1 ∧ c.sram.rules = b.pendingRules ∧ c.rd Reg.HDR.FENCE_PENDING = 0
            ∧ c.rd Reg.FENCE.APPLIED_GEN = b.rd (Reg.HDR.GEN 0x07) ∧ (c.rd (Reg.HDR.IRQ_RAW 0x07)).testBit 1 = true))
  ∧ (∀ (master : Fin 10) (bank : Fin 8) (v : BitVec 14) (b : Block), Completes (.bwlResWrite master bank v) b fun c =>
    if b.is (Reg.HDR.LOCKED 0x08) = true then c = b
    else b.SameMem c ∧ b.SamePages [0x08, 0x0C] c ∧ c.resOf master.val bank.val ≤ v.toNat
      ∧ c.rd (Reg.HDR.GEN 0x08) = (b.rd (Reg.HDR.GEN 0x08) + 1) % 2 ^ 32
      ∧ (b.bankSum bank.val ≤ 14731 → c.bankSum bank.val ≤ 14731)
      ∧ c.rd (Reg.BWL.TOTAL_SUM bank.val) = c.bankSum bank.val % 2 ^ 14)

/-- Reads and writes of words (R5, R13, R18, R19, R54, R116, R132, R172, R316). A write by DEBUG below FULL, LOOP or HOST
changes nothing; outside the pages MAIN alone reads, flash decrypted, and writes, SRAM and the tag, with a fault where nothing
is mapped; an access outside an agent's pages is recorded and does no more; MAIN's write of `IRQ_EN` takes the bits that the
page has; no write changes an RWL field of a locked page. A read shows `IRQ_EN`, and returns clearing fields to their reset
values, but for the debug port below FULL. `BLK.SUMMARY` reads its total and clears the pages' clamp counts. `TICK.HOLD` takes
the nearest value from 10 to 1,000. An access of part of a word stores nothing and reads 0, one outside the map is recorded,
and MAIN's errs. `RECEIVER` takes the nearest code that its mailbox allows. A write through the window of a slot in AUTO is
ignored with an error; one outside the window's registers changes nothing. The operands, that a command out of its moment
changes nothing, and the readings of log entries 1, 11, 15 and 16 are the model's choice. -/
def Obligations.RegisterAccess : Prop :=
  (∀ (actor : Actor) (addr w : Word) (b : Block), Completes (.registerWrite actor addr w) b fun c =>
    let p := (addr.toNat - 0x40000000) / 0x400
    let off := addr.toNat % 0x400 / 4 * 4
    let reaches := b.powered && (actor != .debug || b.level = 2) && actor != .loop && actor != .host && isPage addr.toNat
    let mine := b.powered && (actor == .main || actor == .loader) && !isPage addr.toNat
    let at_ := addr.toNat / 4 * 4
    (reaches = false → mine = false → c = b)
      ∧ (mine = true →
          (isMapped addr.toNat = false → c.resp.err = true ∧ b.AccessRecorded actor addr.toNat c)
            ∧ (isSram addr.toNat = true → b.SameMemBut at_ 4 c ∧ (b.allowed 0 at_ 1 = true → c.val at_ 4 = w.toNat))
            ∧ (isTag addr.toNat = true → b.SameMem c ∧ (Block.wiredPage ((at_ - tagBase) / 4) = true → b.buffered < 4 →
                c.tag.queue = b.tag.queue
                  ++ [{ kind := .buffer, page := (at_ - tagBase) / 4, data := leBytes 4 w.toNat }]))
            ∧ (isFlash addr.toNat = true ∨ isOtp addr.toNat = true → c = b))
      ∧ (reaches = true → pageAllowed actor p true = false → b.AccessRecorded actor p c)
      ∧ (reaches = true → off = 0x010 → pageAllowed actor p true = true →
          c.rd (Reg.HDR.IRQ_EN p) = w.toNat &&& Block.irqBits p ∧ b.Frame [Reg.HDR.IRQ_EN p] c)
      ∧ (∀ q ∈ List.range 48, b.is (Reg.HDR.LOCKED q) = true →
          ∀ f ∈ Reg.allFields (Reg.blockRows q), f.acc = .rwl → c.rd f = b.rd f))
  ∧ (∀ (actor : Actor) (addr : Word) (b : Block), Completes (.readClear actor addr) b fun c =>
    let p := (addr.toNat - 0x40000000) / 0x400
    let off := addr.toNat % 0x400 / 4 * 4
    let reaches := b.powered && (actor != .debug || b.level != 0) && actor != .loop && actor != .host && isPage addr.toNat
    let mine := b.powered && (actor == .main || actor == .loader) && !isPage addr.toNat
    let at_ := addr.toNat / 4 * 4
    b.SameMem c ∧ (reaches = false → mine = false → c = b)
      ∧ (mine = true →
          (isMapped addr.toNat = false → c.resp.err = true ∧ b.AccessRecorded actor addr.toNat c)
            ∧ (isSram addr.toNat = true → b.flips = [] → b.allowed 0 at_ 0 = true → c.resp.word = b.val at_ 4)
            ∧ (isFlash addr.toNat = true → c.resp.word = b.flashWord at_ % 2 ^ 32 ∧ b.Frame [] c)
            ∧ (isTag addr.toNat = true → c.resp.word = leValue (b.tagPage ((at_ - tagBase) / 4)) ∧ b.Frame [] c)
            ∧ (isOtp addr.toNat = true →
                c.resp.word = (if 0x38000100 ≤ at_ ∧ at_ < 0x38000180 then 0 else b.val at_ 4) ∧ b.Frame [] c))
      ∧ (reaches = true → pageAllowed actor p false = false → c.resp.word = 0 ∧ b.AccessRecorded actor p c)
      ∧ (reaches = true → pageAllowed actor p false = true →
          (off = 0x010 → c.resp.word = b.rd (Reg.HDR.IRQ_EN p) ∧ b.Frame [] c)
            ∧ (p ∉ [0x04, 0x09, 0x26, 0x27] → ∀ f ∈ b.fieldsAt p off, f.acc = .rc →
              c.rd f = if actor = .debug ∧ b.level ≠ 2 then b.rd f else f.reset)))
  ∧ (∀ (actor : Actor) (b : Block), Completes (.blkSummaryRead actor) b fun c =>
    let reaches := b.powered && (actor != .debug || b.level != 0) && actor != .loop && actor != .host
    b.SameMem c ∧ (reaches = false → c = b)
      ∧ (reaches = true → pageAllowed actor 0x0C false = false → c.resp.word = 0 ∧ b.AccessRecorded actor 0x0C c)
      ∧ (reaches = true → pageAllowed actor 0x0C false = true →
        c.resp.word = b.fieldWord (b.fieldsAt 0x0C 0x040) % 2 ^ 32
          ∧ (if actor = .debug ∧ b.level ≠ 2 then b.Frame [] c
            else (∀ p ∈ List.range 48, c.rd (Reg.HDR.CLAMP_COUNT p) = 0)
              ∧ b.SameRegs (Reg.BLK.SUMMARY_TOTAL :: (List.range 48).map Reg.HDR.CLAMP_COUNT) c)))
  ∧ (∀ (actor : Actor) (v : Word) (b : Block), Completes (.tickHoldWrite actor v) b fun c =>
    let reaches := b.powered && (actor != .debug || b.level = 2) && actor != .loop && actor != .host
    b.SameMem c ∧ (reaches = false → c = b)
      ∧ (reaches = true → pageAllowed actor 0x03 true = false → b.AccessRecorded actor 0x03 c)
      ∧ (reaches = true → pageAllowed actor 0x03 true = true →
        if b.is (Reg.HDR.LOCKED 0x03) = true then b.Frame [] c
        else c.rd Reg.TICK.HOLD_HOLD = min 1000 (max 10 (v.toNat % 1024))
          ∧ c.rd (Reg.HDR.GEN 0x03) = (b.rd (Reg.HDR.GEN 0x03) + 1) % 2 ^ 32
          ∧ b.SameRegs [Reg.TICK.HOLD_HOLD, Reg.HDR.GEN 0x03, Reg.HDR.CLAMP_COUNT 0x03, Reg.HDR.CLAMP_OFFSET 0x03,
              Reg.HDR.CLAMP_LSB 0x03, Reg.BLK.SUMMARY_TOTAL, Reg.BLK.REP_STAT_HELD, Reg.BLK.REP_LOST_LOST,
              Reg.HDR.IRQ_RAW 0x0C] c
          ∧ (c.clamps = b.clamps ↔ c.rd Reg.TICK.HOLD_HOLD = v.toNat % 1024)))
  ∧ (∀ (actor : Actor) (addr : Word) (b : Block), Completes (.subwordRegisterAccess actor addr) b fun c =>
    let p := (addr.toNat - 0x40000000) / 0x400
    if isPage addr.toNat = false then c = b
    else c.resp.word = 0 ∧
      (if b.powered = true ∧ pageAllowed actor p false = false ∧ actor ≠ .loop ∧ actor ≠ .host then b.AccessRecorded actor p c
      else b.Frame [] c ∧ c.log = b.log))
  ∧ (∀ (actor : Actor) (addr : Word) (b : Block), Completes (.unmappedAccess actor addr) b fun c =>
    if isMapped addr.toNat = true ∨ b.powered = false then c = b
    else c.resp.err = (actor == .main || actor == .loader) ∧ c.resp.word = 0 ∧ b.AccessRecorded actor addr.toNat c)
  ∧ (∀ (radio : Bool) (page : Fin 48) (write : Bool) (b : Block), Completes (.pageAccessDenied radio page write) b fun c =>
    let a : Actor := if radio then .radio else .gnss
    if b.powered = true ∧ pageAllowed a page.val write = false then c.resp.word = 0 ∧ b.AccessRecorded a page.val c
    else c = b)
  ∧ (∀ (n : Fin 16) (receiver : Fin 8) (b : Block), Completes (.mbxReaddress n receiver) b fun c =>
    if b.powered = true then
      b.SameMem c ∧ b.SamePages [0x09, 0x0C] c ∧ (b.mbxSender n.val ≤ 4 → c.mbxSender n.val = b.mbxSender n.val)
        ∧ c.mbxReceiver n.val = (if b.is (Reg.HDR.LOCKED 0x09) = true then b.mbxReceiver n.val
            else if receiver.val ≤ 2 then receiver.val else if receiver.val = 3 then 2 else 4)
    else c = b)
  ∧ (∀ (slot : Fin 32) (off : BitVec 12) (w : Word) (b : Block), Completes (.windowWrite slot off w) b fun c =>
    let fs := (Reg.windowFieldsAt slot.val (off.toNat / 4 * 4)).filter present
    let p := slotPage slot.val
    if b.powered = false ∨ fs = [] then c = b
    else if b.slotCur slot.val = 2 ∨ b.rd (ofSlot Reg.LOOP.MODE_MODE slot.val) = 2 then
      b.Frame (errFlds p) c ∧ (c.rd (Reg.HDR.ERR p)).testBit 0 = true
    else if b.is (Reg.HDR.LOCKED p) = true then c = b
    else b.SameMem c ∧ b.SamePages [p, 0x40 + slot.val, 0x0C] c
      ∧ c.rd (Reg.HDR.GEN p) = (b.rd (Reg.HDR.GEN p) + 1) % 2 ^ 32
      ∧ (∀ f ∈ (fs.filter fun f => f.acc == .rwl).head?,
          c.rd f = unsignedOf f.width (b.legal f (Block.fieldValue f (w.toNat / 2 ^ f.lsb))).1))

/-- The controls of a page's header (R12, R13, R31, R56, R120 to R122, R130). `LOCK` is set by a write of 1. A soft reset,
where it is not ignored, keeps the page's lock, generation count and clamp report and brings its RWL fields, while it is not
locked, to their reset values. `FREEZE` is written where it is honoured, where it ends the page's running test (R489), and
page 0x03 freezes the tick. `IRQ_PEND` clears the raw bits written 1, but for the standing conditions of CANRX. `REP_CLR`
empties the clamp reports. The operands, that a command out of its moment changes nothing, and the readings of log entries 1,
11, 18, 19 and 31 are the model's choice. -/
def Obligations.PageControls : Prop :=
  (∀ (page : Fin 48) (b : Block), Completes (.lockWrite page) b fun c =>
    if b.powered = true then c.rd (Reg.HDR.LOCKED page) = 1 ∧ b.Frame [Reg.HDR.LOCKED page] c else c = b)
  ∧ (∀ (page : Fin 48) (b : Block), Completes (.softReset page) b fun c =>
    let p := page.val
    if b.powered = false ∨ softIgnored p = true ∨ (0x10 ≤ p ∧ p ≤ 0x13 ∧ b.galRuns = true) then c = b
    else b.SameOutsideSram c
      ∧ (∀ f ∈ [Reg.HDR.LOCKED p, Reg.HDR.CLAMP_COUNT p, Reg.HDR.CLAMP_OFFSET p, Reg.HDR.CLAMP_LSB p], c.rd f = b.rd f)
      ∧ (∀ f ∈ Reg.allFields (Reg.blockRows p), f.acc = .rwl →
          c.rd f = if b.is (Reg.HDR.LOCKED p) = true then b.rd f else f.reset))
  ∧ (∀ (page : Fin 48) (on : Bool) (b : Block), Completes (.blockFreeze page on) b fun c =>
    let p := page.val
    b.SameMem c ∧
      (if b.powered = false then c = b
      else if p = 0x03 then
        if on = false then
          c.rd (Reg.HDR.FREEZE p) = 0
            ∧ (if b.is Reg.HDR.TICK_FROZEN = true then
                c.rd Reg.HDR.TICK_FROZEN = 0 ∧ c.rd Reg.HDR.TICK_RUN = 1 ∧ c.rd Reg.TICK.CYC_CYC = 0
              else c.tick.freezePending = false ∧ b.Frame [Reg.HDR.FREEZE p] c)
        else if b.level = 2 ∧ b.mode = .service then
          c.rd (Reg.HDR.FREEZE p) = 1 ∧ (b.test.running.any (·.page == p) = false → b.Frame [Reg.HDR.FREEZE p] c)
            ∧ (b.is Reg.HDR.TICK_FROZEN = false → c.tick.freezePending = true)
        else b.Frame (errFlds 0x03) c ∧ (c.rd (Reg.HDR.ERR 0x03)).testBit 2 = true
      else if on = true ∧ b.freezeOk p = false then c = b
      else c.rd (Reg.HDR.FREEZE p) = (if on then 1 else 0)
        ∧ (on = true → c.test.running.any (·.page == p) = false)
        ∧ ((p < 0x1C ∨ 0x1F < p) → p ≠ 0x26 → (on = true → b.test.running.any (·.page == p) = false) →
            b.Frame [Reg.HDR.FREEZE p] c)
        ∧ (0x1C ≤ p → p ≤ 0x1F → (on = true → b.test.running.any (·.page == p) = false) →
            b.SamePages [0x1C, 0x1D, 0x1E, 0x1F] c)
        ∧ (p ≠ 0x26 → b.SamePages [p, 0x0B, 0x1C, 0x1D, 0x1E, 0x1F, 0x2E] c)))
  ∧ (∀ (page : Fin 48) (mask : Word) (b : Block), Completes (.irqPendClear page mask) b fun c =>
    if b.powered = true then
      (page.val ≠ 0x27 → c.rd (Reg.HDR.IRQ_RAW page) = b.rd (Reg.HDR.IRQ_RAW page) &&& (mask ^^^ 0xFFFFFFFF#32).toNat
          ∧ b.Frame [Reg.HDR.IRQ_RAW page] c)
        ∧ b.SameMem c ∧ b.SamePages [page.val] c
    else c = b)
  ∧ (∀ b : Block, Completes .repClr b fun c =>
    c.clamps = [] ∧ c.rd Reg.BLK.REP_STAT_HELD = 0 ∧ b.Frame [Reg.BLK.REP_STAT_HELD] c)

/-- Memory and registers over the debug port (R100, R114 to R117). At level NONE, DREAD reads 0 and changes nothing. Above it
DREAD reads no memory but the recorder's and the tag's, a read of `IRQ_EN` shows it, and its only writes are to `TEST` and
`STEST.RETEST`; an access where nothing is mapped is recorded. Below FULL, DACC reads 0 and changes nothing. At FULL it reads
flash, the tag and OTP as stored, but 0 for the records of KS01 and KS05, and writes a word of SRAM that the fence lets MAIN
write; flash and OTP take no write. The operands, that a command out of its moment changes nothing, and the readings of log
entries 1, 11 and 54 are the model's choice. -/
def Obligations.DebugAccess : Prop :=
  (∀ (a : Word) (w : Option Word) (b : Block), Completes (.dread a w) b fun c =>
    b.SameMem c ∧
      (if b.portPowered = false then c = b
      else if b.level = 0 then b.Frame [] c ∧ (w = none → c.resp.word = 0)
      else (w = none → isMapped a.toNat = true → b.dreadReach a.toNat = false → c.resp.word = 0 ∧ b.Frame [] c)
        ∧ (w = none → isTag a.toNat = true →
            c.resp.word = leValue (b.tagPage ((a.toNat / 4 * 4 - tagBase) / 4)) ∧ b.Frame [] c)
        ∧ (w = none → isPage a.toNat = true → b.powered = true → a.toNat % 0x400 / 4 * 4 = 0x010 →
            c.resp.word = b.rd (Reg.HDR.IRQ_EN ((a.toNat - 0x40000000) / 0x400)) ∧ b.Frame [] c)
        ∧ (isMapped a.toNat = false → b.powered = true → (w = none → c.resp.word = 0) ∧ b.AccessRecorded .debug a.toNat c)
        ∧ (w.isSome = true → isMapped a.toNat = true → isPage a.toNat = false ∨ (a.toNat % 0x400 / 4 * 4 ≠ 0x020 ∧ a.toNat / 4 * 4 ≠ 0x4000B864) →
            b.Frame [] c)))
  ∧ (∀ (a : Word) (w : Option Word) (b : Block), Completes (.dacc a w) b fun c =>
    let at_ := a.toNat / 4 * 4
    if b.portPowered = false then c = b
    else if b.level ≠ 2 then b.Frame [] c ∧ (w = none → c.resp.word = 0)
    else
      (w = none → isFlash a.toNat = true → c.resp.word = b.val at_ 4 ∧ b.Frame [] c)
        ∧ (w = none → isTag a.toNat = true → c.resp.word = leValue (b.tagPage ((at_ - tagBase) / 4)) ∧ b.Frame [] c)
        ∧ (w = none → isOtp a.toNat = true →
            c.resp.word = (if 0x38000100 ≤ at_ ∧ at_ < 0x38000180 then 0 else b.val at_ 4) ∧ b.Frame [] c)
        ∧ (∀ v ∈ w, isSram a.toNat = true → b.SameMemBut at_ 4 c
            ∧ (b.allowed 0 at_ 1 = true → c.val at_ 4 = v.toNat) ∧ (b.allowed 0 at_ 1 = false → b.SameMem c))
        ∧ (w.isSome = true → isFlash a.toNat = true ∨ isOtp a.toNat = true → b.Frame [] c))

/-- Transmission by the CAN controller (R336, R338, R341, R342, R350 to R357). Enabling takes the stored bit timing into
force, unless an earlier disable still waits; a disable waits for the frame on the bus, and otherwise ends every entry
FLUSHED. A push appends one entry, or refuses a reserved tag or a full queue; a DMA push appends what it counts. An attempt
that is sent reports SENT, one that loses arbitration leaves the head where it is, and one that fails counts and is repeated,
or reports RETRY_OUT at its limit; TEC follows, short of bus-off. ALL aborts every entry but one on the bus, which is marked;
an unknown tag aborts none. Errors outside an attempt move the counters. `RECOVER` leaves bus-off, and the end of recovery
returns the counters to 0. The operands, that a command out of its moment changes nothing, and the readings of log entries 1,
11, 95, 96, 97 and 168 are the model's choice. -/
def Obligations.CanTransmit : Prop :=
  (∀ b : Block, Completes .canEnable b fun c =>
    if b.is (Reg.HDR.EN 0x26) = true then c = b
    else if b.can.stopping = true then
      c.rd (Reg.HDR.EN 0x26) = 1 ∧ c.can = { b.can with again := true } ∧ b.Frame [Reg.HDR.EN 0x26] c
    else if b.running 5 = false ∨ b.pageFailed 0x26 = true ∨ b.pageFailed 0x27 = true then b.Frame [] c ∧ c.can = b.can
    else c.rd (Reg.HDR.EN 0x26) = 1 ∧ c.rd Reg.HDR.CAN_RUN = 1 ∧ c.rd Reg.CANRX.FIFO_STAT_NEXT_SEQ = 0
      ∧ c.can.timing = b.canTiming ∧ c.lip.discover = true ∧ c.can.queue = b.can.queue
      ∧ b.Frame [Reg.HDR.EN 0x26, Reg.HDR.CAN_RUN, Reg.CANRX.FIFO_STAT_NEXT_SEQ, Reg.CAN.ERRC_RESTR, Reg.HDR.CAN_FROZEN] c)
  ∧ (∀ (bus : BusUse) (b : Block), Completes (.canDisable bus) b fun c =>
    if b.is (Reg.HDR.EN 0x26) = false then c = b
    else c.rd (Reg.HDR.EN 0x26) = 0 ∧ b.SameMem c ∧ b.SamePages [0x0B, 0x26, 0x2E] c
      ∧ (if b.can.stopping = true then c.can = { b.can with again := false } ∧ b.Frame [Reg.HDR.EN 0x26] c
        else if b.is Reg.HDR.CAN_RUN = true ∧ b.rd Reg.CAN.ERRC_STATE < 2
            ∧ (bus = .other ∨ (bus = .own ∧ b.canActive = true ∧ b.can.queue ≠ [])) then
          c.can.stopping = true ∧ c.can.queue = b.can.queue ∧ c.rd Reg.HDR.CAN_RUN = b.rd Reg.HDR.CAN_RUN
        else c.can.queue = [] ∧ c.lip.outbox = [] ∧ c.rd Reg.HDR.CAN_RUN = 0 ∧ c.rd Reg.CAN.TX_STAT_COUNT = 0
          ∧ c.can.done = (b.can.done ++ b.can.queue.map fun (e : TxEntry) => (e.tag + 4 * 256 + min 15 e.attempts * 4096, b.canTs)).take
              (max 32 b.can.done.length)))
  ∧ (∀ b : Block, Completes .txPush b fun c =>
    b.SameMem c ∧ b.SamePages [0x0B, 0x26, 0x2E] c
      ∧ (if b.running 5 = false then c = b
        else if 0xF0 ≤ b.rd Reg.CAN.TX_CTL_TAG then c.rd Reg.CAN.TX_STAT_PUSH_RES = 3 ∧ c.can = b.can
        else if 32 ≤ b.can.queue.length then
          c.rd Reg.CAN.TX_STAT_PUSH_RES = 2 ∧ c.can = b.can ∧ (c.rd (Reg.HDR.ERR 0x26)).testBit 3 = true
        else c.rd Reg.CAN.TX_STAT_PUSH_RES = 1 ∧ c.can.queue = b.can.queue ++ [{
          id := b.rd Reg.CAN.TX_ID_ID, dlc := b.rd Reg.CAN.TX_CTL_DLC, limit := b.rd Reg.CAN.TX_CTL_LIMIT,
          tag := b.rd Reg.CAN.TX_CTL_TAG, d0 := b.rd Reg.CAN.TX_D0_DATA, d1 := b.rd Reg.CAN.TX_D1_DATA }]
          ∧ c.rd Reg.CAN.TX_STAT_COUNT = b.can.queue.length + 1))
  ∧ (∀ b : Block, Completes .txdmaGo b fun c =>
    if b.running 5 = false then c = b
    else (b.flips = [] → b.SameMem c) ∧ b.SamePages [0x07, 0x0A, 0x0B, 0x26, 0x2E] c
      ∧ c.can.queue.length = b.can.queue.length + c.rd Reg.CAN.TXDMA_STAT_PUSHED
      ∧ c.can.queue.take b.can.queue.length = b.can.queue
      ∧ (c.rd Reg.CAN.TXDMA_STAT_RES = 2 → c.rd Reg.CAN.TXDMA_STAT_PUSHED = min 32 (b.rd Reg.CAN.TXDMA_N_N))
      ∧ c.rd Reg.CAN.TXDMA_STAT_RES ∈ [2, 3, 4, 5]
      ∧ (c.rd Reg.CAN.TXDMA_STAT_RES = 3 → 32 ≤ c.can.queue.length))
  ∧ (∀ (o : CanOutcome) (ago : BitVec 16) (exempt : Bool) (b : Block), Completes (.canTxAttemptEnd o ago exempt) b fun c =>
    b.SameMem c ∧ b.SamePages (if b.can.resetDue then [0x03, 0x0B, 0x26, 0x27, 0x2E] else [0x0B, 0x26, 0x27, 0x2E]) c
      ∧ (b.can.resetDue = false → b.canActive = false ∨ b.can.queue = [] → c = b)
      ∧ (b.canActive = true → b.can.stopping = false → b.can.resetDue = false → ∀ e ∈ b.can.queue.head?,
        (o = .sent → c.rd Reg.CAN.NOACK_RUN = 0 ∧ c.rd Reg.CAN.NOACK_ALONE = 0 ∧ c.tec = min 255 (b.tec - 1)
            ∧ (c.rd (Reg.HDR.IRQ_RAW 0x26)).testBit 0 = true
            ∧ (b.tec ≤ 255 → b.can.done.length < 32 → c.can.done.length = b.can.done.length + 1
                ∧ (c.can.done.getLast?.map (·.1)) = some (e.tag + 256 + min 15 e.attempts * 4096)))
          ∧ (o = .lost → e.abort = false → c.can.done = b.can.done ∧ c.tec = b.tec
              ∧ c.can.queue.head? = b.can.queue.head? ∧ c.waiting = b.waiting)
          ∧ (∀ lec : Fin 7, o = .error lec →
              c.rd Reg.CAN.ERRC_LEC = lec.val ∧ (c.rd (Reg.HDR.ERR 0x26)).testBit 0 = true
              ∧ (exempt = false → c.tec = min 255 (b.tec + 8))
              ∧ (e.abort = false ∧ e.attempts < e.limit ∧ b.tec ≤ 247 →
                  (c.can.queue.head?.map fun x => (x.id, x.tag, x.attempts)) = some (e.id, e.tag, e.attempts + 1)
                    ∧ c.can.done = b.can.done)
              ∧ (e.abort = false ∧ e.limit ≤ e.attempts ∧ b.tec ≤ 247 ∧ b.can.done.length < 32 →
                  (c.can.done.getLast?.map (·.1)) = some (e.tag + 2 * 256 + min 15 (e.attempts + 1) * 4096)))))
  ∧ (∀ (tag : Byte) (all sending : Bool) (b : Block), Completes (.txAbort tag all sending) b fun c =>
    b.SameMem c ∧ b.SamePages [0x0B, 0x26, 0x2E] c
      ∧ (all = false → (b.can.queue.any fun e => e.tag == tag.toNat) = false → c = b)
      ∧ (all = true → (sending && b.canActive && !b.can.queue.isEmpty) = false → c.can.queue = [])
      ∧ (all = true → (sending && b.canActive && !b.can.queue.isEmpty) = true →
          c.can.queue = (b.can.queue.take 1).map fun e => { e with abort := true }))
  ∧ (∀ (lec : Fin 7) (transmitting : Bool) (more : Fin 16) (b : Block), Completes (.canBusError lec transmitting more) b fun c =>
    b.SameMem c ∧ b.SamePages (if b.can.resetDue then [0x03, 0x0B, 0x26, 0x27, 0x2E] else [0x0B, 0x26, 0x27, 0x2E]) c
      ∧ (b.can.resetDue = false → if b.is Reg.HDR.CAN_RUN = false ∨ 2 ≤ b.rd Reg.CAN.ERRC_STATE then c = b
        else c.rd Reg.CAN.ERRC_LEC = lec.val ∧ (c.rd (Reg.HDR.ERR 0x26)).testBit 0 = true
          ∧ (b.is Reg.CAN.ERRC_RESTR = true → c.tec = b.tec ∧ c.rec' = b.rec')
          ∧ (b.is Reg.CAN.ERRC_RESTR = false →
              c.tec = (if transmitting then min 255 (b.tec + 8 + 8 * more.val) else min 255 b.tec)
                ∧ c.rec' = (if transmitting then min 255 b.rec' else min 255 (b.rec' + 1 + 8 * more.val)))))
  ∧ (∀ b : Block, Completes .recover b fun c =>
    if b.rd Reg.CAN.ERRC_STATE = 2 ∧ b.running 5 = true then c.rd Reg.CAN.ERRC_STATE = 3 ∧ b.Frame [Reg.CAN.ERRC_STATE] c else c = b)
  ∧ (∀ b : Block, Completes .recoveryEnd b fun c =>
    if b.rd Reg.CAN.ERRC_STATE = 3 ∧ b.running 5 = true then
      c.rd Reg.CAN.ERRC_STATE = 0 ∧ c.tec = 0 ∧ c.rec' = 0 ∧ (c.rd (Reg.HDR.IRQ_RAW 0x26)).testBit 4 = true
        ∧ b.Frame [Reg.CAN.ERRC_STATE, Reg.CAN.ERRC_TEC, Reg.CAN.ERRC_REC, Reg.HDR.IRQ_RAW 0x26] c
    else c = b)

/-- Reception by the CAN controller (R18, R19, R342, R344 to R349, R359, R560). A received frame leaves the bus idle, where a
soft reset that waited takes place; it is numbered and stored, or counted as dropped, with 64 entries held or CANRX disabled.
A read of `TX_DONE` takes the oldest report; a read of `W0` locks the head entry and one of `W3` takes it; the debug port
below FULL takes nothing, and a reader outside its pages reads 0. The ring takes one entry at a time, or is disabled. The
operands, that a command out of its moment changes nothing, and the readings of log entries 1, 11, 96, 168 and 169 are the
model's choice. -/
def Obligations.CanReceive : Prop :=
  (∀ (id : BitVec 31) (dlc : BitVec 4) (data : List Byte) (ago : BitVec 16) (b : Block),
    Completes (.canFrameReceive id dlc data ago) b fun c =>
      b.SameMem c ∧ b.SamePages (if b.can.resetDue then [0x03, 0x0B, 0x26, 0x27, 0x2E] else [0x0B, 0x26, 0x27, 0x2E]) c
        ∧ (c.can.resetDue = false ∨ c.can.stopping = true)
        ∧ (b.can.resetDue = true → c.can.resetDue = false → b.is (Reg.HDR.LOCKED 0x26) = false →
            ∀ f ∈ Reg.allFields (Reg.blockRows 0x26), f.acc = .rwl → c.rd f = f.reset)
        ∧ (b.can.resetDue = false → if b.is Reg.HDR.CAN_RUN = false ∨ 2 ≤ b.rd Reg.CAN.ERRC_STATE then c = b
          else c.can.stopping = false ∧ c.can.other = false
            ∧ (b.can.stopping = false →
              c.rd Reg.CANRX.FIFO_STAT_NEXT_SEQ = (b.rd Reg.CANRX.FIFO_STAT_NEXT_SEQ + 1) % 2 ^ 16)
            ∧ (if b.is (Reg.HDR.EN 0x27) = false ∨ 64 ≤ b.can.fifo.length then
                c.can.fifo = b.can.fifo ∧ c.can.gap = true
                  ∧ (b.is (Reg.HDR.EN 0x27) = true → (c.rd (Reg.HDR.ERR 0x27)).testBit 0 = true)
                  ∧ c.rd Reg.CANRX.DROP_COUNT = min (2 ^ Reg.CANRX.DROP_COUNT.width - 1) (b.rd Reg.CANRX.DROP_COUNT + 1)
              else c.can.fifo.take b.can.fifo.length = b.can.fifo ∧ c.can.gap = false
                ∧ (c.can.fifo.drop b.can.fifo.length).map (fun e => (e.w1, e.w0 / 2 ^ 31))
                  = [(b.rd Reg.CANRX.FIFO_STAT_NEXT_SEQ + dlc.toNat * 2 ^ 16 + bit b.can.gap * 2 ^ 20, 1)])))
  ∧ (∀ (actor : Actor) (b : Block), Completes (.txDoneRead actor) b fun c =>
    b.ReadBy actor 0x26 c <| c.resp.word = ((b.can.done.head?.map fun r => r.1 + 2 ^ 11).getD 0) % 2 ^ 32
      ∧ c.can.done = (if actor = .debug ∧ b.level < 2 then b.can.done else b.can.done.drop 1)
      ∧ b.Frame [Reg.CAN.TX_DONE_TAG, Reg.CAN.TX_DONE_RES, Reg.CAN.TX_DONE_VALID, Reg.CAN.TX_DONE_ATTEMPTS,
          Reg.CAN.TX_DONE_TS_TS] c)
  ∧ (∀ (actor : Actor) (b : Block), Completes (.w0Read actor) b fun c =>
    b.ReadBy actor 0x27 c <| c.resp.word = b.rd (Reg.CANRX.W_WORD 0) ∧ c.can = b.can ∧ b.Frame [Reg.CANRX.FIFO_STAT_LOCKED] c
      ∧ (if (actor = .debug ∧ b.level < 2) ∨ b.can.fifo = [] ∨ b.is Reg.CANRX.RING_CFG_EN = true then b.Frame [] c
        else c.rd Reg.CANRX.FIFO_STAT_LOCKED = 1))
  ∧ (∀ (actor : Actor) (b : Block), Completes (.w3Read actor) b fun c =>
    b.ReadBy actor 0x27 c <| c.resp.word = b.rd (Reg.CANRX.W_WORD 3) ∧ b.SameMem c ∧ b.SamePages [0x27] c
      ∧ (if (actor = .debug ∧ b.level < 2) ∨ b.is Reg.CANRX.FIFO_STAT_LOCKED = false
          ∨ b.is Reg.CANRX.RING_CFG_EN = true then b.Frame [] c ∧ c.can = b.can
        else c.can.fifo = b.can.fifo.drop 1 ∧ c.rd Reg.CANRX.FIFO_STAT_LOCKED = 0
          ∧ c.rd Reg.CANRX.FIFO_STAT_COUNT = (b.can.fifo.length - 1) % 2 ^ Reg.CANRX.FIFO_STAT_COUNT.width))
  ∧ (∀ b : Block, Completes .ringWrite b fun c =>
    b.SameMemBut (b.can.ringBase + 32 * (b.rd Reg.CANRX.RING_HEAD_IDX % b.ringLen)) 32 c
      ∧ b.SamePages [0x07, 0x0A, 0x0B, 0x27, 0x2E] c
      ∧ (if b.can.fifo = [] ∨ b.is Reg.CANRX.RING_CFG_EN = false ∨ b.is (Reg.HDR.EN 0x27) = false ∨ b.ringFull = true
          ∨ b.running 5 = false then c = b
        else
          (c.can.fifo = b.can.fifo.drop 1 ∧ c.rd Reg.CANRX.RING_HEAD_IDX
              = (b.rd Reg.CANRX.RING_HEAD_IDX % b.ringLen + 1) % b.ringLen % 2 ^ Reg.CANRX.RING_HEAD_IDX.width
            ∧ (∀ e ∈ b.can.fifo.head?, let a := b.can.ringBase + 32 * (b.rd Reg.CANRX.RING_HEAD_IDX % b.ringLen)
              isSram a = true → isSram (a + 31) = true → c.bytes a 16 = [e.w0, e.w1, e.w2, e.w3].flatMap (leBytes 4)))
          ∨ (c.can.fifo = b.can.fifo ∧ c.rd Reg.CANRX.RING_CFG_EN = 0 ∧ (c.rd (Reg.HDR.ERR 0x27)).testBit 1 = true)))

/-- The tick pusher (R29, R37, R45, R46, R338, R366, R376, R380). Each frame is queued once at its drip; a controller that may
not send counts a skip, a full queue an overrun, and of the SECT_CMD frames, which follow the node words of the last latch,
none is queued unless all fit. Beside a second coordinator neither SECT_CMD nor SYNC is sent. The operands, that a command out
of its moment changes nothing, and the readings of log entries 1, 11 and 99 are the model's choice. -/
def Obligations.TickFrames : Prop :=
  (∀ b : Block, Completes .sectCmdQueue b fun c =>
    b.SameMem c ∧ b.SamePages [0x03, 0x0B, 0x26, 0x2E] c
      ∧ (if b.pushDue 0 92 = false ∨ b.running 5 = false ∨ b.md.coordConflict = true then c = b
        else c.tick.pushed = 0 :: b.tick.pushed
          ∧ (if b.canActive = false then c.can.queue = b.can.queue
              ∧ c.rd Reg.CAN.COUNTS_TICKSKIP = min (2 ^ Reg.CAN.COUNTS_TICKSKIP.width - 1) (b.rd Reg.CAN.COUNTS_TICKSKIP + 1)
            else if 32 < b.can.queue.length + (((List.range 64).map (· + 0x10)).filter b.nodeReady).length then
              c.can.queue = b.can.queue ∧ (b.tick.overran.contains .sectq = false → c.is (Block.ovrField .sectq) = true)
            else c.can.queue.take b.can.queue.length = b.can.queue
              ∧ (c.can.queue.drop b.can.queue.length).map (fun e => (e.tag, e.id, e.dlc, e.d0, e.d1))
                = (((List.range 64).map (· + 0x10)).filter b.nodeReady).map fun a =>
                  (0xF0, 2 ^ 29 + 0x4020001 + a * 256, 8,
                    (b.sectCommand a).1 % 65536 + b.nodeWord a / 256 % 256 * 65536, (b.sectCommand a).2 % 2 ^ 32))))
  ∧ (∀ b : Block, Completes .syncQueue b fun c =>
    b.SameMem c ∧ b.SamePages [0x03, 0x0B, 0x26, 0x2D, 0x2E] c
      ∧ (if b.pushDue 1 95 = false ∨ b.running 5 = false ∨ b.md.coordConflict = true then c = b
        else c.tick.pushed = 1 :: b.tick.pushed
          ∧ (if b.canActive = false then c.can.queue = b.can.queue
              ∧ c.rd Reg.CAN.COUNTS_TICKSKIP = min (2 ^ Reg.CAN.COUNTS_TICKSKIP.width - 1) (b.rd Reg.CAN.COUNTS_TICKSKIP + 1)
            else if 32 ≤ b.can.queue.length then c.can.queue = b.can.queue
                ∧ (b.tick.overran.contains .sync = false → c.is (Block.ovrField .sync) = true)
            else c.can.queue.take b.can.queue.length = b.can.queue
              ∧ (c.can.queue.drop b.can.queue.length).map (fun e => (e.tag, e.id, e.dlc, e.d0 % 256))
                = [(0xF1, 2 ^ 29 + 0x01FF01, 8, (b.rd Reg.TICK.POS_EPOCH * 10 + b.pool) % 250)]
              ∧ c.rd Reg.CAN.SYNC_STAT_SEQ = (b.rd Reg.TICK.POS_EPOCH * 10 + b.pool) % 250)))
  ∧ (∀ b : Block, Completes .heartbeatQueue b fun c =>
    b.SameMem c ∧ b.SamePages [0x03, 0x0B, 0x26, 0x2E] c
      ∧ (if b.pushDue 2 97 = false ∨ b.pool ≠ 5 ∨ b.running 5 = false then c = b
        else c.tick.pushed = 2 :: b.tick.pushed
          ∧ (if b.canActive = false then c.can.queue = b.can.queue
              ∧ c.rd Reg.CAN.COUNTS_TICKSKIP = min (2 ^ Reg.CAN.COUNTS_TICKSKIP.width - 1) (b.rd Reg.CAN.COUNTS_TICKSKIP + 1)
            else if 32 ≤ b.can.queue.length then c.can.queue = b.can.queue
                ∧ (b.tick.overran.contains .hbeat = false → c.is (Block.ovrField .hbeat) = true)
            else c.can.queue.take b.can.queue.length = b.can.queue
              ∧ (c.can.queue.drop b.can.queue.length).map (fun e => (e.tag, e.dlc, e.d0 % 256, e.d1))
                = [(0xF2, 8, b.mode.code, b.rd Reg.SEC.UID_LO_UID)])))

/-- Partners of the implement protocol (R369 to R379, R383, R546, R548). A new announcer is refused by its kind, by the number
of booms or for want of an image, and otherwise gets its address; one that a "replace partner" waits for takes over the
binding. A partner's heartbeat confirms it. An order to the LIP service that comes with one is carried out: the mechanic's
choice releases the fitting partner of the lowest address or waits for one, a CFG_SET value and a QUIET are held and sent, an
export starts. An assignment lapses three epochs after it, and a partner is lost after three missed heartbeats. DISCOVER is
sent, a node image load starts for the lowest address that waits, and reports of a partner are kept. Memory changes in the
CONF region alone. The operands, that a command out of its moment changes nothing, and the readings of log entries 1, 11, 98,
99, 101, 146, 147, 159 and 171 are the model's choice. -/
def Obligations.Partners : Prop :=
  (∀ (uid : BitVec 64) (kind : Fin 16) (image : Bool) (b : Block), Completes (.announce uid kind image) b fun c =>
    b.SameMemBut confBase 0xC000 c ∧ (b.lip.replace = none → b.SameMem c) ∧ b.SamePages [0x0B, 0x26, 0x2E] c
      ∧ (b.is Reg.HDR.CAN_RUN = false ∨ (b.lip.partners.any fun p => p.uid == uid.toNat && !p.confirmed) = true → c = b)
      ∧ (∀ a ∈ b.lip.replace, b.is Reg.HDR.CAN_RUN = true →
          (b.lip.partners.any fun p => p.uid == uid.toNat && !p.confirmed) = false → b.replaces a uid.toNat kind.val = true →
          c.lip.replace = none ∧ c.lip.bindings.contains (uid.toNat, a) = true)
      ∧ (b.is Reg.HDR.CAN_RUN = true → b.is (Reg.HDR.EN 0x26) = true → b.lip.replace = none →
          (b.lip.partners.all fun p => p.uid != uid.toNat && (p.confirmed || p.uid % 2 ^ 56 != uid.toNat % 2 ^ 56)) = true →
          if 6 ≤ kind.val then c.lip.partners = b.lip.partners ∧ c.waiting.length = b.waiting.length + 1
          else if kind.val = 0 ∧ b.rd Reg.TICK.SECT_NMAX_NMAX ≤ b.boomCount then c.lip.partners = b.lip.partners
          else if image = true ∧ (b.nodeImage kind.val).2 = 0 ∧ b.is Reg.UPD.USTAT_LOADER_ONLY = false then c.lip.partners = b.lip.partners
          else ∀ a ∈ b.chooseAddr uid.toNat,
            (c.lip.partners.map fun p => (p.addr, p.uid, p.kind, p.confirmed))
                = (b.lip.partners.map fun p => (p.addr, p.uid, p.kind, p.confirmed)) ++ [(a, uid.toNat, kind.val, false)]
              ∧ c.waiting.length = b.waiting.length + 1))
  ∧ (∀ (addr : Fin 64) (st : Fin 4) (b : Block), Completes (.partnerHeartbeat addr st none) b fun c =>
    b.SameMem c ∧ if b.partnerAt (addr.val + 0x10) = none then c = b
      else (c.partnerAt (addr.val + 0x10)).map (fun p => (p.missed, p.heard, p.state, p.confirmed)) = some (0, true, st.val, true)
        ∧ (st.val ≠ 2 → c.rd (Reg.CAN.NODE_READY addr) = 0)
        ∧ (b.rd (Reg.CAN.NODE_READY addr) = 0 → (b.partnerAt (addr.val + 0x10)).any (fun p => p.image && !p.loaded) = true →
            c.rd (Reg.CAN.NODE_READY addr) = 0)
        ∧ ((b.partnerAt (addr.val + 0x10)).all (·.confirmed) = false → c.rd (Reg.CAN.NODE_ASSIGNED addr) = 1)
        ∧ b.SameRegs ([Reg.CAN.NODE_ASSIGNED addr, Reg.CAN.NODE_BOOM addr, Reg.CAN.NODE_READY addr, Reg.CAN.NODE_SEQ addr,
            Reg.CAN.TX_STAT_COUNT, Reg.CAN.TX_STAT_HEAD_TAG, Reg.CAN.TX_STAT_SENDING] ++ evFlds) c)
  ∧ (∀ (addr : Fin 64) (st : Fin 4) (order : Option LipOrder) (b : Block),
    Completes (.partnerHeartbeat addr st order) b fun c =>
      (b.flips = [] → b.SameMemBut confBase 0xC000 c) ∧ b.SamePages [0x07, 0x0A, 0x0B, 0x26, 0x2E] c)
  ∧ (∀ (addr : Fin 64) (st : Fin 4) (a : Fin 64) (b : Block),
    Completes (.partnerHeartbeat addr st (some (.replace a))) b fun c => b.is Reg.HDR.CAN_RUN = true →
      let fits := b.lip.partners.filter fun p =>
        p.confirmed && p.addr != a.val + 0x10 && b.replaces (a.val + 0x10) p.uid p.kind
      if fits = [] then c.lip.replace = some (a.val + 0x10) ∧ b.SameMem c
      else c.lip.replace = none ∧ (fits.any fun p => (fits.all fun r => decide (p.addr ≤ r.addr))
          && c.partnerAt p.addr == none && c.lip.bindings.any fun x => x.2 == a.val + 0x10) = true)
  ∧ (∀ (addr : Fin 64) (st : Fin 4) (a : Fin 64) (index : Byte) (value : Word) (b : Block),
    Completes (.partnerHeartbeat addr st (some (.config a index value))) b fun c => b.is Reg.HDR.CAN_RUN = true →
      b.SameMem c ∧ ∀ p ∈ b.partnerAt (a.val + 0x10), c.lip.cfg.contains (p.uid, index.toNat, value.toNat) = true
        ∧ (b.is (Reg.HDR.EN 0x26) = true → p.resend = none → b.is (Reg.CAN.NODE_READY a) = true →
          (c.waiting.any fun e => e.id == 2 ^ 29 + 0x10080001 + (a.val + 0x10) * 256 && e.d0 % 256 == index.toNat
            && e.d0 / 65536 + e.d1 % 65536 * 65536 == value.toNat) = true))
  ∧ (∀ (addr : Fin 64) (st : Fin 4) (a : Option (Fin 64)) (limit : Byte) (pools : BitVec 16) (b : Block),
    Completes (.partnerHeartbeat addr st (some (.quiet a limit pools))) b fun c =>
      let dest := (a.map fun k => k.val + 0x10).getD 0xFF
      b.SameMem c ∧ (b.is Reg.HDR.CAN_RUN = true → (∀ k ∈ a, (b.partnerAt (k.val + 0x10)).isSome = true) →
        c.lip.quiet.contains (dest, limit.toNat, if pools = 0 then 0 else b.md.pools + pools.toNat) = true
          ∧ (b.is (Reg.HDR.EN 0x26) = true → (c.waiting.any fun e => e.id == 2 ^ 29 + 0x04060001 + dest * 256
              && e.d0 == limit.toNat + pools.toNat * 65536) = true)))
  ∧ (∀ (addr : Fin 64) (st : Fin 4) (a : Fin 64) (slot : Fin 8) (b : Block),
    Completes (.partnerHeartbeat addr st (some (.export_ a slot))) b fun c => b.is Reg.HDR.CAN_RUN = true →
      (b.partnerAt (a.val + 0x10)).any (·.confirmed) = true → (b.sendTo (a.val + 0x10)).isNone = true →
        (c.sendTo (a.val + 0x10)).any (fun t => t.content == 2 && t.tag == slot.val
          && t.stage == if 1 ≤ b.ladder then 3 else 0) = true)
  ∧ (∀ (addr : Fin 64) (b : Block), Completes (.assignLapse addr) b fun c =>
    if ((b.partnerAt (addr.val + 0x10)).any fun p => !p.confirmed && decide (p.since + 3000 ≤ b.now)) = true then
      c.partnerAt (addr.val + 0x10) = none ∧ c.rd (Reg.CAN.NODE_ASSIGNED addr) = 0 ∧ b.SameMem c
        ∧ b.SamePages [0x0B, 0x26, 0x2E] c
    else c = b)
  ∧ (∀ (addr : Fin 64) (b : Block), Completes (.partnerLoss addr) b fun c =>
    if ((b.partnerAt (addr.val + 0x10)).any fun p => p.confirmed && decide (3 ≤ p.missed)) = true then
      c.partnerAt (addr.val + 0x10) = none ∧ c.rd (Reg.CAN.NODE_ASSIGNED addr) = 0 ∧ b.SameMem c
        ∧ b.SamePages [0x0B, 0x26, 0x2E] c
        ∧ (b.is (Reg.HDR.EN 0x26) = true → (c.waiting.any fun e => e.id / 2 ^ 16 % 256 == 0x05) = true)
    else c = b)
  ∧ (∀ b : Block, Completes .discover b fun c =>
    b.Frame [Reg.CAN.TX_STAT_COUNT, Reg.CAN.TX_STAT_HEAD_TAG, Reg.CAN.TX_STAT_SENDING] c
      ∧ (b.is Reg.HDR.CAN_RUN = false → c = b)
      ∧ (b.is Reg.HDR.CAN_RUN = true → b.lip.discover = true → c.lip.discover = false
          ∧ (b.is (Reg.HDR.EN 0x26) = true → c.waiting.length = b.waiting.length + 1
              ∧ (c.waiting.getLast?.map fun e => (e.id / 2 ^ 16 % 256, e.d0 % 256)) = some (0x07, 1)))
      ∧ (b.lip.discover = false → b.is Reg.CAN.NOACK_ALONE = false ∨ b.lip.discovered = true → c = b)
      ∧ (b.is Reg.HDR.CAN_RUN = true → b.lip.discover = false → b.is Reg.CAN.NOACK_ALONE = true → b.lip.discovered = false →
          c.lip.discovered = true ∧ (b.is (Reg.HDR.EN 0x26) = true → c.waiting.length = b.waiting.length + 1
            ∧ (c.waiting.getLast?.map fun e => (e.id / 2 ^ 16 % 256, e.d0 % 256)) = some (0x07, 0))))
  ∧ (∀ b : Block, Completes .nodeImageLoad b fun c =>
    let waits (p : Partner) : Bool := p.confirmed && p.image && p.state == 0 && (b.sendTo p.addr).isNone
    b.Frame [Reg.CAN.TX_STAT_COUNT, Reg.CAN.TX_STAT_HEAD_TAG, Reg.CAN.TX_STAT_SENDING] c
      ∧ (if b.is Reg.UPD.USTAT_LOADER_ONLY = true ∨ (b.lip.send.any fun t => t.content == 1) = true
            ∨ (b.lip.partners.any waits) = false then c = b
        else c.lip.send.length = b.lip.send.length + 1 ∧ (c.lip.send.getLast?.map fun t => (t.content, t.stage, t.block)) = some (1, 0, 0)
          ∧ (∀ t ∈ c.lip.send.getLast?, (b.lip.partners.all fun p =>
              !waits p || decide (t.peer ≤ p.addr)) = true
            ∧ (b.lip.partners.any fun p => waits p && p.addr == t.peer) = true)
          ∧ (b.is (Reg.HDR.EN 0x26) = true → c.waiting.getLast? = c.lip.send.getLast?.map Block.openFrame)))
  ∧ (∀ (addr : Fin 64) (pulse : Bool) (chan : Fin 4) (value : BitVec 16) (ft : BitVec 48) (b : Block),
    Completes (.report addr pulse chan value ft) b fun c =>
      b.Frame [] c ∧ c.can = b.can
        ∧ (if (b.partnerAt (addr.val + 0x10)).any (·.confirmed) = true then
            (if pulse then c.lip.pulse.head? else c.lip.press.head?)
              = some ((addr.val + 0x10) * 4 + chan.val, value.toNat, ft.toNat)
          else c = b))

/-- Block transfer (R386 to R388). The sender goes from the open over each acknowledged block to the end, and an export pauses
while a step is shed. The receiver takes the frames of the block it waits for, goes on with the last, and hands the content on
when length and CRC are right; any frame of the transfer renews its time. A sender whose frames have gone out without an
answer repeats and gives up at the third time; a receiver gives up after 200 pools. A refused node image is offered once more.
An abort ends both directions, but for a node image. A paused export is held once per epoch. The operands, that a command out
of its moment changes nothing, and the readings of log entries 1, 11, 98, 100, 170 and 171 are the model's choice. -/
def Obligations.BlockTransfer : Prop :=
  (∀ (peer : Fin 64) (content : Byte) (len : Word) (tag : BitVec 16) (b : Block),
    Completes (.btOpen peer content len tag) b fun c =>
      b.Frame [Reg.CAN.TX_STAT_COUNT, Reg.CAN.TX_STAT_HEAD_TAG, Reg.CAN.TX_STAT_SENDING] c
        ∧ (if b.is Reg.HDR.CAN_RUN = false ∨ (b.lip.partners.any fun p => p.addr == peer.val + 0x10 && p.confirmed) = false then c = b
          else if (b.lip.recv.any fun t => t.peer == peer.val + 0x10) = true then
            c.lip.recv = b.lip.recv.map fun t => if t.peer = peer.val + 0x10 then { t with since := b.md.pools } else t
          else if (content.toNat = 3 ∧ len.toNat = 1056) ∨ (0x80 ≤ content.toNat ∧ 0 < len.toNat ∧ len.toNat < 2 ^ 24
              ∧ b.is Reg.UPD.USTAT_LOADER_ONLY = false) then
            c.lip.recv = b.lip.recv ++ [{ peer := peer.val + 0x10, content := content.toNat, tag := tag.toNat, len := len.toNat,
                                          since := b.md.pools }]
          else c.lip.recv = b.lip.recv))
  ∧ (∀ (peer : Fin 64) (head : Byte) (data : List Byte) (b : Block), Completes (.btData peer head data) b fun c =>
    b.Frame [Reg.CAN.TX_STAT_COUNT, Reg.CAN.TX_STAT_HEAD_TAG, Reg.CAN.TX_STAT_SENDING] c
      ∧ (b.lip.recv.any (fun t => t.peer == peer.val + 0x10) = false → c = b)
      ∧ (∀ t ∈ b.lip.recv.find? fun t => t.peer == peer.val + 0x10,
        if head.toNat / 64 ≠ t.block % 4 ∨ Block.blocksOf t.len ≤ t.block then c.can = b.can ∧ c.lip = { b.lip with
          recv := b.lip.recv.map fun t => if t.peer = peer.val + 0x10 then { t with since := b.md.pools } else t }
        else
          let k := ceilDiv (min 448 (t.len - 448 * t.block)) 7
          let i := head.toNat % 64
          let whole := i + 1 == k && (List.range k).all fun j => j == i || t.frames.any fun f => f.1 == j
          (c.lip.recv.find? fun t => t.peer == peer.val + 0x10).any (fun x => x.since == b.md.pools
            && (if whole then x.block == t.block + 1 && x.frames.isEmpty && x.data.take t.data.length == t.data
              else x.block == t.block && x.data == t.data && x.frames.any fun f => f.1 == i)) = true))
  ∧ (∀ (peer : Fin 64) (code : Fin 6) (block : BitVec 16) (index : Byte) (b : Block),
    Completes (.btAck peer code block index) b fun c =>
      (b.flips = [] → b.SameMem c) ∧ b.SamePages [0x07, 0x0A, 0x0B, 0x26, 0x2E] c
        ∧ (b.lip.send.any (fun t => t.peer == peer.val + 0x10) = false → c = b)
        ∧ (∀ t ∈ b.lip.send.find? fun t => t.peer == peer.val + 0x10,
          let goes := if t.content = 2 ∧ 1 ≤ b.ladder then 3 else 1
          (t.stage = 1 → code.val = 0 → block.toNat = t.block + 1 →
              (c.lip.send.find? fun t => t.peer == peer.val + 0x10).map (fun t => (t.block, t.stage))
                = some (t.block + 1, if t.block + 1 < Block.blocksOf t.len then goes else 2))
            ∧ (t.stage = 0 → code.val = 0 → 0 < t.len →
              (c.lip.send.find? fun t => t.peer == peer.val + 0x10).map (fun t => (t.block, t.stage)) = some (0, goes))
            ∧ (t.stage = 2 → code.val = 2 → (c.lip.send.find? fun t => t.peer == peer.val + 0x10) = none)
            ∧ (t.stage = 0 → t.content ≠ 1 → code.val = 4 → (c.lip.send.find? fun t => t.peer == peer.val + 0x10) = none)
            ∧ (t.stage = 0 → code.val = 5 → c = b)
            ∧ (t.stage = 0 → t.content = 1 → code.val = 4 → ∀ p ∈ b.partnerAt (peer.val + 0x10),
              if p.failed = 0 then (c.partnerAt (peer.val + 0x10)).map (·.failed) = some 1
                ∧ (c.lip.send.find? fun t => t.peer == peer.val + 0x10).map (fun t => (t.block, t.stage)) = some (0, 0)
              else (c.partnerAt (peer.val + 0x10)) = none)))
  ∧ (∀ (peer : Fin 64) (crc len : Word) (b : Block), Completes (.btEnd peer crc len) b fun c =>
    b.Frame [Reg.CAN.TX_STAT_COUNT, Reg.CAN.TX_STAT_HEAD_TAG, Reg.CAN.TX_STAT_SENDING] c
      ∧ (b.lip.recv.any (fun t => t.peer == peer.val + 0x10) = false → c = b)
      ∧ (∀ t ∈ b.lip.recv.find? fun t => t.peer == peer.val + 0x10,
        (c.lip.recv.find? fun t => t.peer == peer.val + 0x10) = none
          ∧ c.lip.delivered = (if t.block = Block.blocksOf t.len ∧ len.toNat = t.len ∧ crc.toNat = crc32 t.data then
              some (t.content, t.tag, t.data) else b.lip.delivered)))
  ∧ (∀ (peer : Fin 64) (b : Block), Completes (.btAbort peer) b fun c =>
    b.SameMem c ∧ b.SamePages [0x0B, 0x26, 0x2E] c ∧ (c.lip.recv.find? fun t => t.peer == peer.val + 0x10) = none
      ∧ (∀ t ∈ b.lip.send.find? fun t => t.peer == peer.val + 0x10, t.content ≠ 1 →
          (c.lip.send.find? fun t => t.peer == peer.val + 0x10) = none))
  ∧ (∀ (peer : Fin 64) (b : Block), Completes (.btAckTimeout peer) b fun c =>
    (b.flips = [] → b.SameMem c) ∧ b.SamePages [0x07, 0x0A, 0x0B, 0x26, 0x2E] c
      ∧ (b.lip.send.any (fun t => t.peer == peer.val + 0x10) = false → c = b)
      ∧ (∀ t ∈ b.lip.send.find? fun t => t.peer == peer.val + 0x10,
        if t.stage = 3 ∨ t.gone = false ∨ b.md.pools < t.since + 20 then c = b
        else if t.timeouts < 2 then
          (c.lip.send.find? fun t => t.peer == peer.val + 0x10).map (fun t => (t.timeouts, t.since)) = some (t.timeouts + 1, b.md.pools)
        else t.content ≠ 1 → (c.lip.send.find? fun t => t.peer == peer.val + 0x10) = none))
  ∧ (∀ (peer : Fin 64) (b : Block), Completes (.btReceiveTimeout peer) b fun c =>
    b.Frame [] c ∧ c.can = b.can
      ∧ c.lip.recv = b.lip.recv.filter fun t => !(t.peer == peer.val + 0x10 && decide (t.since + 200 ≤ b.md.pools)))
  ∧ (∀ (peer : Fin 64) (tag : Fin 8) (b : Block), Completes (.btHold peer tag) b fun c =>
    b.Frame [Reg.CAN.TX_STAT_COUNT, Reg.CAN.TX_STAT_HEAD_TAG, Reg.CAN.TX_STAT_SENDING] c
      ∧ (if b.ladder ≠ 0 ∧ b.is Reg.HDR.CAN_RUN = true ∧ (b.sendTo (peer.val + 0x10)).any
            (fun t => t.content == 2 && t.tag == tag.val && t.stage == 3 && !t.holdSent) = true then
          (c.sendTo (peer.val + 0x10)).any (·.holdSent) = true
            ∧ (b.is (Reg.HDR.EN 0x26) = true → ∀ t ∈ b.sendTo (peer.val + 0x10),
                (c.waiting.getLast?.map fun e => (e.id / 2 ^ 16 % 256, e.d0)) = some (0x45, t.block % 2 ^ 16))
        else c = b))

/-- The receiver's front end (R226 to R231). A start that is due classifies the antennas by the currents drawn with bias and
begins with every channel idle, which a channel that tracked shows as a slip, and no search. A short opens the bias switch,
which is tried again after 10 s; an antenna found open during a run is present again after 10 good pools, and with ANT_A the
class that its loss made LASTING ends. An AUTO notch engages on the strongest peak that qualifies, clear of the others, tracks
it, and releases when it has been gone for 10,000 drips; 100 pools of strong jamming are an error. The operands, that a
command out of its moment changes nothing, and the readings of log entries 1, 11, 83, 84, 142 and 161 are the model's choice.
-/
def Obligations.GnssFrontEnd : Prop :=
  (∀ (front : Front) (fresh : List (Fin 32 × Bool)) (b : Block), Completes (.gnssStart front fresh) b fun c =>
    b.SameMem c ∧ b.SamePages [0x0B, 0x14, 0x15, 0x16, 0x18, 0x2E] c
      ∧ (if b.gnssRuns = true ∧ b.gnss.startDue = true then
          c.gnss.startDue = false ∧ c.gnss.kind = b.startKind fresh ∧ c.gnss.startedAt = b.now ∧ c.gnss.search = none
            ∧ c.gnss.chans = b.gnss.chans.map (fun k => { slip := k.slip || decide (k.state = 3) }) ∧ (∀ k ∈ List.range 48, c.rd (Reg.GTRK.CFG_EN k) = 0)
            ∧ (∀ a ∈ [0, 1], c.rd (Reg.GFE.ANT_STAT_BIAS_ON a) = b.rd (Reg.GFE.ANT_CFG_BIAS_EN a) % 2
                ∧ c.antDet a = b.antClass a (if b.is (Reg.GFE.ANT_CFG_BIAS_EN a) then front.ma.getD a 0 else 0))
            ∧ (c.gnss.coldDue = true ↔ c.gnss.kind = 3 ∧ c.antDet 0 ≠ 2)
        else c = b))
  ∧ (∀ (ant : Fin 2) (b : Block), Completes (.antBiasShort ant) b fun c =>
    if b.is (Reg.GFE.ANT_STAT_BIAS_ON ant) = true then
      c.rd (Reg.GFE.ANT_STAT_BIAS_ON ant) = 0 ∧ c.antDet ant = 3 ∧ (c.rd (Reg.HDR.ERR 0x14)).testBit ant = true
        ∧ b.Frame ([Reg.GFE.ANT_STAT_BIAS_ON ant, Reg.GFE.ANT_STAT_I_MA ant, Reg.GFE.ANT_STAT_DET ant, Reg.HDR.IRQ_RAW 0x14]
            ++ errFlds 0x14) c
    else c = b)
  ∧ (∀ (ant : Fin 2) (ma : Byte) (b : Block), Completes (.antBiasRetry ant ma) b fun c =>
    b.Frame ([Reg.GFE.ANT_STAT_BIAS_ON ant, Reg.GFE.ANT_STAT_I_MA ant, Reg.GFE.ANT_STAT_DET ant, Reg.HDR.IRQ_RAW 0x14]
        ++ errFlds 0x14) c
      ∧ (if (b.gnss.shortAt.getD ant none).any (fun t => decide (t + 100000 ≤ b.now)) = true
            ∧ b.is (Reg.GFE.ANT_CFG_BIAS_EN ant) = true ∧ b.running 2 = true then
          if 60 < ma.toNat then c.rd (Reg.GFE.ANT_STAT_BIAS_ON ant) = 0 ∧ c.antDet ant = 3
          else c.rd (Reg.GFE.ANT_STAT_BIAS_ON ant) = 1 ∧ c.antDet ant = b.antClass ant ma.toNat
            ∧ c.rd (Reg.GFE.ANT_STAT_I_MA ant) = ma.toNat
        else c = b))
  ∧ (∀ (ant : Fin 2) (b : Block), Completes (.antReclassify ant) b fun c =>
    if b.antDet ant = 2 ∧ b.gnss.absent.getD ant false = false ∧ 10 ≤ b.gnss.goodPools.getD ant 0 then
      c.antDet ant = 1 ∧ (c.rd (Reg.HDR.IRQ_RAW 0x14)).testBit 2 = true ∧ b.SameMem c
        ∧ (ant.val = 1 → b.Frame [Reg.GFE.ANT_STAT_DET ant, Reg.HDR.IRQ_RAW 0x14] c)
        ∧ (ant.val = 0 → c.isLasting ⟨0x14, 2, 0⟩ = false ∧ b.SamePages [0x14, 0x2E] c)
    else c = b)
  ∧ (∀ (k : Fin 8) (peaks : List (Int × Byte)) (b : Block), Completes (.notchEngage k peaks) b fun c =>
    let ok (p : Int × Byte) : Bool := p.1.natAbs ≤ 8184000 && b.rd Reg.GNOTCH.THR_THR ≤ p.2.toNat
      && (List.range 8).all fun j => j / 4 != k.val / 4 || j == k.val || !b.is (Reg.GNOTCH.NSTAT_ACTIVE j)
        || decide (100000 ≤ (p.1 - b.notchFreq j).natAbs)
    let near (p : Int × Byte) : Bool := ok p && decide ((p.1 - b.notchFreq k).natAbs < 100000)
    let best (l : List (Int × Byte)) : Prop :=
      (l.any fun p => decide (c.notchFreq k = p.1) && l.all fun q => decide (q.2 ≤ p.2)) = true
    b.Frame [Reg.GNOTCH.NSTAT_CUR k, Reg.GNOTCH.NSTAT_ACTIVE k, Reg.GNOTCH.NSTAT_CONV k, Reg.HDR.IRQ_RAW 0x15] c
      ∧ (if b.rd (Reg.GNOTCH.CFG_MODE k) ≠ 1 ∨ b.notchGated k = true then c = b
        else if b.is (Reg.GNOTCH.NSTAT_ACTIVE k) = true then
          if peaks.filter near = [] then b.Frame [] c ∧ (k.val < b.gnss.notchLow.length →
            c.gnss.notchLow.getD k none = some ((b.gnss.notchLow.getD k none).getD b.now))
          else best (peaks.filter near) ∧ c.gnss.notchLow.getD k none = none ∧ b.Frame [Reg.GNOTCH.NSTAT_CUR k] c
        else if peaks.filter ok = [] then c = b
        else best (peaks.filter ok) ∧ c.rd (Reg.GNOTCH.NSTAT_ACTIVE k) = 1 ∧ c.rd (Reg.GNOTCH.NSTAT_CONV k) = 0
          ∧ (c.rd (Reg.HDR.IRQ_RAW 0x15)).testBit k = true))
  ∧ (∀ (k : Fin 8) (b : Block), Completes (.notchRelease k) b fun c =>
    if b.rd (Reg.GNOTCH.CFG_MODE k) = 1 ∧ b.is (Reg.GNOTCH.NSTAT_ACTIVE k) = true
        ∧ (b.gnss.notchLow.getD k none).any (fun t => decide (t + 10000 ≤ b.now)) = true then
      c.rd (Reg.GNOTCH.NSTAT_ACTIVE k) = 0 ∧ c.rd (Reg.GNOTCH.NSTAT_CONV k) = 0
        ∧ b.Frame [Reg.GNOTCH.NSTAT_ACTIVE k, Reg.GNOTCH.NSTAT_CONV k] c
    else c = b)
  ∧ (∀ (ant : Fin 2) (b : Block), Completes (.jamStay ant) b fun c =>
    if 100 ≤ b.gnss.jamPools.getD ant 0 then
      (c.rd (Reg.HDR.ERR 0x14)).testBit (5 + ant.val) = true ∧ c.gnss.jamPools.getD ant 0 = b.gnss.jamPools.getD ant 0 - 100
        ∧ b.Frame (errFlds 0x14) c
    else c = b)

/-- Acquisition and tracking (R18, R19, R224, R226, R233 to R239). The correlator bank runs one search at a time, on its lanes
as they stand or set for ANT_B from the satellites that ANT_A tracks, and ends with its results; the FFT engine runs one job
at a time and ends with its table; a job waits while a cold start's comes first. Nothing starts while ANT_A is open. A channel
that is enabled begins pull-in, unless it tracks the satellite or is gated; it locks, coasts below its C/N0, resumes, and is
lost when its coasting time is over. The operands, that a command out of its moment changes nothing, and the readings of log
entries 1, 11, 83, 85, 88, 90, 142 and 160 are the model's choice. -/
def Obligations.GnssSearches : Prop :=
  (∀ (actor : Actor) (aid : Option (List (Fin 32 × Fin 91))) (b : Block), Completes (.gacqStart actor aid) b fun c =>
    b.WrittenBy actor 0x16 c
      (let waits := b.gnss.search.isNone && !b.noneAcquired
      if aid = none then
        if b.coreMay actor = false ∨ b.running 3 = false ∨ waits = false then c = b
        else c.rd Reg.GACQ.SSTAT_BUSY = 1 ∧ c.rd Reg.GACQ.SSTAT_RES = 0
          ∧ (c.gnss.search.map fun s => (s.thr, s.endAt)) = some (b.rd Reg.GACQ.SEARCH_THR,
              b.now + (10 - b.drip % 10) + 10 * ((b.rd Reg.GACQ.SEARCH_TCOH + 1) * (b.rd Reg.GACQ.SEARCH_NCOH + 1)))
          ∧ (c.gnss.search.any fun s => s.lanes == (List.range 8).filter fun l => b.is (Reg.GACQ.LANE_EN l)) = true
          ∧ b.Frame [Reg.GACQ.SSTAT_BUSY, Reg.GACQ.SSTAT_RES] c
      else if actor ≠ .gnss ∨ b.gnssRuns = false ∨ b.antBUse = false ∨ waits = false then c = b
      else c.rd Reg.GACQ.SSTAT_BUSY = 1 ∧ c.rd Reg.GACQ.SEARCH_TCOH = 0 ∧ c.rd Reg.GACQ.SEARCH_NCOH = 3
        ∧ c.gnss.search.map (·.endAt) = some (b.now + (10 - b.drip % 10) + 40) ∧ b.SameMem c ∧ b.SamePages [0x16] c
        ∧ ∀ seen ∈ aid, ∀ l ∈ List.range 8, c.is (Reg.GACQ.LANE_EN l) = true →
          c.rd (Reg.GACQ.LANE_ANT l) = 1 ∧ (b.aboveMask seen).contains (c.rd (Reg.GACQ.LANE_PRN l)) = true
            ∧ (b.pllChan 0 (c.rd (Reg.GACQ.LANE_PRN l))).map (fun k => b.rd (Reg.GTRK.CSTAT_DOPP k))
                = some (c.rd (Reg.GACQ.LANE_DOPP l))))
  ∧ (∀ (actor : Actor) (b : Block), Completes (.gacqAbort actor) b fun c => b.WrittenBy actor 0x16 c
    (if b.coreMay actor = true ∧ b.gnss.search.isSome = true then
      c.gnss.search = none ∧ c.rd Reg.GACQ.SSTAT_BUSY = 0 ∧ c.rd Reg.GACQ.SSTAT_RES = 2
        ∧ b.Frame [Reg.GACQ.SSTAT_BUSY, Reg.GACQ.SSTAT_RES] c
    else c = b))
  ∧ (∀ (found : List (BitVec 11 × Byte)) (b : Block), Completes (.gacqSearchEnd found) b fun c =>
    b.SameMem c ∧ ((b.gnss.search.all fun s => s.lanes.all (· < 8)) = true → b.SamePages [0x16] c)
      ∧ (if b.gnss.search.any (fun s => decide (s.endAt ≤ b.now)) = true then
          c.gnss.search = none ∧ c.rd Reg.GACQ.SSTAT_BUSY = 0 ∧ c.rd Reg.GACQ.SSTAT_RES = 1
            ∧ (∀ s ∈ b.gnss.search, ∀ l ∈ List.range 8, s.lanes = [l] →
                c.rd (Reg.GACQ.RES_CODE l) = (found.getD l (0, 0)).1.toNat
                  ∧ c.rd (Reg.GACQ.RES_DETECT l) = (if s.thr ≤ (found.getD l (0, 0)).2.toNat then 1 else 0))
        else c = b))
  ∧ (∀ (actor : Actor) (b : Block), Completes (.gfftStart actor) b fun c => b.WrittenBy actor 0x17 c
    (b.SamePages [0x07, 0x0A, 0x0B, 0x17, 0x2E] c ∧ (b.flips = [] → b.Frame (Reg.GFFT.JSTAT_RES :: errFlds 0x17) c)
      ∧ (if b.coreMay actor = false ∨ b.running 3 = false then c = b
        else if b.gnss.fft.isSome = true then
          (c.rd (Reg.HDR.ERR 0x17)).testBit 0 = true ∧ c.gnss = b.gnss
        else if b.gnss.coldDue = true ∨ b.gnss.grabs.any (·.cold) = true ∨ b.gnss.coldJob.isSome = true then
          c.gnss = { b.gnss with fftHeld := some b.fftAsked } ∧ b.Frame [] c
        else if b.noneAcquired = true then c = b
        else
          let src := b.rd Reg.GFFT.SRC_ADDR
          (c.rd Reg.GFFT.JSTAT_RES = 1 ∨ c.rd Reg.GFFT.JSTAT_RES = 4 ∨ c.rd Reg.GFFT.JSTAT_RES = 5)
          ∧ (c.rd Reg.GFFT.JSTAT_RES = 1 ↔ c.gnss.fft.isSome = true)
          ∧ ((b.allowedRange 1 src 64 0 && b.allowedRange 1 (b.rd Reg.GFFT.DST_ADDR) 512 1) = false →
              c.rd Reg.GFFT.JSTAT_RES = 4)
          ∧ (b.flips = [] → src % 4 = 0 → b.allowedRange 1 src 64 0 = true →
              b.allowedRange 1 (b.rd Reg.GFFT.DST_ADDR) 512 1 = true →
              let n := min (b.rd Reg.GFFT.SPAN_BLOCKS + 1) (((Block.slotSamples (b.bytes src 64)).getD 0) / 32736)
              c.rd Reg.GFFT.JSTAT_RES = if n = 0 then 5 else if b.allowedRange 1 src (64 + 32736 * n) 0 = true then 1 else 4))))
  ∧ (∀ (actor : Actor) (b : Block), Completes (.gfftAbort actor) b fun c => b.WrittenBy actor 0x17 c
    (if b.coreMay actor = true ∧ b.gnss.fft.isSome = true then
      c.gnss.coldJob = none ∧ b.SamePages [0x07, 0x0A, 0x0B, 0x17, 0x2E] c
        ∧ (b.gnss.coldJob = none → b.gnss.fftHeld = none →
            c.gnss.fft = none ∧ c.rd Reg.GFFT.JSTAT_RES = 3 ∧ b.Frame [Reg.GFFT.JSTAT_RES] c)
    else if b.coreMay actor = true ∧ b.gnss.fftHeld.isSome = true then
      c.gnss.fftHeld = none ∧ c.rd Reg.GFFT.JSTAT_RES = 3 ∧ b.Frame [Reg.GFFT.JSTAT_RES] c
    else c = b))
  ∧ (∀ (found : List (Nat × Nat × Int × Nat)) (b : Block), Completes (.gfftJobEnd found) b fun c =>
    (b.gnss.fft = none → c = b) ∧ (∀ j ∈ b.gnss.fft,
      c.gnss.coldJob = none ∧ b.SamePages [0x07, 0x0A, 0x0B, 0x17, 0x2E] c
        ∧ (b.flips = [] → b.SameMemBut j.dst 512 c)
        ∧ (b.gnss.coldJob = none → b.gnss.fftHeld = none → c.gnss.fft = none ∧ b.SameMemBut j.dst 512 c
          ∧ (c.rd Reg.GFFT.JSTAT_RES = 2 ∨ c.rd Reg.GFFT.JSTAT_RES = 4)
          ∧ (b.allowedRange 1 j.dst 512 1 = true → c.rd Reg.GFFT.JSTAT_RES = 2)
          ∧ (c.rd Reg.GFFT.JSTAT_RES = 2 → (c.rd (Reg.HDR.IRQ_RAW 0x17)).testBit 0 = true
            ∧ (isSram j.dst = true → isSram (j.dst + 511) = true → ∀ p ∈ List.range 32, c.byte (j.dst + 16 * p) = BitVec.ofNat 8 (p + 1))))))
  ∧ (∀ (actor : Actor) (chan : Fin 48) (prn : Fin 32) (sp : Fin 16) (dopp : BitVec 16) (b : Block),
    Completes (.channelEnable actor chan prn sp dopp) b fun c => b.WrittenBy actor 0x18 c
      (if b.coreMay actor = true ∧ b.gnssRuns = true then
        let tracks := b.is (Reg.GTRK.CFG_EN chan) && b.rd (Reg.GTRK.CFG_PRN chan) == prn.val
          && (b.chan chan).state != 0 && (b.chan chan).state != 5
        c.rd (Reg.GTRK.CFG_EN chan) = 1 ∧ c.rd (Reg.GTRK.CFG_PRN chan) = prn.val ∧ c.rd (Reg.GTRK.CFG_SP chan) = sp.val
          ∧ c.rd (Reg.GTRK.CFG_DOPP chan) = dopp.toNat
          ∧ (if tracks = true then c.chan chan = b.chan chan
            else b.gnss.chans.length = 48 → (c.chan chan).slip = ((b.chan chan).slip || decide ((b.chan chan).state = 3))
              ∧ (c.chan chan).state = if (24 ≤ chan.val ∧ 4 ≤ b.ladder) ∨ b.noneAcquired = true then 0 else 1)
          ∧ b.Frame [Reg.GTRK.CFG_EN chan, Reg.GTRK.CFG_PRN chan, Reg.GTRK.CFG_SP chan, Reg.GTRK.CFG_DOPP chan] c
      else c = b))
  ∧ (∀ (chan : Fin 48) (b : Block), Completes (.channelPllLock chan) b fun c =>
    b.Frame [] c ∧ (if (b.chan chan).state = 1 ∨ (b.chan chan).state = 2 then
        c.chan chan = { b.chan chan with state := 3 } else c = b))
  ∧ (∀ (chan : Fin 48) (cn0 : Byte) (b : Block), Completes (.channelCoast chan cn0) b fun c =>
    b.Frame [] c ∧ (if (b.chan chan).state = 3 ∧ cn0.toNat < b.rd Reg.GTRK.COAST_CN0_LOSS then
        c.chan chan = { state := 4, slip := true, coastAt := b.now } ∧ c.gnss.coasted = true else c = b))
  ∧ (∀ (chan : Fin 48) (cn0 : Byte) (b : Block), Completes (.channelCoastResume chan cn0) b fun c =>
    b.Frame [] c ∧ (if (b.chan chan).state = 4 ∧ b.rd Reg.GTRK.COAST_CN0_LOSS + 3 < cn0.toNat
          ∧ b.now ≤ (b.chan chan).coastAt + 100 * b.rd Reg.GTRK.COAST_MAX then
        (c.chan chan).state = 3 ∧ (c.chan chan).slip = true else c = b))
  ∧ (∀ (chan : Fin 48) (b : Block), Completes (.channelLost chan) b fun c =>
    b.Frame [] c ∧ (if (b.chan chan).state = 4 ∧ (b.chan chan).coastAt + 100 * b.rd Reg.GTRK.COAST_MAX ≤ b.now then
        (c.chan chan).state = 5 else c = b))

/-- Assistance, navigation data, the solution, the record and corrections (R18, R19, R232, R240 to R249, R255). A notice is
taken from its mailbox; navigation data is posted once mailbox 1 is empty and the core's writes have completed, what a record
overwrote first. One solution of an epoch is staged, or that of a snapshot whose job found five satellites with ephemeris
valid at its time. A posted record is numbered; a late one is marked, a stale one turned away. The operands, that a command
out of its moment changes nothing, and the readings of log entries 1, 11, 86, 87, 89 and 143 are the model's choice. -/
def Obligations.GnssData : Prop :=
  (∀ b : Block, Completes .assistanceNotice b fun c =>
    (b.flips = [] → b.SameMem c) ∧ b.SamePages [0x07, 0x09, 0x0A, 0x0B, 0x2E] c
      ∧ (if (b.heldNotice 0).any (fun x => x.tag == 0x10 || x.tag == 0x11 || x.tag == 0x12) = true ∧ b.agents.gnss = true then
          c.heldNotice 0 = none ∧ c.rd (Reg.MBX.MSTAT_FULL 0) = 0
            ∧ (∀ x ∈ b.heldNotice 0, x.tag = 0x12 → b.flips = [] → b.allowedRange 1 x.ptr 28 0 = true →
                x.ptr % 4 = 0 → c.gnss.apos = b.bytes x.ptr 28)
        else c = b))
  ∧ (∀ (page : Bool) (ptr : Word) (data : List Byte) (b : Block), Completes (.navDataPost page ptr data) b fun c =>
    b.SamePages [0x07, 0x09, 0x0A, 0x0B, 0x2E] c ∧ b.SameMemBut (ptr.toNat / 4 * 4) 104 c
      ∧ (b.gnssRuns = false ∨ b.pool < 4 ∨ (b.heldNotice 1).isSome = true → c = b)
      ∧ (b.gnssRuns = true → ¬ b.pool < 4 → b.heldNotice 1 = none → b.mbxSender 1 = 1 → (b.writing 2 || b.writing 6) = false →
          b.receiverOff (b.mbxReceiver 1) = false → 1 < b.mbx.length →
          (∀ r ∈ b.gnss.repost, c.gnss.repost = none ∧ (c.heldNotice 1).map (·.tag) = some r.2.2)
            ∧ (b.gnss.repost = none → b.allowedRange 1 ptr.toNat 100 1 = true → ptr.toNat % 4 = 0 →
                (c.heldNotice 1).map (fun x => (x.ptr, x.tag)) = some (ptr.toNat, if page then 0x21 else 0x20))))
  ∧ (∀ (fix : NavFix) (b : Block), Completes (.pvtSolution fix) b fun c =>
    if fix.slot.isNone = true then
      b.SameMem c ∧ b.SamePages [0x0B, 0x19, 0x1B] c
      ∧ (if b.gnssRuns = true ∧ b.gnss.edged = true ∧ b.gnss.solved = false ∧ b.gnss.recPosted = false then
          c.gnss.solved = true
            ∧ c.rd (Reg.GPVT.REC_WORD 0) % 2 ^ 16 = 0x5650 ∧ c.rd (Reg.GPVT.REC_WORD 0) / 2 ^ 24 = b.fixType fix
            ∧ c.rd (Reg.GPVT.REC_WORD 2) = b.gnss.epochFt % 2 ^ 32
            ∧ c.rd Reg.GBASE.BSTAT_SINGLE = (if b.gnss.single then 1 else 0)
            ∧ (b.is Reg.GBASE.CFG_EN = false ∨ b.gnss.single = true → c.rd Reg.GBASE.BSTAT_VALID = 0)
        else c = b)
    else b.SamePages [0x07, 0x0A, 0x0B, 0x1B, 0x2E] c ∧ (b.flips = [] → b.SameMem c)
      ∧ ∀ at_ ∈ fix.slot, let a := at_.toNat
        (b.gnssRuns = false ∨ b.gnss.jobDone ≠ some a → c = b)
        ∧ (b.gnssRuns = true → b.gnss.jobDone = some a → b.flips = [] → b.allowedRange 1 a 64 0 = true →
            a % 4 = 0 → b.allowedRange 1 (b.rd Reg.GFFT.DST_ADDR) 512 0 = true → b.rd Reg.GFFT.DST_ADDR % 4 = 0 →
          if Block.slotSamples (b.bytes a 64) = none
              ∨ ((Block.detected (b.bytes (b.rd Reg.GFFT.DST_ADDR) 512)).filter fun p =>
                b.hasEph p && (fix.seen.map (·.1.val)).contains p).length < 5 then b.Frame [] c
          else c.rd (Reg.GPVT.REC_WORD 0) = 0x01015650 ∧ c.rd (Reg.GPVT.REC_WORD 2) = b.val (a + 16) 4
            ∧ c.rd (Reg.GPVT.REC_WORD 3) = b.val (a + 20) 4))
  ∧ (∀ (actor : Actor) (b : Block), Completes (.post actor) b fun c => b.WrittenBy actor 0x1B c
    (let snap := b.rd (Reg.GPVT.REC_WORD 0) / 2 ^ 24 == 1
    b.SamePages [0x03, 0x07, 0x09, 0x0A, 0x0B, 0x1B, 0x2D, 0x2E] c
      ∧ b.SameMemBut (b.rd Reg.GPVT.RING_ADDR + 128 * (b.rd Reg.GPVT.PSTAT_SEQ % 4)) 128 c
      ∧ (if b.coreMay actor = false ∨ b.running 3 = false
            ∨ (snap = true ∧ actor = .gnss ∧ (b.pool < 4 ∨ (b.heldNotice 1).isSome = true)) then c = b
        else if snap = false
            ∧ b.rd (Reg.GPVT.REC_WORD 2) + b.rd (Reg.GPVT.REC_WORD 3) * 2 ^ 32 ≠ b.gnss.epochFt then
          c.rd Reg.GPVT.PSTAT_STALE = 1 ∧ (c.rd (Reg.HDR.IRQ_RAW 0x1B)).testBit 1 = true ∧ c.gnss = b.gnss
            ∧ b.Frame [Reg.GPVT.PSTAT_STALE, Reg.HDR.IRQ_RAW 0x1B] c
        else c.rd Reg.GPVT.PSTAT_STALE = 0 ∧ c.rd Reg.GPVT.PSTAT_SEQ = (b.rd Reg.GPVT.PSTAT_SEQ + 1) % 2 ^ Reg.GPVT.PSTAT_SEQ.width
          ∧ (c.rd (Reg.HDR.IRQ_RAW 0x1B)).testBit 0 = true
          ∧ c.rd Reg.GPVT.PSTAT_LATE = (if snap = false ∧ 300 < b.now - b.gnss.epochAt then 1 else 0)
          ∧ (snap = false → c.gnss.recPosted = true))))
  ∧ (∀ b : Block, Completes .rtcmReceive b fun c =>
    (b.flips = [] → b.SameMem c) ∧ b.SamePages [0x07, 0x09, 0x0A, 0x0B, 0x1B, 0x2E] c
      ∧ (if (b.heldNotice 4).any (fun x => x.tag == 0x30) = true ∧ b.gnssRuns = true then
          c.heldNotice 4 = none ∧ c.rd (Reg.MBX.MSTAT_FULL 4) = 0
        else c = b))

/-- Snapshots (R250 to R254, R259). A request waits for the next pool edge, or is refused; in SNAPSHOT one falls due with the
interval. A capture of ANT_A alone takes the next slot that is not held. An abort and an end end every capture, the one
PARTIAL, the other FULL or PARTIAL, and change memory in the slots alone. The operands, that a command out of its moment
changes nothing, and the readings of log entries 1, 11, 91, 92 and 160 are the model's choice. -/
def Obligations.Snapshots : Prop :=
  (∀ (ant len : Fin 4) (b : Block), Completes (.gsnapStart ant len) b fun c =>
    b.Frame [Reg.GSNAP.SSTAT_RES] c
      ∧ (if b.powered = false ∨ b.running 2 = false then c = b
        else if b.gnss.grabs ≠ [] ∨ b.gnss.request ≠ none ∨ ant.val = 0 ∨ len.val = 3 then
          c.rd Reg.GSNAP.SSTAT_RES = 3 ∧ c.gnss = b.gnss
        else c.gnss.request = some (ant.val, len.val) ∧ b.Frame [] c))
  ∧ (∀ (aon : Nat) (b : Block), Completes (.snapshotInterval aon) b fun c =>
    b.SameMem c ∧ (b.mode ≠ .snapshot → c.gnss.request = b.gnss.request)
      ∧ (b.mode = .snapshot → b.gnss.snapAt + 10000 * b.rd Reg.PWR.SNAP_INTERVAL ≤ b.now → b.gnss.grabs = [] →
          c.gnss.request = some (b.rd Reg.PWR.SNAP_ANT, b.rd Reg.PWR.SNAP_LEN)))
  ∧ (∀ b : Block, Completes .captureBegin b fun c =>
    (b.flips = [] → b.SameMem c) ∧ b.SamePages (b.domainPages ++ [0x07, 0x0A, 0x0B, 0x17, 0x1A, 0x2E]) c
      ∧ (b.domainPages = [] → b.gnss.fftHeld = none → b.Frame [Reg.GSNAP.SLOTS_S, Reg.GSNAP.SSTAT_BUSY, Reg.GSNAP.SSTAT_RES] c)
      ∧ (if (if b.powered then b.drip = 0 ∧ b.running 2 = true else b.mode = .snapshot) ∧ b.gnss.grabs = [] then
          c.gnss.request = none ∧ c.gnss.coldDue = false
            ∧ (∀ r ∈ b.gnss.request, b.gnss.coldDue = false → r.1 = 1 → ∀ i ∈ b.pickSlot 0,
                (c.gnss.grabs.map fun g => (g.ant, g.slot, g.want, g.ft)) = [(0, i, 16368 * 2 ^ (r.2 + 1), b.ft)]
                  ∧ c.rd Reg.GSNAP.SSTAT_BUSY = 1)
        else c = b))
  ∧ (∀ (sa sb : List Byte) (b : Block), Completes (.gsnapAbort sa sb) b fun c =>
    c.gnss.grabs = [] ∧ b.SamePages (b.domainPages ++ [0x07, 0x0A, 0x0B, 0x17, 0x1A, 0x2E]) c
      ∧ b.SameMemBut 0x20180000 0x80000 c
      ∧ (if b.gnss.grabs = [] then b.SameMem c ∧ b.SamePages b.domainPages c
        else (b.running 3 = true ∨ b.mode = .snapshot) → c.rd Reg.GSNAP.SSTAT_BUSY = 0 ∧ c.rd Reg.GSNAP.SSTAT_RES = 2 ∧ (c.rd (Reg.HDR.IRQ_RAW 0x1A)).testBit 0 = true))
  ∧ (∀ (aon : Nat) (sa sb : List Byte) (b : Block), Completes (.captureEnd aon sa sb) b fun c =>
    c.gnss.grabs = [] ∧ b.SamePages (b.domainPages ++ [0x07, 0x0A, 0x0B, 0x17, 0x1A, 0x2E]) c
      ∧ b.SameMemBut 0x20180000 0x80000 c
      ∧ (if b.gnss.grabs = [] then b.SameMem c ∧ b.SamePages b.domainPages c
        else (b.running 3 = true ∨ b.mode = .snapshot) → c.rd Reg.GSNAP.SSTAT_BUSY = 0 ∧ (c.rd Reg.GSNAP.SSTAT_RES = 1 ∨ c.rd Reg.GSNAP.SSTAT_RES = 2)
          ∧ (c.rd (Reg.HDR.IRQ_RAW 0x1A)).testBit 0 = true))

/-- Transmitting (R107, R395, R398, R400, R403, R404, R410, R420, Table RAD-5). What is no data frame of Table RAD-2 is not
sent. A transmission refused at once ends SHED, NO_KEY or FC_OUT, and one that the mode does not allow waits in the core; any
other takes the next frame counter, which its retries keep, and ends with one result, CCA_FAIL with the channel too often
busy, NOACK after the last retry and KEYLOST when its key was erased. A report of a MSG takes 4 bytes at `buf`. The operands,
that a command out of its moment changes nothing, and the readings of log entries 1, 11, 102, 105, 106, 151 and 152 are the
model's choice. -/
def Obligations.RadioTransmit : Prop :=
  (∀ (buf : Word) (b : Block), Completes (.txGo buf) b fun c =>
    let idx := b.rd Reg.RAD.TX_CTL_KEYIDX
    let kind := Block.linkType b.txPsdu
    let ends (res : Nat) : Prop := c.rd Reg.RAD.TX_STAT_RES = res ∧ c.radio.tx = none ∧ b.SameMemBut buf.toNat 4 c
      ∧ b.SamePages [0x04, 0x05, 0x07, 0x09, 0x0A, 0x0B, 0x28, 0x29, 0x2E] c
      ∧ (kind ≠ 5 → b.SameMem c ∧ (res = 7 → b.Frame [Reg.RAD.TX_STAT_RES, Reg.HDR.IRQ_RAW 0x28] c))
    if b.radio.tx.isSome = true ∨ b.sendable b.txPsdu = false then c = b
    else if b.quietTx = true then ends 7 ∧ c.radio.waiting = b.radio.waiting
    else if b.radioOn = false ∨ b.txAllowed kind = false then
      ends 7 ∧ c.radio.waiting = b.radio.waiting ++ [(b.txPsdu, idx, buf.toNat)]
    else if b.radioKey idx = none then ends 6
    else if b.rd Reg.RADSEC.FC_FC = 0xFFFFFFFF then ends 8
    else c.rd Reg.RAD.TX_STAT_RES = 1 ∧ c.rd Reg.RADSEC.FC_FC = b.rd Reg.RADSEC.FC_FC + 1 ∧ b.SameMem c
      ∧ c.radio.tx.map (fun t => (t.kind, t.tries, t.keyLost)) = some (kind, 0, false)
      ∧ c.resp.bytes.length ≤ b.txPsdu.length + 8 ∧ c.resp.bytes.length ≤ 255
      ∧ (b.sec.pending = [] → b.Frame [Reg.RAD.TX_STAT_RES, Reg.RADSEC.FC_FC] c))
  ∧ (∀ (buf : Word) (b : Block), Completes (.radioAckTimeout buf) b fun c =>
    b.SameMemBut buf.toNat 4 c
      ∧ (if b.radio.tx.any (·.uni) = false then c = b
        else ∀ t ∈ b.radio.tx,
          if t.keyLost = false ∧ t.tries < b.rd Reg.RAD.MAC_RETRIES then
            c.radio.tx = some { t with tries := t.tries + 1 } ∧ b.Frame [] c
          else c.rd Reg.RAD.TX_STAT_RES = (if t.keyLost then 5 else 3) ∧ c.radio.tx = none
            ∧ (c.rd (Reg.HDR.IRQ_RAW 0x28)).testBit 1 = true
            ∧ (b.sec.pending = [] → c.rd Reg.RADSEC.FC_FC = b.rd Reg.RADSEC.FC_FC)))
  ∧ (∀ (busy : Fin 8) (buf : Word) (b : Block), Completes (.radioTxEnd busy buf) b fun c =>
    b.SameMemBut buf.toNat 4 c
      ∧ (if b.radio.tx = none then c = b
        else c.radio.tx = none ∧ (c.rd (Reg.HDR.IRQ_RAW 0x28)).testBit 1 = true
          ∧ (b.sec.pending = [] → c.rd Reg.RADSEC.FC_FC = b.rd Reg.RADSEC.FC_FC)
          ∧ (∀ t ∈ b.radio.tx, c.rd Reg.RAD.TX_STAT_RES = (if t.keyLost then 5 else if b.rd Reg.RAD.MAC_BACKOFFS < busy.val then 4 else 2)
              ∧ (t.kind ≠ 5 → b.sec.pending = [] → b.Frame [Reg.RAD.TX_STAT_RES, Reg.HDR.IRQ_RAW 0x28] c))))

/-- Receiving (R396, R398, R399, R401, R402, R405, R421). A frame is dropped and counted by the first rule it breaks, and
stores its counter only when it opens under its key; a good one joins the queue of 8 behind those already there. A reloaded
core replays its hold area before any other reception. In DARK the time that has passed counts first. `RX_POP` takes the head.
The operands, that a command out of its moment changes nothing, and the readings of log entries 1, 11, 7, 102, 103, 104 and
106 are the model's choice. -/
def Obligations.RadioReceive : Prop :=
  (∀ (aon : Nat) (modeSwitch fcs2 : Bool) (raw : List Byte) (rssi : Byte) (cyc : BitVec 14) (b : Block),
    Completes (.radioFrameReceive aon modeSwitch fcs2 raw rssi cyc) b fun c =>
      let d := b.dozeOn aon
      let p := Block.bare raw
      let base := d.rd (Reg.RAD.BASE_EXT_EXT 0) + d.rd (Reg.RAD.BASE_EXT_EXT 1) * 2 ^ 32
      let counts (f : Fld) : Prop := c.rd f = min (2 ^ f.width - 1) (d.rd f + 1)
      let replay := (if Block.keyIndexOf p = 1 then d.takeKey 3 else d.takeKey 4).1.radio.replay
      let dropped : Prop := c.radio.queue = d.radio.queue ∧ c.resp = d.resp
      (b.powered = true → d = b) ∧ d.SameMem c ∧ d.SamePages [0x04, 0x05, 0x0B, 0x28, 0x29, 0x2E] c
        ∧ c.radio.queue.take d.radio.queue.length = d.radio.queue
        ∧ (if d.radioOn = false ∨ d.replayFirst = true then c = d
          else if modeSwitch = true ∨ fcs2 = true ∨ 255 < raw.length then
            counts Reg.RAD.DROP_FORMAT ∧ d.Frame [Reg.RAD.DROP_FORMAT, Reg.HDR.IRQ_RAW 0x28] c ∧ dropped
          else if Block.fcsGood raw = false then counts Reg.RAD.COUNTS_CRC_BAD ∧ dropped ∧ c.radio.replay = d.radio.replay
          else if d.malformed p = true then counts Reg.RAD.DROP_FORMAT ∧ dropped ∧ c.radio.replay = d.radio.replay
          else if d.elsewhere p = true then dropped ∧ c.radio.replay = d.radio.replay
          else if p.getD (Block.auxAt (Block.isUni p)) 0 ≠ 0x0D#8 ∨ d.radioKey (Block.keyIndexOf p) = none then
            counts Reg.RADSEC.BAD_SEC_COUNT ∧ dropped ∧ (c.radio.replay = d.radio.replay ∨ c.radio.replay = replay)
          else if (replay.any fun e => e.1 = Block.srcOf p && Block.fcOf p ≤ e.2) = true then
            counts Reg.RADSEC.COUNTS_REPLAY ∧ dropped ∧ c.radio.replay = replay
          else if d.opened p = none then
            counts Reg.RADSEC.COUNTS_MIC_FAIL ∧ dropped ∧ c.radio.replay = replay
          else ∀ link ∈ d.opened p,
            let stored : Prop := c.radio.replay.head? = some (Block.srcOf p, Block.fcOf p) ∧ c.radio.replay.length ≤ 8
            if (link.headD 0).toNat = 0 ∨ 6 < (link.headD 0).toNat then counts Reg.RAD.DROP_FORMAT ∧ dropped ∧ stored
            else if (link.headD 0).toNat ≤ 4 ∧ base ≠ 0 ∧ Block.srcOf p ≠ base then
              counts Reg.RAD.DROP_NOT_BASE ∧ dropped ∧ stored
            else if 8 ≤ d.radio.queue.length then counts Reg.RAD.DROP_QUEUE ∧ dropped
            else stored ∧ (c.radio.queue.drop d.radio.queue.length).map (fun f => (f.link, f.src, f.rssi, f.sfd))
                = [(link, Block.srcOf p, rssi.toNat, d.ftAt (min 16367 cyc.toNat))]
              ∧ (c.rd (Reg.HDR.IRQ_RAW 0x28)).testBit 0 = true))
  ∧ (∀ b : Block, Completes .rxPop b fun c =>
    b.SameMem c ∧ b.SamePages [0x28] c
      ∧ (if b.radio.queue = [] then c = b
        else c.radio.queue = b.radio.queue.tail ∧ c.radio.taken = b.radio.queue.head?
          ∧ c.rd Reg.RAD.RX_INFO_VALID = (if b.radio.queue.length = 1 then 0 else 1)
          ∧ (∀ f ∈ b.radio.queue.head?, c.rd (Reg.RAD.LAST_SFD_FT 0) = f.sfd % 2 ^ 32
              ∧ c.rd (Reg.RAD.LAST_SFD_FT 1) = f.sfd / 2 ^ 32 % 2 ^ 32 ∧ c.rd Reg.RAD.RSSI_LAST = f.rssi % 256)))

/-- Link frames (R406, R407, R409, R410, R411, R422). The frame taken last is handled once, by the command of its type.
Fragments of a correction message join in index order; a batt that is not wanted, or of another tag, is passed over;
incomplete batts lapse after 30 s; a new schedule keeps the executed marks and its entries start at their time; a repeated MSG
is not posted, and one that MAIN gives is sent; a beacon sets the period, and one good enough is a base time sample. The
wanted map is taken from its mailbox. The operands, that a command out of its moment changes nothing, and the readings of log
entries 1, 11, 106 and 152 are the model's choice. -/
def Obligations.LinkFrames : Prop :=
  (∀ (buf : Word) (b : Block), Completes (.corr buf) b fun c =>
    b.SameMemBut buf.toNat 2040 c ∧ b.SamePages [0x07, 0x09, 0x0A, 0x0B, 0x2E] c
      ∧ (if (b.takenOf 1).isNone = true then c = b
        else c.radio.taken = none ∧ ∀ f ∈ b.takenOf 1,
          let rx := b.agents.gnss && [Mode.wake, .pump, .field, .service].contains b.mode
          (rx = false ∨ f.link.length < 7 → c.radio.corr = none ∧ c.mbx = b.mbx)
            ∧ (rx = true → 7 ≤ f.link.length → (f.link.getD 2 0).toNat < 128 →
                c.mbx = b.mbx
                  ∧ ((f.link.getD 2 0).toNat % 16 = 0 →
                      (b.radio.corr.any fun x => x.1 == (f.link.getD 1 0).toNat && x.2.1 == 0) = false →
                        c.radio.corr = some ((f.link.getD 1 0).toNat, 1, f.link.drop 6))
                  ∧ (∀ x ∈ b.radio.corr, x.1 = (f.link.getD 1 0).toNat → x.2.1 = (f.link.getD 2 0).toNat % 16 →
                      c.radio.corr = some ((f.link.getD 1 0).toNat, (f.link.getD 2 0).toNat % 16 + 1, x.2.2 ++ f.link.drop 6)))))
  ∧ (∀ (buf : Word) (b : Block), Completes (.batt buf) b fun c =>
    (if b.mode = .dark then b.SameRegs [] c else b.SamePages [0x07, 0x09, 0x0A, 0x0B, 0x28, 0x2E] c)
      ∧ b.SameMemBut buf.toNat 1064 c
      ∧ (if (b.takenOf 3).isNone = true then c = b
        else c.radio.taken = none ∧ ∀ f ∈ b.takenOf 3,
          (b.radio.wanted.testBit (leValue ((f.link.drop 2).take 2)) = false → c.radio.parts = b.radio.parts ∧ b.Frame [] c)
            ∧ (leValue ((f.link.drop 4).take 4) ≠ b.radio.wantTag → c.radio.parts = b.radio.parts ∧ b.Frame [] c)
            ∧ (∀ i ∈ List.range 2048, c.radio.wanted.testBit i = true → b.radio.wanted.testBit i = true)))
  ∧ (∀ (i : BitVec 11) (b : Block), Completes (.battFragmentTimeout i) b fun c =>
    c = { b with radio := { b.radio with
      parts := b.radio.parts.filter fun (p : BattPart) => !(p.index == i.toNat && p.last + 300000 ≤ b.now) } })
  ∧ (∀ (buf : Word) (b : Block), Completes (.sched buf) b fun c =>
    b.SameMemBut buf.toNat 255 c ∧ b.SamePages [0x07, 0x09, 0x0A, 0x0B, 0x28, 0x2E] c
      ∧ (if (b.takenOf 4).isNone = true then c = b
        else c.radio.taken = none ∧ ∀ f ∈ b.takenOf 4,
          if (f.link.getD 1 0).toNat = 0 ∨ 8 < (f.link.getD 1 0).toNat ∨ f.link.length < 4 + 12 * (f.link.getD 1 0).toNat
              ∨ b.radio.schedVer = some (leValue ((f.link.drop 2).take 2)) then
            c.radio.sched = b.radio.sched ∧ b.Frame [] c
          else c.radio.schedVer = some (leValue ((f.link.drop 2).take 2)) ∧ c.radio.sched.length = (f.link.getD 1 0).toNat
            ∧ (∀ e ∈ c.radio.sched, e.done = b.radio.sched.any fun o => o.id == e.id && o.done)))
  ∧ (∀ (aon : Nat) (k : Fin 8) (b : Block), Completes (.schedEntryStart aon k) b fun c =>
    let d := b.dozeOn aon
    (b.powered = true → d = b) ∧ d.SameMem c ∧ (d.mode ≠ .dark → d.Frame [] c)
      ∧ (d.radioFit = false ∨ d.radio.sched[k.val]? = none → c = d)
      ∧ (∀ e ∈ d.radio.sched[k.val]?, d.radioFit = true →
          if e.done = true ∨ (d.ftDrips : Int) < (e.start * 10000 : Nat) + d.eraOfs then c = d
          else (∀ x ∈ c.radio.sched[k.val]?, x = { e with done := true })
            ∧ (e.kind = 2 → c.radio.quietTo = max d.radio.quietTo (d.ftDrips + e.dur * 10000))
            ∧ (e.kind = 1 →
                c.radio.listen = some (if e.chan = 0xFF then d.tuned.1 else e.chan, e.rate, d.ftDrips + e.dur * 10000)
                  ∧ (d.mode = .dark → c.radio.listening = some (d.now + e.dur * 10000)))))
  ∧ (∀ (buf : Word) (b : Block), Completes (.msg buf) b fun c =>
    b.SamePages [0x04, 0x05, 0x07, 0x09, 0x0A, 0x0B, 0x28, 0x29, 0x2E] c ∧ b.SameMemBut buf.toNat 263 c
      ∧ (if (b.takenOf 5).isNone = true then
          if b.radioOn = false ∨ b.radio.tx.isSome = true ∨ (b.heldNotice 2).any (·.tag == 0x51) = false then c = b
          else c.heldNotice 2 = none ∧ c.rd (Reg.MBX.MSTAT_FULL 2) = 0
            ∧ (∀ x ∈ b.heldNotice 2, 8 < x.len → b.flips = [] → b.allowedRange 2 x.ptr (min x.len 228) 0 = true → x.ptr % 4 = 0 →
              c.rd Reg.RAD.TX_CTL_KEYIDX = 2 ∧ (c.txPsdu.drop 5).take 8 = b.bytes x.ptr 8
                ∧ c.txPsdu.drop 27 = b.bytes (x.ptr + 8) (min x.len 228 - 8))
        else c.radio.taken = none ∧ ∀ f ∈ b.takenOf 5,
          if b.radio.lastMsg.contains (f.src, (f.link.getD 1 0).toNat) = true then
            c.radio.items = b.radio.items ∧ c.mbx = b.mbx ∧ b.Frame [] c
          else c.radio.lastMsg.head? = some (f.src, (f.link.getD 1 0).toNat)
            ∧ (4 ≤ b.radio.items.length →
                c.rd Reg.RAD.DROP_QUEUE = min (2 ^ Reg.RAD.DROP_QUEUE.width - 1) (b.rd Reg.RAD.DROP_QUEUE + 1) ∧ b.SameMem c)))
  ∧ (∀ b : Block, Completes .time b fun c =>
    b.SameMem c ∧ b.SamePages [0x0B, 0x28, 0x2D] c
      ∧ (if (b.takenOf 2).isNone = true then c = b
        else c.radio.taken = none ∧ c.radio.missed = 0 ∧ 1 ≤ c.radio.period ∧ c.radio.period ≤ 60
          ∧ (∀ f ∈ b.takenOf 2, c.radio.beaconAt = b.now - (b.ftDrips - f.sfd / 65536) ∧
              if (f.link.getD 1 0).toNat % 2 = 1 ∧ leValue ((f.link.drop 14).take 2) ≤ 1000 ∧ 16 ≤ f.link.length then
                c.rd Reg.RAD.BCN_S_S = leValue ((f.link.drop 6).take 4)
                  ∧ c.rd Reg.RAD.BCN_UNC_US = leValue ((f.link.drop 14).take 2)
              else b.Frame [] c)))
  ∧ (∀ b : Block, Completes .bcnPost b fun c =>
    let sfd := b.rd (Reg.RAD.LAST_SFD_FT 0) + b.rd (Reg.RAD.LAST_SFD_FT 1) * 2 ^ 32
    let diff := b.timeDelta (b.rd Reg.RAD.BCN_S_S) (b.rd Reg.RAD.BCN_NS_NS) sfd
    b.SameMem c ∧ b.SamePages [0x0B, 0x2D] c ∧ c.radio = b.radio ∧ c.time.baseAt = some b.now
      ∧ c.rdI Reg.TIME.BASE_RESID_US = Block.sat32i (roundDiv diff 1000))
  ∧ (∀ b : Block, Completes .wantedMapNotice b fun c =>
    (b.flips = [] → b.SameMem c) ∧ b.SamePages [0x07, 0x09, 0x0A, 0x0B, 0x2E] c
      ∧ (if b.agents.radio = true ∧ (b.heldNotice 2).any (·.tag == 0x50) = true then
          c.heldNotice 2 = none ∧ c.rd (Reg.MBX.MSTAT_FULL 2) = 0
            ∧ (c.radio.wantTag ≠ b.radio.wantTag → c.radio.parts = [])
        else c = b))

/-- The radio beside its link frames (R404, R412, R413, R415). NEED is sent where one may be sent, no more often than its
period and only while batts are wanted. In DARK the time that has passed counts first; a window opens around the expected
beacon, or after three misses for a whole period every 15 minutes, and a LISTEN window ends at its own time. Held batts are
posted one at a time, while mailbox 3 is empty; with none left, the hold area is given up. The operands, that a command out of
its moment changes nothing, and the readings of log entries 1, 11, 106 and 107 are the model's choice. -/
def Obligations.RadioDark : Prop :=
  (∀ b : Block, Completes .need b fun c =>
    b.SameMem c ∧ b.SamePages [0x04, 0x05, 0x0B, 0x28, 0x29] c
      ∧ (if b.powered = false ∨ b.radioOn = false ∨ b.radio.tx.isSome = true ∨ b.radio.wanted % 2 ^ 2048 = 0
            ∨ b.txAllowed 6 = false ∨ b.quietTx = true
            ∨ (b.radio.lastNeed.any fun t => decide (b.now < t + 10000 * b.rd Reg.RAD.DARK_NEED_PER)) = true then c = b
        else c.radio.lastNeed = some b.now ∧ c.rd Reg.RAD.TX_CTL_KEYIDX = 2 ∧ Block.linkType c.txPsdu = 6
          ∧ (b.radioKey 2 = none → c.rd Reg.RAD.TX_STAT_RES = 6)
          ∧ (b.radioKey 2 ≠ none → b.rd Reg.RADSEC.FC_FC ≠ 0xFFFFFFFF → c.rd Reg.RAD.TX_STAT_RES = 1 ∧ c.radio.tx.isSome = true)))
  ∧ (∀ (aon : Nat) (b : Block), Completes (.beaconWindow aon) b fun c =>
    let d := b.dozeOn aon
    (b.powered = true → d = b) ∧ d.SameMem c
      ∧ (if d.mode ≠ .dark ∨ d.radioFit = false then c = d
        else if 3 ≤ d.radio.missed then
          if (d.radio.searchAt.any fun t => decide (d.now < t + 9000000)) = true then c = d
          else c.radio.window = some (d.now + 10000 * d.radio.period) ∧ c.radio.searchAt = some d.now
        else if d.now + 5 * d.rd Reg.RAD.DARK_BCN_WIN < d.radio.beaconAt + (d.radio.missed + 1) * d.radio.period * 10000 then
          c = d
        else c.radio.window = some (d.now + 10 * d.rd Reg.RAD.DARK_BCN_WIN) ∧ c.radio.missed = d.radio.missed + 1))
  ∧ (∀ (aon : Nat) (b : Block), Completes (.listenWindowEnd aon) b fun c =>
    let d := b.dozeOn aon
    (b.powered = true → d = b) ∧ d.SameMem c
      ∧ (if d.mode ≠ .dark ∨ (d.radio.listening.all fun t => decide (d.now < t)) = true then c = d
        else c.radio.listening = none ∧ c.radio.listen = none ∧ c.radio.window = d.radio.window
          ∧ (d.radio.stored = false ∨ d.is Reg.RAD.DARK_TX_EN = false → c.radio.lastNeed = d.radio.lastNeed)))
  ∧ (∀ (buf : Word) (b : Block), Completes (.holdAreaReplay buf) b fun c =>
    b.SameMemBut buf.toNat 1064 c ∧ b.SamePages [0x07, 0x09, 0x0A, 0x0B, 0x2E] c
      ∧ (if b.powered = false ∨ b.radioOn = false ∨ b.holdValid = false then c = b
        else (b.holdMap % 2 ^ 30 = 0 → c.holdValid = false ∧ b.Frame [] { c with ramRadio := b.ramRadio })
          ∧ ((b.heldNotice 3).isSome = true → b.holdMap % 2 ^ 30 ≠ 0 → c = b)))

/-- Field time (R416 to R419, R422, Table RAD-8). A sample never moves field time itself: it plans a forward step or a slew,
or makes an era step at once; one of the base is only compared while GNSS is valid. A step acts at a pool edge, a slew starts
and ends with the SYNC that says so or, without CAN, by time (one that a SYNC began, at its time or at a pool edge after it),
and in FIELD each waits while it is larger than `DEFER`. The source is the highest that is valid; a seed is taken once, as a
forward step. The operands, that a command out of its moment changes nothing, and the readings of log entries 1, 11, 109, 110
and 112 are the model's choice. -/
def Obligations.FieldTime : Prop :=
  (∀ (gnss : Bool) (sec : Word) (ns : BitVec 30) (ft : BitVec 64) (b : Block), Completes (.timeSample gnss sec ns ft) b fun c =>
    c.ft = b.ft ∧ b.SameMem c ∧ b.SamePages [0x0B, 0x2D] c
      ∧ (gnss = true → c.rd Reg.TIME.TSTAT_SRC = 2)
      ∧ (gnss = false → c.rd Reg.TIME.BASE_RESID_US
          = unsignedOf 32 (Block.sat32i (roundDiv (b.timeDelta sec.toNat ns.toNat ft.toNat) 1000)))
      ∧ (b.gnssValid = false → gnss = false → c.rd Reg.TIME.TSTAT_SRC = 1)
      ∧ (b.gnssValid = true → gnss = false → c.time.act = b.time.act ∧ c.eraOfs = b.eraOfs
          ∧ b.SameRegs ([Reg.TIME.TSTAT_SRC, Reg.HDR.IRQ_RAW 0x2D, Reg.TIME.BASE_RESID_US] ++ evFlds) c)
      ∧ (b.powered = false → c.time.act = b.time.act ∧ c.eraOfs = b.eraOfs ∧ c.rd Reg.TIME.TSTAT_ERA = b.rd Reg.TIME.TSTAT_ERA)
      ∧ (b.powered = true → (gnss = true ∨ b.gnssValid = false) →
          c.rd Reg.TIME.RESID_NS = unsignedOf 32 (Block.sat32i (b.timeDelta sec.toNat ns.toNat ft.toNat))
            ∧ (if (b.timeDelta sec.toNat ns.toNat ft.toNat).natAbs < 100000 then
                c.time.act = none ∧ c.rd Reg.TIME.TSTAT_ERA = b.rd Reg.TIME.TSTAT_ERA
              else if 0 < b.timeDelta sec.toNat ns.toNat ft.toNat then
                c.time.act.map (fun a => (a.slew, a.amount))
                    = some (false, (b.timeDelta sec.toNat ns.toNat ft.toNat).toNat / 100000)
                  ∧ c.rd Reg.TIME.TSTAT_ERA = b.rd Reg.TIME.TSTAT_ERA
              else if -2000000000 ≤ b.timeDelta sec.toNat ns.toNat ft.toNat then
                c.rd Reg.TIME.TSTAT_ERA = b.rd Reg.TIME.TSTAT_ERA
                  ∧ (b.time.slew = none → c.time.act.map (fun a => (a.slew, a.amount))
                      = some (true, (b.timeDelta sec.toNat ns.toNat ft.toNat).natAbs))
                  ∧ (∀ s ∈ b.time.slew, c.time.act = none
                      ∧ c.time.slew = some { s with need := (b.timeDelta sec.toNat ns.toNat ft.toNat).natAbs, began := b.now })
              else c.time.act = none ∧ c.rd Reg.TIME.TSTAT_ERA = (b.rd Reg.TIME.TSTAT_ERA + 1) % 256
                ∧ unsignedOf 64 c.eraOfs
                    = unsignedOf 64 (b.eraOfs + roundDiv (-(b.timeDelta sec.toNat ns.toNat ft.toNat)) 100000)
                ∧ (c.rd (Reg.HDR.IRQ_RAW 0x2D)).testBit 3 = true)))
  ∧ (∀ b : Block, Completes .fieldTimeStep b fun c =>
    b.Frame [Reg.TIME.TSTAT_DEFER, Reg.TIME.STEPS_FWD, Reg.HDR.IRQ_RAW 0x2D] c
      ∧ (b.drip ≠ 0 ∨ b.powered = false ∨ b.time.act = none → c = b)
      ∧ (∀ a ∈ b.time.act, a.slew = true ∨ b.tick.pools ≤ a.since → c = b)
      ∧ (∀ a ∈ b.time.act, b.mode = .field → b.rd Reg.TIME.CFG_DEFER < a.amount → c = b)
      ∧ (∀ a ∈ b.time.act, a.slew = false → a.since < b.tick.pools → b.drip = 0 → b.powered = true →
          (b.mode ≠ .field ∨ a.amount ≤ b.rd Reg.TIME.CFG_DEFER) →
            c.ft = b.ft + a.amount * 65536 ∧ c.time.act = none ∧ c.rd Reg.TIME.TSTAT_DEFER = 0
              ∧ (c.rd (Reg.HDR.IRQ_RAW 0x2D)).testBit 0 = true))
  ∧ (∀ b : Block, Completes .slewStart b fun c =>
    c.ft = b.ft ∧ b.Frame [Reg.TIME.TSTAT_DEFER, Reg.TIME.TSTAT_SLEW, Reg.TIME.STEPS_BACK] c
      ∧ (b.powered = false ∨ b.time.act.any (·.slew) = false → c = b)
      ∧ (∀ a ∈ b.time.act, b.mode = .field → b.rd Reg.TIME.CFG_DEFER < ceilDiv a.amount 100000 → c = b)
      ∧ (∀ a ∈ b.time.act, a.slew = true → b.powered = true →
          (b.mode ≠ .field ∨ ceilDiv a.amount 100000 ≤ b.rd Reg.TIME.CFG_DEFER) →
          (if b.is Reg.HDR.CAN_RUN then a.armed = true else b.drip = 0) →
            c.rd Reg.TIME.TSTAT_SLEW = 1 ∧ c.time.act = none
              ∧ c.time.slew.map (fun s => (s.need, s.began)) = some (a.amount, b.now)))
  ∧ (∀ b : Block, Completes .slewEnd b fun c =>
    c.ft = b.ft ∧ b.Frame [Reg.TIME.TSTAT_DEFER, Reg.TIME.TSTAT_SLEW, Reg.HDR.IRQ_RAW 0x2D] c
      ∧ (b.time.slew = none → c = b)
      ∧ (∀ s ∈ b.time.slew,
          if (if s.bySync = true ∧ b.is Reg.HDR.CAN_RUN = true then s.ending = true
              else s.began + 2 * ceilDiv s.need 100000 ≤ b.now
                ∧ (s.bySync = false ∨ b.now = s.began + 2 * ceilDiv s.need 100000 ∨ b.drip = 0)) then
            c.time.slew = none ∧ c.rd Reg.TIME.TSTAT_SLEW = 0 ∧ (c.rd (Reg.HDR.IRQ_RAW 0x2D)).testBit 1 = true
          else c = b))
  ∧ (∀ b : Block, Completes .timeSourceTimeout b fun c =>
    b.Frame [Reg.TIME.TSTAT_SRC, Reg.HDR.IRQ_RAW 0x2D] c
      ∧ c.rd Reg.TIME.TSTAT_SRC = (if b.gnssValid = true then 2 else if b.baseValid = true then 1 else 0)
      ∧ (c.rd Reg.TIME.TSTAT_SRC ≠ b.rd Reg.TIME.TSTAT_SRC → (c.rd (Reg.HDR.IRQ_RAW 0x2D)).testBit 2 = true))
  ∧ (∀ (hi : Word) (b : Block), Completes (.seed hi) b fun c =>
    c.ft = b.ft ∧ b.Frame [Reg.TIME.TSTAT_SEED_USED, Reg.TIME.TSTAT_DEFER] c
      ∧ (if b.rd Reg.TIME.TSTAT_SRC = 0 ∧ b.is Reg.TIME.TSTAT_AON_LOST = true ∧ b.is Reg.TIME.TSTAT_SEED_USED = false
            ∧ b.ftDrips < (b.rd (Reg.TIME.SEED_FT 0) + hi.toNat * 2 ^ 32) / 65536 then
          c.rd Reg.TIME.TSTAT_SEED_USED = 1
            ∧ c.time.act.map (fun a => (a.slew, b.ftDrips + a.amount))
                = some (false, (b.rd (Reg.TIME.SEED_FT 0) + hi.toNat * 2 ^ 32) / 65536)
        else c = b))

/-- An update opens and closes (R146, R433, R435, R437, R443). An empty STAGE is opened at once, an open update of another tag
is replaced, the same tag resumes; a close erases the stage header first and the end of the erase the rest; and the manifest
check passes, or closes the update with its cause. What reads and writes flash waits its turn at the controller (log entries
140, 159). The operands, that a command out of its moment changes nothing, and the readings of log entries 1, 11, 113, 140 and
159 are the model's choice. -/
def Obligations.UpdateSession : Prop :=
  (∀ b : Block, Completes .updOpen b fun c =>
    b.SamePages [0x0E, 0x0F] c ∧ b.SameOutside (fun a => inRange stageBase 0x100000 a || inRange imageBase 4096 a) c
      ∧ (if b.rd Reg.UPD.USTAT_STATE = 0 then
          if b.flashWaits 1 then
            c.rd Reg.UPD.USTAT_OPEN_RES = (if b.flash.due.contains (.open_ (b.rd Reg.UPD.TAG_TAG)) then 2 else 1)
              ∧ b.Frame [Reg.UPD.USTAT_OPEN_RES] c ∧ c.upd = b.upd ∧ c.flash.waiting.contains 1 = true
              ∧ c.flash.due.filter (fun d => Block.dueOwner d = 1) = [.open_ (b.rd Reg.UPD.TAG_TAG)]
          else c.rd Reg.UPD.USTAT_OPEN_RES = (if b.flash.due.contains (.open_ (b.rd Reg.UPD.TAG_TAG)) then 2 else 1)
            ∧ c.rd Reg.UPD.USTAT_STATE = 2 ∧ c.rd Reg.UPD.COUNTS_SLOTS = 0
            ∧ c.rd Reg.UPD.USTAT_DIRECT = (if b.is Reg.UPD.USTAT_LOADER_ONLY then 1 else 0)
            ∧ (b.erased stageBase 0x1000 = true → b.rd Reg.UPD.TAG_TAG < 2 ^ 32 →
                c.stageOk = true ∧ c.stageTag = b.rd Reg.UPD.TAG_TAG ∧ c.rd Reg.UPD.COUNTS_WANTED = 4)
        else if b.rd Reg.UPD.USTAT_STATE = 1 then c.rd Reg.UPD.USTAT_OPEN_RES = 3 ∧ b.Frame [Reg.UPD.USTAT_OPEN_RES] c
        else if b.stageTag = b.rd Reg.UPD.TAG_TAG then c.rd Reg.UPD.USTAT_OPEN_RES = 2 ∧ b.Frame [Reg.UPD.USTAT_OPEN_RES] c
        else if 7 ≤ b.rd Reg.UPD.USTAT_STATE then c.rd Reg.UPD.USTAT_OPEN_RES = 3 ∧ b.Frame [Reg.UPD.USTAT_OPEN_RES] c
        else c.rd Reg.UPD.USTAT_STATE = 1 ∧ c.rd Reg.UPD.USTAT_CAUSE = 7 ∧ c.upd.toOpen = some (b.rd Reg.UPD.TAG_TAG)))
  ∧ (∀ b : Block, Completes .updClose b fun c =>
    b.SamePages [0x0E, 0x0F] c ∧ b.SameMemBut stageBase 4096 c
      ∧ (if b.rd Reg.UPD.USTAT_STATE < 2 ∨ 7 ≤ b.rd Reg.UPD.USTAT_STATE then c = b
        else c.rd Reg.UPD.USTAT_STATE = 1 ∧ c.rd Reg.UPD.USTAT_CAUSE = 1 ∧ c.upd.toOpen = none
          ∧ (if c.flashWaits 1 then c.flash.due.contains .head = true ∧ b.SameMem c else c.erased stageBase 4096 = true)
          ∧ c.rd Reg.UPD.COUNTS_WANTED = 0 ∧ (c.rd (Reg.HDR.IRQ_RAW 0x0F)).testBit 2 = true))
  ∧ (∀ b : Block, Completes .stageEraseEnd b fun c =>
    if b.flashWaits 1 then b.FlashLater 1 c
    else b.SamePages [0x0E, 0x0F] c ∧ b.SameOutside (fun a => inRange stageBase 0x100000 a || inRange imageBase 4096 a) c
      ∧ (if b.rd Reg.UPD.USTAT_STATE ≠ 1 then b.Frame flashFlds c
        else if b.upd.toOpen = none then
          c.rd Reg.UPD.USTAT_STATE = 0 ∧ c.erased stageBase 0x100000 = true ∧ b.SameMemBut stageBase 0x100000 c
        else c.rd Reg.UPD.USTAT_STATE = 2 ∧ c.upd.toOpen = none
          ∧ (∀ t ∈ b.upd.toOpen, t < 2 ^ 32 → c.stageOk = true ∧ c.stageTag = t)))
  ∧ (∀ b : Block, Completes .manifestCheck b fun c =>
    if b.flashWaits 1 then b.FlashLater 1 c
    else b.SamePages [0x0B, 0x0E, 0x0F, 0x2E] c
      ∧ b.SameOutside (fun a => inRange stageBase 0x100000 a || inRange imageBase 4096 a) c
      ∧ (if b.rd Reg.UPD.USTAT_STATE ≠ 3 then b.Frame flashFlds c
        else if b.manifestGood b.manifest = false then c.rd Reg.UPD.USTAT_STATE = 1 ∧ c.rd Reg.UPD.USTAT_CAUSE = 2
        else if b.baseMatches b.manifest = false then c.rd Reg.UPD.USTAT_STATE = 1 ∧ c.rd Reg.UPD.USTAT_CAUSE = 3
        else if b.stageDirect = false ∧ 980 < Block.stagedBatts b.manifest then
          c.rd Reg.UPD.USTAT_STATE = 1 ∧ c.rd Reg.UPD.USTAT_CAUSE = 4
        else c.rd Reg.UPD.LEN_L = Block.u32At b.manifest 12 ∧ c.rd Reg.UPD.NEW_VER_VER = Block.u32At b.manifest 16 ∧ c.manifestOk = true
          ∧ (c.rd Reg.UPD.USTAT_STATE = 4 ∨ c.rd Reg.UPD.USTAT_STATE = 5)))

/-- A batt is judged in order (R146, R430 to R435, R443, R449): state, address, tag, header, whether it is wanted, its CRC,
its key. One that is not wanted, or fails, is not stored; without AUTH a staged one that passes is stored behind the slots of
its failed verifies, and is then no longer wanted. A batt waits its turn at the flash controller. The operands, that a command
out of its moment changes nothing, and the readings of log entries 1, 11, 114, 115, 116, 140 and 174 are the model's choice.
-/
def Obligations.UpdateAccept : Prop :=
  ∀ (keyLost : Bool) (fails : Fin 4) (b : Block), Completes (.updAccept keyLost fails) b fun c =>
    if b.flashWaits 1 then b.FlashLater 1 c
    else b.SamePages [0x04, 0x05, 0x07, 0x0A, 0x0B, 0x0E, 0x0F, 0x2E] c
      ∧ (b.flips = [] → b.SameOutside (fun a => inRange stageBase 0x100000 a || inRange imageBase 0x200000 a) c)
      ∧ (if b.rd Reg.UPD.USTAT_STATE = 1 ∨ b.rd Reg.UPD.USTAT_STATE = 3 ∨ b.rd Reg.UPD.USTAT_STATE = 6 then
          c.rd Reg.UPD.ACC_RES_RES = 1 ∧ b.Frame (Reg.UPD.ACC_RES_RES :: flashFlds) c
        else if b.rd Reg.UPD.USTAT_STATE = 0 then c.rd Reg.UPD.ACC_RES_RES = 5 ∧ b.Frame (Reg.UPD.ACC_RES_RES :: flashFlds) c
        else if b.rd Reg.UPD.BATT_ADDR_ADDR % 4 ≠ 0 ∨ b.allowedRange 0 (b.rd Reg.UPD.BATT_ADDR_ADDR) 1056 0 = false then
          c.rd Reg.UPD.ACC_RES_RES = 10 ∧ b.Frame (Reg.UPD.ACC_RES_RES :: flashFlds) c
        else b.flips = [] → isSram (b.rd Reg.UPD.BATT_ADDR_ADDR) = true → isSram (b.rd Reg.UPD.BATT_ADDR_ADDR + 1055) = true →
          b.allowedRange 5 (b.rd Reg.UPD.BATT_ADDR_ADDR) 1056 0 = true →
            c.rd Reg.UPD.ACC_RES_INDEX = b.val (b.rd Reg.UPD.BATT_ADDR_ADDR + 2) 2 % 2048
              ∧ (if b.val (b.rd Reg.UPD.BATT_ADDR_ADDR + 4) 4 ≠ b.stageTag then
                  c.rd Reg.UPD.ACC_RES_RES = 5 ∧ b.Frame (Reg.UPD.ACC_RES_RES :: Reg.UPD.ACC_RES_INDEX :: flashFlds) c
                else if Block.battHeadOk (b.bytes (b.rd Reg.UPD.BATT_ADDR_ADDR) 32) = false then
                  c.rd Reg.UPD.ACC_RES_RES = 6 ∧ b.Frame (Reg.UPD.ACC_RES_RES :: Reg.UPD.ACC_RES_INDEX :: flashFlds) c
                else if b.isWanted (b.val (b.rd Reg.UPD.BATT_ADDR_ADDR + 2) 2) = false then
                  (c.rd Reg.UPD.ACC_RES_RES = 3 ∨ c.rd Reg.UPD.ACC_RES_RES = 4)
                    ∧ b.Frame (Reg.UPD.ACC_RES_RES :: Reg.UPD.ACC_RES_INDEX :: flashFlds) c
                else if crc32 (b.bytes (b.rd Reg.UPD.BATT_ADDR_ADDR + 32) 1024) ≠ b.val (b.rd Reg.UPD.BATT_ADDR_ADDR + 8) 4 then
                  c.rd Reg.UPD.ACC_RES_RES = 6 ∧ b.Frame (Reg.UPD.ACC_RES_RES :: Reg.UPD.ACC_RES_INDEX :: flashFlds) c
                else if b.is Reg.UPD.CFG_AUTH = true ∧ (b.takeKey 2).2 = none then c.rd Reg.UPD.ACC_RES_RES = 8
                else if b.is Reg.UPD.CFG_AUTH = true ∧ keyLost = true then c.rd Reg.UPD.ACC_RES_RES = 9 ∧ c.keySlot 2 = none
                else (b.is Reg.UPD.CFG_AUTH = false → b.stageDirect = false → b.slotsUsed + fails.val < 988 → fails.val < 3 →
                  c.rd Reg.UPD.ACC_RES_RES = 2 ∧ c.rd Reg.UPD.COUNTS_SLOTS = b.slotsUsed + fails.val + 1
                    ∧ (b.erased (Block.slotData (b.slotsUsed + fails.val)) 1024 = true →
                        c.bytes (Block.slotData (b.slotsUsed + fails.val)) 1024 = b.bytes (b.rd Reg.UPD.BATT_ADDR_ADDR + 32) 1024)
                    ∧ c.isWanted (b.val (b.rd Reg.UPD.BATT_ADDR_ADDR + 2) 2) = false
                    ∧ (c.rd (Reg.HDR.IRQ_RAW 0x0F)).testBit 0 = true)))

/-- Activation (R107, R146, R438 to R440, R445, Table UPD-6). A check begins with the not-before time, and arms a complete
update whose batts are good, or makes the bad ones wanted again. An armed update starts at a pool edge after its time: it
leaves FIELD first, pauses the slots, then marks COPY, in its turn at the flash controller, and resets MAIN; until then DISARM
takes it back. The operands, that a command out of its moment changes nothing, and the readings of log entries 1, 11, 117, 118
and 140 are the model's choice. -/
def Obligations.Activation : Prop :=
  (∀ b : Block, Completes .updActivate b fun c =>
    b.Frame [Reg.UPD.ACT_RES_RES, Reg.UPD.USTAT_STATE] c
      ∧ (if b.rd Reg.UPD.USTAT_STATE < 2 ∨ b.rd Reg.UPD.USTAT_STATE = 8 ∨ b.is Reg.UPD.USTAT_LOADER_ONLY = true then
          c.rd Reg.UPD.ACT_RES_RES = 5 ∧ c.upd = b.upd ∧ b.Frame [Reg.UPD.ACT_RES_RES] c
        else if b.rd Reg.UPD.USTAT_STATE = 3 then
          c.rd Reg.UPD.ACT_RES_RES = 3 ∧ c.upd = b.upd ∧ b.Frame [Reg.UPD.ACT_RES_RES] c
        else if b.rd Reg.UPD.USTAT_STATE = 6 then c = b
        else c.rd Reg.UPD.USTAT_STATE = 6 ∧ c.rd Reg.UPD.ACT_RES_RES = 1
          ∧ c.upd.notBefore = (b.rd Reg.UPD.NB_LO_DRIP + b.rd Reg.UPD.NB_HI_DRIP * 2 ^ 32, b.rd Reg.UPD.NB_HI_ERA)))
  ∧ (∀ b : Block, Completes .activationCheckEnd b fun c =>
    let d := b.installPending 2
    b.SamePages [0x04, 0x05, 0x0E, 0x0F] c ∧ b.SameMemBut (stageBase + 0x1000) 0x8000 c
      ∧ (if b.rd Reg.UPD.USTAT_STATE ≠ 6 then c = b
        else if b.flashWaits 1 then b.FlashLater 1 c
        else if b.manifestOk = false ∨ b.wantedBatts ≠ [] then
          c.rd Reg.UPD.ACT_RES_RES = 3 ∧ c.rd Reg.UPD.USTAT_STATE ≠ 7
            ∧ d.Frame (Reg.UPD.ACT_RES_RES :: Reg.UPD.USTAT_STATE :: flashFlds) c
        else if d.badBatts = [] then
          c.rd Reg.UPD.USTAT_STATE = 7 ∧ c.rd Reg.UPD.ACT_RES_RES = 2 ∧ (c.rd (Reg.HDR.IRQ_RAW 0x0F)).testBit 3 = true
            ∧ d.Frame (Reg.UPD.ACT_RES_RES :: Reg.UPD.USTAT_STATE :: Reg.HDR.IRQ_RAW 0x0F :: flashFlds) c
        else c.rd Reg.UPD.USTAT_STATE = 4 ∧ c.rd Reg.UPD.ACT_RES_RES = 4 ∧ c.upd.again = d.badBatts
          ∧ c.rd Reg.UPD.ACT_RES_INDEX = d.badBatts.headD 0))
  ∧ (∀ (mark : Bool) (b : Block), Completes (.activationStart mark) b fun c =>
    if b.rd Reg.UPD.USTAT_STATE ≠ 7 ∨ b.powered = false
        ∨ (b.ftDrips < b.upd.notBefore.1 ∧ b.rd Reg.TIME.TSTAT_ERA ≤ b.upd.notBefore.2)
        ∨ (b.upd.paused = false ∧ b.drip ≠ 0) ∨ b.md.leaving.isSome = true then c = b
    else if b.mode = .field then
      c.md.leaving.map (fun l => l.goal) = some (some (Mode.pump, 9)) ∧ b.Frame [] c
    else if mark = false ∨ b.flashWaits 1 = true then
      c.upd.paused = true ∧ b.SameMem c ∧ c.rd Reg.UPD.USTAT_STATE = 7
        ∧ (mark = true → c.flash.waiting.contains 1 = true)
        ∧ (∀ s ∈ List.range 32, b.rd (ofSlot Reg.LOOP.LSTAT_CUR s) = 2 → c.rd (ofSlot Reg.LOOP.LSTAT_CUR s) ≠ 2)
    else c.rd Reg.UPD.USTAT_STATE = 8 ∧ c.copyMark = true ∧ c.drive.mainReset = true ∧ c.md.running = false
      ∧ c.rd Reg.SYS.RESET_CAUSE_SW = 1 ∧ c.mode = .wake)
  ∧ (∀ b : Block, Completes .updDisarm b fun c =>
    b.Frame [Reg.UPD.USTAT_STATE, Reg.UPD.ACT_RES_RES] c
      ∧ (if b.rd Reg.UPD.USTAT_STATE = 7 then
          c.rd Reg.UPD.USTAT_STATE = 5 ∧ c.rd Reg.UPD.ACT_RES_RES = 6 ∧ c.upd.paused = false
        else c.rd Reg.UPD.ACT_RES_RES = (if b.rd Reg.UPD.USTAT_STATE = 8 then 7 else 5) ∧ c.upd = b.upd
          ∧ b.Frame [Reg.UPD.ACT_RES_RES] c))
end

