-- ==== Sys2Proof/Laws/Store.lean ====
section
/-! SUPPORT. The sparse stores: what a put and a filter read as, and that both keep the canonical form. -/

namespace Sys2Proof.Machine

section
variable {α : Type} (d : Nat → α)

theorem Store.find_filter (p : Nat → Bool) (m : Store α) (k : Nat) :
    Store.find d (m.filter fun e => p e.1) k = if p k then Store.find d m k else d k := by
  induction m with
  | nil => simp [Store.find]
  | cons e t ih =>
    obtain ⟨k', v⟩ := e
    by_cases hp : p k'
    · simp only [List.filter_cons, hp, if_true, Store.find]
      by_cases hk : k' = k
      · subst hk; simp [hp]
      · simp [hk, ih]
    · by_cases hk : k' = k
      · subst hk; simp [hp, ih]
      · simp [hp, Store.find, hk, ih]

theorem Store.find_insert_same (k : Nat) (v : α) (m : Store α) (h : ∀ e ∈ m, e.1 ≠ k) :
    Store.find d (Store.insert k v m) k = v := by
  induction m with
  | nil => simp [Store.insert, Store.find]
  | cons e t ih =>
    obtain ⟨k', w⟩ := e
    have hk : k' ≠ k := h (k', w) (by simp)
    unfold Store.insert
    split
    · simp [Store.find]
    · simp only [Store.find, hk, if_false]
      exact ih fun e he => h e (by simp [he])

theorem Store.find_insert_ne {k k' : Nat} (hk : k' ≠ k) (v : α) (m : Store α) :
    Store.find d (Store.insert k v m) k' = Store.find d m k' := by
  induction m with
  | nil => simp [Store.insert, Store.find, Ne.symm hk]
  | cons e t ih =>
    obtain ⟨j, w⟩ := e
    unfold Store.insert
    split
    · simp [Store.find, Ne.symm hk]
    · simp [Store.find, ih]

variable [DecidableEq α]

/-- What a put writes is what is read back. -/
@[simp] theorem Store.find_put_same (k : Nat) (v : α) (m : Store α) : Store.find d (Store.put d k v m) k = v := by
  unfold Store.put
  split
  · next h =>
    have := Store.find_filter d (fun j => j != k) m k
    simp_all
  · exact Store.find_insert_same d k v _ (by simp)

/-- A put leaves every other key alone. -/
@[simp] theorem Store.find_put_ne {k k' : Nat} (hk : k' ≠ k) (v : α) (m : Store α) :
    Store.find d (Store.put d k v m) k' = Store.find d m k' := by
  have := Store.find_filter d (fun j => j != k) m k'
  unfold Store.put
  split
  · simp_all
  · rw [Store.find_insert_ne d hk]; simp_all

end

section
variable {α : Type}

theorem Store.rising_weaken {lo lo' : Nat} (h : lo' ≤ lo) :
    ∀ {m : Store α}, Store.rising (some lo) m = true → Store.rising (some lo') m = true
  | [], _ => rfl
  | (k, v) :: t, hm => by
    simp only [Store.rising, Bool.and_eq_true, decide_eq_true_eq] at hm ⊢
    exact ⟨by omega, hm.2⟩

theorem Store.rising_none {lo : Nat} : ∀ {m : Store α}, Store.rising (some lo) m = true → Store.rising none m = true
  | [], _ => rfl
  | (k, v) :: t, hm => by
    simp only [Store.rising, Bool.and_eq_true] at hm ⊢
    exact hm.2

theorem Store.rising_filter (p : Nat × α → Bool) :
    ∀ {m : Store α} {lo : Nat}, Store.rising (some lo) m = true → Store.rising (some lo) (m.filter p) = true
  | [], _, _ => rfl
  | (k, v) :: t, lo, hm => by
    simp only [Store.rising, Bool.and_eq_true, decide_eq_true_eq] at hm
    rw [List.filter_cons]
    split
    · simp only [Store.rising, Bool.and_eq_true, decide_eq_true_eq]
      exact ⟨hm.1, Store.rising_filter p hm.2⟩
    · exact Store.rising_weaken (Nat.le_of_lt hm.1) (Store.rising_filter p hm.2)

theorem Store.rising_filter_none (p : Nat × α → Bool) :
    ∀ {m : Store α}, Store.rising none m = true → Store.rising none (m.filter p) = true
  | [], _ => rfl
  | (k, v) :: t, hm => by
    simp only [Store.rising] at hm
    rw [List.filter_cons]
    split
    · simpa only [Store.rising] using Store.rising_filter p hm
    · exact Store.rising_none (Store.rising_filter p hm)

theorem Store.rising_insert (k : Nat) (v : α) :
    ∀ {m : Store α} {lo : Nat}, lo < k → (∀ e ∈ m, e.1 ≠ k) → Store.rising (some lo) m = true →
      Store.rising (some lo) (Store.insert k v m) = true
  | [], lo, hlo, _, _ => by simp [Store.insert, Store.rising, hlo]
  | (j, w) :: t, lo, hlo, hne, hm => by
    simp only [Store.rising, Bool.and_eq_true, decide_eq_true_eq] at hm
    unfold Store.insert
    split
    · next h => simp [Store.rising, hlo, h, hm.2]
    · next h =>
      have hj : j ≠ k := hne (j, w) (by simp)
      have := Store.rising_insert k v (m := t) (lo := j) (by omega) (fun e he => hne e (by simp [he])) hm.2
      simp [Store.rising, hm.1, this]

theorem Store.rising_insert_none (k : Nat) (v : α) :
    ∀ {m : Store α}, (∀ e ∈ m, e.1 ≠ k) → Store.rising none m = true → Store.rising none (Store.insert k v m) = true
  | [], _, _ => by simp [Store.insert, Store.rising]
  | (j, w) :: t, hne, hm => by
    simp only [Store.rising] at hm
    unfold Store.insert
    split
    · next h => simp [Store.rising, h, hm]
    · next h =>
      have hj : j ≠ k := hne (j, w) (by simp)
      have := Store.rising_insert k v (m := t) (lo := j) (by omega) (fun e he => hne e (by simp [he])) hm
      simp [Store.rising, this]

theorem Store.all_insert (p : Nat × α → Bool) (k : Nat) (v : α) :
    ∀ {m : Store α}, p (k, v) = true → m.all p = true → (Store.insert k v m).all p = true
  | [], hp, _ => by simp [Store.insert, hp]
  | e :: t, hp, hm => by
    simp only [List.all_cons, Bool.and_eq_true] at hm
    unfold Store.insert
    split
    · simp [hp, hm]
    · simp [hm.1, Store.all_insert p k v hp hm.2]

end

section
variable {α : Type} [DecidableEq α] (d : Nat → α)

@[simp] theorem Store.wf_nil : Store.wf d ([] : Store α) = true := rfl

/-- A filter keeps the canonical form. -/
theorem Store.wf_filter (p : Nat × α → Bool) {m : Store α} (h : Store.wf d m = true) : Store.wf d (m.filter p) = true := by
  simp only [Store.wf, Bool.and_eq_true, List.all_eq_true] at h ⊢
  exact ⟨Store.rising_filter_none p h.1, fun e he => h.2 e (List.mem_filter.mp he).1⟩

/-- A put keeps the canonical form. -/
theorem Store.wf_put (k : Nat) (v : α) {m : Store α} (h : Store.wf d m = true) : Store.wf d (Store.put d k v m) = true := by
  unfold Store.put
  have hf := Store.wf_filter d (fun e => e.1 != k) h
  split
  · exact hf
  · next hv =>
    simp only [Store.wf, Bool.and_eq_true] at hf ⊢
    exact ⟨Store.rising_insert_none k v (by simp) hf.1, Store.all_insert _ k v (by simpa using hv) hf.2⟩

/-- Puts one after another keep the canonical form. -/
theorem Store.wf_foldl {β : Type} (k : β → Nat) (v : β → α) (l : List β) {m : Store α} (h : Store.wf d m = true) :
    Store.wf d (l.foldl (fun m e => Store.put d (k e) (v e) m) m) = true := by
  induction l generalizing m with
  | nil => exact h
  | cons e t ih => exact ih (Store.wf_put d _ _ h)

end

/-! The register file. -/

/-- A field set reads back what was written, cut to its width. -/
theorem RegFile.get_set_same (m : RegFile) (f : Fld) (v : Nat) (h : f.width ≤ 32) :
    (m.set f v).get f = v % 2 ^ f.width := by
  have hv : v % 2 ^ f.width < 2 ^ 32 :=
    Nat.lt_of_lt_of_le (Nat.mod_lt _ (Nat.two_pow_pos _)) (Nat.pow_le_pow_right (by decide) h)
  rw [RegFile.get, RegFile.set, Store.find_put_same, BitVec.xor_assoc, BitVec.xor_self, BitVec.xor_zero, BitVec.toNat_ofNat,
    Nat.mod_eq_of_lt hv]

/-- A field set leaves every other field alone. -/
theorem RegFile.get_set_ne (m : RegFile) (f g : Fld) (v : Nat) (h : g.key ≠ f.key) : (m.set f v).get g = m.get g := by
  simp [RegFile.get, RegFile.set, h]

theorem RegFile.wf_set (m : RegFile) (f : Fld) (v : Nat) (h : Store.wf (fun _ => (0 : Word)) m = true) :
    Store.wf (fun _ => (0 : Word)) (m.set f v) = true := Store.wf_put _ _ _ h

end Sys2Proof.Machine
end

