-- ==== Sys2Proof/Laws/Keep.lean ====
section
/-! SUPPORT. The primitives through which every meaning changes registers and memories keep their stores canonical. -/

namespace Sys2Proof.Machine

/-- What a record update with the same stores needs. -/
theorem Block.ok_of {b : Block} (h : b.Ok) : StoresOk b.regs b.mem b.flips b.ramGnss b.ramRadio b.ramLoop := h

theorem Block.ok_mk {regs mem flips ramGnss ramRadio ramLoop ft now edges free resp log test md tick sec dbg cal flash sram mbx host
    drive adc loop agents safe tag radio time can lip gal cap gnss upd clamps} :
    Block.Ok { regs, mem, flips, ramGnss, ramRadio, ramLoop, ft, now, edges, free, resp, log, test, md, tick, sec, dbg, cal, flash,
               sram, mbx, host, drive, adc, loop, agents, safe, tag, radio, time, can, lip, gal, cap, gnss, upd, clamps } =
      StoresOk regs mem flips ramGnss ramRadio ramLoop := rfl

/-- The block of a pair that an equation names. -/
theorem Block.ok_fst {α : Type} {x : Block × α} {b : Block} {a : α} (e : x = (b, a)) (h : x.1.Ok) : b.Ok := by
  subst e; exact h

theorem Block.ok_snd {α : Type} {x : α × Block} {b : Block} {a : α} (e : x = (a, b)) (h : x.2.Ok) : b.Ok := by
  subst e; exact h

theorem Block.ok_ite (c : Prop) [Decidable c] (x y : Block) (hx : x.Ok) (hy : y.Ok) : (if c then x else y).Ok := by
  split <;> assumption

theorem Block.ok_ite_fst {α : Type} (c : Prop) [Decidable c] (x y : Block × α) (hx : x.1.Ok) (hy : y.1.Ok) :
    (if c then x else y).1.Ok := by
  split <;> assumption

theorem Block.ok_ite_snd {α : Type} (c : Prop) [Decidable c] (x y : α × Block) (hx : x.2.Ok) (hy : y.2.Ok) :
    (if c then x else y).2.Ok := by
  split <;> assumption

theorem Block.ok_foldl {α : Type} (f : Block → α → Block) (l : List α) {b : Block} (h : b.Ok)
    (hf : ∀ b a, b.Ok → (f b a).Ok) : (l.foldl f b).Ok := by
  induction l generalizing b with
  | nil => exact h
  | cons a t ih => exact ih (hf b a h)

theorem Block.ok_foldl_fst {α β : Type} (f : Block × β → α → Block × β) (l : List α) {x : Block × β} (h : x.1.Ok)
    (hf : ∀ x a, x.1.Ok → (f x a).1.Ok) : (l.foldl f x).1.Ok := by
  induction l generalizing x with
  | nil => exact h
  | cons a t ih => exact ih (hf x a h)

theorem Block.each_ok {α : Type} (l : List α) (f : α → Block → Block) (b : Block) (h : b.Ok)
    (hf : ∀ a b, b.Ok → (f a b).Ok) : (b.each l f).Ok := Block.ok_foldl _ l h fun b a => hf a b

theorem Block.cond_ok (c : Bool) (f : Block → Block) (b : Block) (h : b.Ok) (hf : b.Ok → (f b).Ok) : (b.cond c f).Ok := by
  unfold Block.cond
  split
  · exact hf h
  · exact h

theorem Block.wr_ok (f : Fld) (v : Nat) (b : Block) (h : b.Ok) : (b.wr f v).Ok :=
  ⟨RegFile.wf_set _ _ _ h.1, h.2⟩

theorem Block.setByte_ok (a : Nat) (v : Byte) (b : Block) (h : b.Ok) : (b.setByte a v).Ok :=
  ⟨h.1, Store.wf_put _ _ _ h.2.1, h.2.2⟩

theorem Block.setBytes_ok (a : Nat) (bs : List Byte) (b : Block) (h : b.Ok) : (b.setBytes a bs).Ok :=
  Block.ok_foldl _ _ h fun _ _ h => Block.setByte_ok _ _ _ h

theorem Block.eraseFlash_ok (a n : Nat) (b : Block) (h : b.Ok) : (b.eraseFlash a n).Ok :=
  ⟨h.1, Store.wf_filter _ _ h.2.1, h.2.2⟩

theorem Block.programFlash_ok (a : Nat) (bs : List Byte) (b : Block) (h : b.Ok) : (b.programFlash a bs).Ok :=
  Block.ok_foldl _ _ h fun _ _ h => Block.setByte_ok _ _ _ h

theorem Block.draw_ok (n : Nat) (b : Block) (h : b.Ok) : (b.draw n).Ok := h

theorem Block.scramble_ok (a n : Nat) (b : Block) (h : b.Ok) : (b.scramble a n).Ok :=
  Block.ok_foldl _ _ (Block.draw_ok _ _ h) fun _ _ h => Block.setByte_ok _ _ _ h

theorem Block.setFlip_ok (a : Nat) (m : BitVec 39) (b : Block) (h : b.Ok) : (b.setFlip a m).Ok :=
  ⟨h.1, h.2.1, Store.wf_put _ _ _ h.2.2.1, h.2.2.2⟩

theorem Block.clearBanks_ok (banks : List Nat) (b : Block) (h : b.Ok) : (b.clearBanks banks).Ok :=
  ⟨h.1, Store.wf_filter _ _ h.2.1, Store.wf_filter _ _ h.2.2.1, h.2.2.2⟩

end Sys2Proof.Machine
end

