-- ==== Sys2Proof/Laws/KeepCore.lean ====
section
/-! SUPPORT. Operations over registers, memory, mailboxes, drives, the loop engine and the clocks keep the stores canonical. -/

namespace Sys2Proof.Machine

theorem Block.wrB_ok (f : Fld) (v : Bool) (b : Block) (hOk : b.Ok) : (Block.wrB f v b).Ok := by
  unfold Block.wrB
  with_reducible repeat' first
    | intro _ | assumption | apply Block.wr_ok

theorem Block.wrI_ok (f : Fld) (v : Int) (b : Block) (hOk : b.Ok) : (Block.wrI f v b).Ok := by
  unfold Block.wrI
  with_reducible repeat' first
    | intro _ | assumption | apply Block.wr_ok

theorem Block.inc_ok (f : Fld) (b : Block) (hOk : b.Ok) : (Block.inc f b).Ok := by
  unfold Block.inc
  with_reducible repeat' first
    | intro _ | assumption | apply Block.wr_ok

theorem Block.add_ok (f : Fld) (n : Nat) (b : Block) (hOk : b.Ok) : (Block.add f n b).Ok := by
  unfold Block.add
  with_reducible repeat' first
    | intro _ | assumption | apply Block.wr_ok

theorem Block.incWrap_ok (f : Fld) (b : Block) (hOk : b.Ok) : (Block.incWrap f b).Ok := by
  unfold Block.incWrap
  with_reducible repeat' first
    | intro _ | assumption | apply Block.wr_ok

theorem Block.wrBit_ok (f : Fld) (n : Nat) (v : Bool) (b : Block) (hOk : b.Ok) : (Block.wrBit f n v b).Ok := by
  unfold Block.wrBit
  with_reducible repeat' first
    | intro _ | assumption | apply Block.wr_ok

theorem Block.irq_ok (page n : Nat) (b : Block) (hOk : b.Ok) : (Block.irq page n b).Ok := by
  unfold Block.irq
  with_reducible repeat' first
    | intro _ | assumption | apply Block.wrBit_ok

theorem Block.phase_ok (c : Nat) (b : Block) (hOk : b.Ok) : (Block.phase c b).Ok := by
  unfold Block.phase
  try dsimp only
  repeat' first
    | intro _
    | with_reducible first
      | assumption | apply Block.wr_ok
    | simp only [Block.ok_mk]
    | with_reducible apply Block.ok_of
    | split

theorem Block.raise_ok (e : Event) (b : Block) (hOk : b.Ok) : (Block.raise e b).Ok := by
  unfold Block.raise
  try dsimp only
  repeat' first
    | intro _
    | with_reducible first
      | assumption | apply Block.inc_ok | apply Block.irq_ok
    | simp only [Block.ok_mk]
    | with_reducible apply Block.ok_of
    | split

theorem Block.sysEvent_ok (code source arg0 arg1 : Nat) (b : Block) (hOk : b.Ok) : (Block.sysEvent code source arg0
  arg1 b).Ok := by
  unfold Block.sysEvent
  with_reducible repeat' first
    | intro _ | assumption | apply Block.raise_ok

theorem Block.verdict_ok (v source : Nat) (b : Block) (sev : Nat) (arg0 arg1 : Nat) (hOk : b.Ok) : (Block.verdict v
  source b sev arg0 arg1).Ok := by
  unfold Block.verdict
  with_reducible repeat' first
    | intro _ | assumption | apply Block.raise_ok

theorem Block.wrPageBit_ok (f : Nat → Fld) (n : Nat) (v : Bool) (b : Block) (hOk : b.Ok) : (Block.wrPageBit f n v
  b).Ok := by
  unfold Block.wrPageBit
  with_reducible repeat' first
    | intro _ | assumption | apply Block.wrBit_ok

theorem Block.showTests_ok (page : Nat) (b : Block) (hOk : b.Ok) : (Block.showTests page b).Ok := by
  unfold Block.showTests
  with_reducible repeat' first
    | intro _ | assumption | apply Block.wrB_ok | apply Block.wrPageBit_ok

theorem Block.askTest_ok (page bit sub : Nat) (b : Block) (hOk : b.Ok) : (Block.askTest page bit sub b).Ok := by
  unfold Block.askTest
  try dsimp only
  repeat' first
    | intro _
    | with_reducible first
      | assumption | apply Block.showTests_ok
    | simp only [Block.ok_mk]
    | with_reducible apply Block.ok_of
    | split

theorem Block.err_ok (page n : Nat) (b : Block) (arg1 : Nat) (sub : Nat) (hOk : b.Ok) : (Block.err page n b arg1
  sub).Ok := by
  unfold Block.err
  try dsimp only
  repeat' first
    | intro _
    | with_reducible first
      | assumption | apply Block.inc_ok | apply Block.wrBit_ok | apply Block.raise_ok | apply Block.askTest_ok
      | apply Block.ok_of
    | split

theorem Block.answer_ok (w : Nat) (b : Block) (hOk : b.Ok) : (Block.answer w b).Ok := by
  unfold Block.answer
  try dsimp only
  repeat' first
    | intro _
    | with_reducible first
      | assumption
    | simp only [Block.ok_mk]
    | with_reducible apply Block.ok_of
    | split

theorem Block.answerBytes_ok (bs : List Byte) (b : Block) (hOk : b.Ok) : (Block.answerBytes bs b).Ok := by
  unfold Block.answerBytes
  try dsimp only
  repeat' first
    | intro _
    | with_reducible first
      | assumption
    | simp only [Block.ok_mk]
    | with_reducible apply Block.ok_of
    | split

theorem Block.answerErr_ok (b : Block) (hOk : b.Ok) : (Block.answerErr b).Ok := by
  unfold Block.answerErr
  try dsimp only
  repeat' first
    | intro _
    | with_reducible first
      | assumption | apply Block.err_ok
    | simp only [Block.ok_mk]
    | with_reducible apply Block.ok_of
    | split

theorem Block.showSource_ok (b : Block) (hOk : b.Ok) : (Block.showSource b).Ok := by
  unfold Block.showSource
  with_reducible repeat' first
    | intro _ | assumption | apply Block.irq_ok | apply Block.cond_ok | apply Block.wr_ok

theorem Block.setAct_ok (a : Option TimeAct) (b : Block) (hOk : b.Ok) : (Block.setAct a b).Ok := by
  unfold Block.setAct
  try dsimp only
  repeat' first
    | intro _
    | with_reducible first
      | assumption | apply Block.wrB_ok
    | simp only [Block.ok_mk]
    | with_reducible apply Block.ok_of
    | split

theorem Block.renewSlew_ok (need : Nat) (b : Block) (hOk : b.Ok) : (Block.renewSlew need b).Ok := by
  unfold Block.renewSlew
  try dsimp only
  repeat' first
    | intro _
    | with_reducible first
      | assumption
    | simp only [Block.ok_mk]
    | with_reducible apply Block.ok_of
    | split

theorem Block.timeJudge_ok (d : Int) (base : Bool) (b : Block) (hOk : b.Ok) : (Block.timeJudge d base b).Ok := by
  unfold Block.timeJudge
  try dsimp only
  repeat' first
    | intro _
    | with_reducible first
      | assumption | apply Block.wrI_ok | apply Block.inc_ok | apply Block.incWrap_ok | apply Block.irq_ok
      | apply Block.sysEvent_ok | apply Block.verdict_ok | apply Block.setAct_ok | apply Block.renewSlew_ok
      | apply Block.cond_ok | apply Block.wr_ok | apply Block.ok_of
    | split

theorem Block.gnssSample_ok (d : Int) (b : Block) (hOk : b.Ok) : (Block.gnssSample d b).Ok := by
  unfold Block.gnssSample
  try dsimp only
  repeat' first
    | intro _
    | with_reducible first
      | assumption | apply Block.showSource_ok | apply Block.timeJudge_ok
    | simp only [Block.ok_mk]
    | with_reducible apply Block.ok_of
    | split

theorem Block.baseSample_ok (d : Int) (b : Block) (hOk : b.Ok) : (Block.baseSample d b).Ok := by
  unfold Block.baseSample
  try dsimp only
  repeat' first
    | intro _
    | with_reducible first
      | assumption | apply Block.wrI_ok | apply Block.sysEvent_ok | apply Block.showSource_ok
      | apply Block.timeJudge_ok | apply Block.cond_ok
    | simp only [Block.ok_mk]
    | with_reducible apply Block.ok_of
    | split

theorem Block.timeSample_ok (gnss : Bool) (sec ns ft : Nat) (b : Block) (hOk : b.Ok) : (Block.timeSample gnss sec ns
  ft b).Ok := by
  unfold Block.timeSample
  try dsimp only
  repeat' first
    | intro _
    | with_reducible first
      | assumption | apply Block.gnssSample_ok | apply Block.baseSample_ok | apply Block.ok_of
    | split

theorem Block.timePool_ok (b : Block) (hOk : b.Ok) : (Block.timePool b).Ok := by
  unfold Block.timePool
  try dsimp only
  repeat' first
    | intro _
    | with_reducible first
      | assumption | apply Block.setAct_ok | apply Block.timeJudge_ok | apply Block.cond_ok
    | simp only [Block.ok_mk]
    | with_reducible apply Block.ok_of
    | split

theorem Block.timeStep_ok (b : Block) (hOk : b.Ok) : (Block.timeStep b).Ok := by
  unfold Block.timeStep
  try dsimp only
  repeat' first
    | intro _
    | with_reducible first
      | assumption | apply Block.inc_ok | apply Block.irq_ok | apply Block.setAct_ok
    | simp only [Block.ok_mk]
    | with_reducible apply Block.ok_of
    | split

theorem Block.slewStart_ok (b : Block) (hOk : b.Ok) : (Block.slewStart b).Ok := by
  unfold Block.slewStart
  try dsimp only
  repeat' first
    | intro _
    | with_reducible first
      | assumption | apply Block.inc_ok | apply Block.setAct_ok | apply Block.wr_ok
    | simp only [Block.ok_mk]
    | with_reducible apply Block.ok_of
    | split

theorem Block.syncSlew_ok (b : Block) (hOk : b.Ok) : (Block.syncSlew b).1.Ok := by
  unfold Block.syncSlew
  try dsimp only
  repeat' first
    | intro _
    | with_reducible first
      | assumption
    | simp only [Block.ok_mk]
    | with_reducible apply Block.ok_of
    | split

theorem Block.slewStop_ok (b : Block) (hOk : b.Ok) : (Block.slewStop b).Ok := by
  unfold Block.slewStop
  try dsimp only
  repeat' first
    | intro _
    | with_reducible first
      | assumption | apply Block.irq_ok | apply Block.setAct_ok | apply Block.cond_ok | apply Block.wr_ok
    | simp only [Block.ok_mk]
    | with_reducible apply Block.ok_of
    | split

theorem Block.slewEnd_ok (b : Block) (hOk : b.Ok) : (Block.slewEnd b).Ok := by
  unfold Block.slewEnd
  try dsimp only
  repeat' first
    | intro _
    | with_reducible first
      | assumption | apply Block.slewStop_ok | apply Block.cond_ok | apply Block.ok_of
    | split

theorem Block.timeOff_ok (b : Block) (hOk : b.Ok) : (Block.timeOff b).Ok := by
  unfold Block.timeOff
  try dsimp only
  repeat' first
    | intro _
    | with_reducible first
      | assumption | apply Block.wr_ok
    | simp only [Block.ok_mk]
    | with_reducible apply Block.ok_of
    | split

theorem Block.timeEdge_ok (b : Block) (hOk : b.Ok) : (Block.timeEdge b).Ok := by
  unfold Block.timeEdge
  try dsimp only
  repeat' first
    | intro _
    | with_reducible first
      | assumption
    | simp only [Block.ok_mk]
    | with_reducible apply Block.ok_of
    | split

theorem Block.timePass_ok (b : Block) (hOk : b.Ok) : (Block.timePass b).Ok := by
  unfold Block.timePass
  try dsimp only
  repeat' first
    | intro _
    | with_reducible first
      | assumption
    | simp only [Block.ok_mk]
    | with_reducible apply Block.ok_of
    | split

theorem Block.doze_ok (cycles : Nat) (b : Block) (hOk : b.Ok) : (Block.doze cycles b).Ok := by
  unfold Block.doze
  try dsimp only
  repeat' first
    | intro _
    | with_reducible first
      | assumption
    | simp only [Block.ok_mk]
    | with_reducible apply Block.ok_of
    | split

theorem Block.seed_ok (hi : Nat) (b : Block) (hOk : b.Ok) : (Block.seed hi b).Ok := by
  unfold Block.seed
  try dsimp only
  repeat' first
    | intro _
    | with_reducible first
      | assumption | apply Block.setAct_ok | apply Block.wr_ok | apply Block.ok_of
    | split

theorem Block.accessEvent_ok (a : Actor) (what : Nat) (b : Block) (hOk : b.Ok) : (Block.accessEvent a what b).Ok := by
  unfold Block.accessEvent
  with_reducible repeat' first
    | intro _ | assumption | apply Block.sysEvent_ok

theorem Block.reach_ok (a : Actor) (page : Nat) (write : Bool) (f : Block → Block) (b : Block) (hOk : b.Ok) (hff : ∀
  b, Block.Ok b → (f b).Ok) : (Block.reach a page write f b).Ok := by
  unfold Block.reach
  try dsimp only
  repeat' first
    | intro _
    | with_reducible first
      | assumption | apply Block.answer_ok | apply Block.accessEvent_ok | apply hff | apply Block.ok_of
    | split

theorem Block.outside_ok (master a : Nat) (b : Block) (hOk : b.Ok) : (Block.outside master a b).Ok := by
  unfold Block.outside
  with_reducible repeat' first
    | intro _ | assumption | apply Block.sysEvent_ok | apply Block.cond_ok

theorem Block.setVal_ok (a n v : Nat) (b : Block) (hOk : b.Ok) : (Block.setVal a n v b).Ok := by
  unfold Block.setVal
  with_reducible repeat' first
    | intro _ | assumption | apply Block.setBytes_ok

theorem Block.flashServe_ok (b : Block) (hOk : b.Ok) : (Block.flashServe b).Ok := by
  unfold Block.flashServe
  try dsimp only
  repeat' first
    | intro _
    | with_reducible first
      | assumption | apply Block.cond_ok | apply Block.wr_ok
    | simp only [Block.ok_mk]
    | with_reducible apply Block.ok_of
    | split

theorem Block.flashFree_ok (b : Block) (hOk : b.Ok) : (Block.flashFree b).Ok := by
  unfold Block.flashFree
  with_reducible repeat' first
    | intro _ | assumption | apply Block.flashServe_ok | apply Block.wr_ok

theorem Block.flashGiveUp_ok (r : Nat) (b : Block) (hOk : b.Ok) : (Block.flashGiveUp r b).Ok := by
  unfold Block.flashGiveUp
  try dsimp only
  repeat' first
    | intro _
    | with_reducible first
      | assumption | apply Block.flashFree_ok | apply Block.cond_ok
    | simp only [Block.ok_mk]
    | with_reducible apply Block.ok_of
    | split

theorem Block.flashTurn_ok (r : Nat) (f : Block → Block) (b : Block) (hOk : b.Ok) (hff : ∀ b, Block.Ok b → (f b).Ok) :
  (Block.flashTurn r f b).Ok := by
  unfold Block.flashTurn
  try dsimp only
  repeat' first
    | intro _
    | with_reducible first
      | assumption | apply Block.flashGiveUp_ok | apply hff
    | simp only [Block.ok_mk]
    | with_reducible apply Block.ok_of
    | split

theorem Block.flashOwn_ok (d : FlashDue) (f : Block → Block) (b : Block) (hOk : b.Ok) (hff : ∀ b, Block.Ok b → (f
  b).Ok) : (Block.flashOwn d f b).Ok := by
  unfold Block.flashOwn
  try dsimp only
  repeat' first
    | intro _
    | with_reducible first
      | assumption | apply Block.flashGiveUp_ok | apply hff
    | simp only [Block.ok_mk]
    | with_reducible apply Block.ok_of
    | split

theorem Block.flashDueOf_ok (work : FlashDue → Block → Block) (r : Nat) (b : Block) (hOk : b.Ok) (hfwork : ∀ a b,
  Block.Ok b → (work a b).Ok) : (Block.flashDueOf work r b).Ok := by
  unfold Block.flashDueOf
  try dsimp only
  repeat' first
    | intro _
    | with_reducible first
      | assumption | apply Block.flashGiveUp_ok | apply Block.cond_ok | apply Block.each_ok | apply hfwork
    | simp only [Block.ok_mk]
    | with_reducible apply Block.ok_of
    | split

theorem Block.violation_ok (master a kind : Nat) (b : Block) (hOk : b.Ok) : (Block.violation master a kind b).Ok := by
  unfold Block.violation
  with_reducible repeat' first
    | intro _ | assumption | apply Block.wrB_ok | apply Block.irq_ok | apply Block.err_ok | apply Block.wr_ok

theorem Block.beat_ok (master bank : Nat) (b : Block) (hOk : b.Ok) : (Block.beat master bank b).Ok := by
  unfold Block.beat
  try dsimp only
  repeat' first
    | intro _
    | with_reducible first
      | assumption
    | simp only [Block.ok_mk]
    | with_reducible apply Block.ok_of
    | split

theorem Block.charge_ok (bank : Nat) (b : Block) (hOk : b.Ok) : (Block.charge bank b).Ok := by
  unfold Block.charge
  try dsimp only
  repeat' first
    | intro _
    | with_reducible first
      | assumption
    | simp only [Block.ok_mk]
    | with_reducible apply Block.ok_of
    | split

theorem Block.logSbe_ok (master a s : Nat) (b : Block) (hOk : b.Ok) : (Block.logSbe master a s b).Ok := by
  unfold Block.logSbe
  with_reducible repeat' first
    | intro _ | assumption | apply Block.inc_ok | apply Block.irq_ok | apply Block.err_ok | apply Block.wr_ok

theorem Block.logDed_ok (a : Nat) (b : Block) (hOk : b.Ok) : (Block.logDed a b).Ok := by
  unfold Block.logDed
  with_reducible repeat' first
    | intro _ | assumption | apply Block.inc_ok | apply Block.irq_ok | apply Block.err_ok | apply Block.wr_ok

theorem Block.readWord_ok (master a : Nat) (b : Block) (hOk : b.Ok) : (Block.readWord master a b).1.Ok := by
  unfold Block.readWord
  try dsimp only
  repeat' first
    | intro _
    | with_reducible first
      | assumption | apply Block.setVal_ok | apply Block.charge_ok | apply Block.logSbe_ok | apply Block.logDed_ok
      | apply Block.setFlip_ok | apply Block.ok_of
    | split

theorem Block.writeWord_ok (a v : Nat) (b : Block) (hOk : b.Ok) : (Block.writeWord a v b).Ok := by
  unfold Block.writeWord
  try dsimp only
  repeat' first
    | intro _
    | with_reducible first
      | assumption | apply Block.setVal_ok | apply Block.setFlip_ok
    | simp only [Block.ok_mk]
    | with_reducible apply Block.ok_of
    | split

theorem Block.writePart_ok (master a : Nat) (bs : List Byte) (b : Block) (hOk : b.Ok) : (Block.writePart master a bs
  b).1.Ok := by
  unfold Block.writePart
  try dsimp only
  repeat' first
    | intro _
    | with_reducible first
      | assumption | apply Block.beat_ok | apply Block.readWord_ok | apply Block.writeWord_ok
    | simp only [Block.ok_mk]
    | with_reducible first
      | apply Block.ok_of | apply Block.ok_ite | apply Block.ok_ite_fst | apply Block.ok_ite_snd
      | refine Block.ok_fst (by assumption) ?_ | refine Block.ok_snd (by assumption) ?_
    | split

theorem Block.fetchWord_ok (master : Nat) (fenced : Bool) (w0 : Nat) (acc : Block × Option (List Byte)) (k : Nat)
    (hOk : acc.1.Ok) : (Block.fetchWord master fenced w0 acc k).1.Ok := by
  obtain ⟨b, o⟩ := acc
  cases o with
  | none => exact hOk
  | some bs =>
    unfold Block.fetchWord
    dsimp only at hOk ⊢
    repeat' first
      | intro _ | with_reducible assumption
      | with_reducible apply Block.readWord_ok
      | with_reducible apply Block.beat_ok
      | with_reducible apply Block.outside_ok
      | with_reducible apply Block.violation_ok
      | simp only [Block.ok_mk] | with_reducible apply Block.ok_of | with_reducible apply Block.ok_ite
      | with_reducible apply Block.ok_ite_fst | with_reducible refine Block.ok_fst (by assumption) ?_ | split

theorem Block.fetchWordAt_ok (master w : Nat) (b : Block) (hOk : b.Ok) : (Block.fetchWordAt master w b).1.Ok := by
  unfold Block.fetchWordAt
  try dsimp only
  repeat' first
    | intro _
    | with_reducible first
      | assumption | apply Block.outside_ok | apply Block.beat_ok | apply Block.readWord_ok
    | simp only [Block.ok_mk]
    | with_reducible first
      | apply Block.ok_of | apply Block.ok_ite | apply Block.ok_ite_fst | apply Block.ok_ite_snd
      | refine Block.ok_fst (by assumption) ?_ | refine Block.ok_snd (by assumption) ?_
    | split

theorem Block.fetch_ok (master a n : Nat) (b : Block) (fenced : Bool) (hOk : b.Ok) : (b.fetch master a n fenced).1.Ok := by
  have h := fun l => Block.ok_foldl_fst (Block.fetchWord master fenced (a / 4)) l (x := (b, some [])) hOk
    fun x k hx => Block.fetchWord_ok master fenced _ x k hx
  unfold Block.fetch
  dsimp only
  split
  · exact Block.ok_fst (by assumption) (h _)
  · exact Block.ok_fst (by assumption) (h _)

theorem Block.readRange_ok (master a n : Nat) (b : Block) (hOk : b.Ok) : (Block.readRange master a n b).1.Ok := by
  unfold Block.readRange
  try dsimp only
  repeat' first
    | intro _
    | with_reducible first
      | assumption | apply Block.fetchWordAt_ok
    | simp only [Block.ok_mk]
    | with_reducible first
      | apply Block.ok_of | apply Block.ok_ite | apply Block.ok_ite_fst | apply Block.ok_ite_snd
      | refine Block.ok_fst (by assumption) ?_ | refine Block.ok_snd (by assumption) ?_
      | refine Block.ok_foldl _ _ ?_ ?_ | refine Block.ok_foldl_fst _ _ ?_ ?_
    | split

theorem Block.storeByte_ok (master : Nat) (fenced : Bool) (a : Nat) (bs : List Byte) (acc : Block × Bool) (e : Byte × Nat)
    (hOk : acc.1.Ok) : (Block.storeByte master fenced a bs acc e).1.Ok := by
  obtain ⟨b, o⟩ := acc
  cases o with
  | false => exact hOk
  | true =>
    unfold Block.storeByte
    dsimp only at hOk ⊢
    repeat' first
      | intro _ | with_reducible assumption
      | with_reducible apply Block.writeWord_ok
      | with_reducible apply Block.writePart_ok
      | with_reducible apply Block.outside_ok
      | with_reducible apply Block.beat_ok
      | with_reducible apply Block.violation_ok
      | simp only [Block.ok_mk] | with_reducible apply Block.ok_of | with_reducible apply Block.ok_ite
      | with_reducible apply Block.ok_ite_fst | with_reducible refine Block.ok_fst (by assumption) ?_ | split

theorem Block.store_ok (master a : Nat) (bs : List Byte) (b : Block) (fenced : Bool) (hOk : b.Ok) :
    (b.store master a bs fenced).1.Ok :=
  Block.ok_foldl_fst _ _ (x := (b, true)) hOk fun x e hx => Block.storeByte_ok master fenced a bs x e hx

theorem Block.hold_ok (n : Nat) (v : Option Notice) (b : Block) (hOk : b.Ok) : (Block.hold n v b).Ok := by
  unfold Block.hold
  try dsimp only
  repeat' first
    | intro _
    | with_reducible first
      | assumption | apply Block.wr_ok
    | simp only [Block.ok_mk]
    | with_reducible apply Block.ok_of
    | split

theorem Block.mbxDrop_ok (n : Nat) (b : Block) (hOk : b.Ok) : (Block.mbxDrop n b).Ok := by
  unfold Block.mbxDrop
  with_reducible repeat' first
    | intro _ | assumption | apply Block.irq_ok | apply Block.hold_ok | apply Block.cond_ok | apply Block.wr_ok

theorem Block.postNow_ok (n sender ptr len tag : Nat) (b : Block) (hOk : b.Ok) : (Block.postNow n sender ptr len tag
  b).Ok := by
  unfold Block.postNow
  try dsimp only
  repeat' first
    | intro _
    | with_reducible first
      | assumption | apply Block.irq_ok | apply Block.hold_ok | apply Block.mbxDrop_ok | apply Block.cond_ok
      | apply Block.wr_ok | apply Block.ok_of
    | split

theorem Block.mbxPost_ok (n sender ptr len tag : Nat) (b : Block) (hOk : b.Ok) : (Block.mbxPost n sender ptr len tag
  b).Ok := by
  unfold Block.mbxPost
  try dsimp only
  repeat' first
    | intro _
    | with_reducible first
      | assumption | apply Block.err_ok | apply Block.postNow_ok
    | simp only [Block.ok_mk]
    | with_reducible apply Block.ok_of
    | split

theorem Block.postsDue_ok (b : Block) (hOk : b.Ok) : (Block.postsDue b).Ok := by
  unfold Block.postsDue
  try dsimp only
  repeat' first
    | intro _
    | with_reducible first
      | assumption | apply Block.postNow_ok | apply Block.each_ok
    | simp only [Block.ok_mk]
    | with_reducible apply Block.ok_of
    | split

theorem Block.mbxSweep_ok (b : Block) (hOk : b.Ok) : (Block.mbxSweep b).Ok := by
  unfold Block.mbxSweep
  with_reducible repeat' first
    | intro _ | assumption | apply Block.wrB_ok | apply Block.mbxDrop_ok | apply Block.cond_ok | apply Block.each_ok

theorem Block.mbxClear_ok (b : Block) (hOk : b.Ok) : (Block.mbxClear b).Ok := by
  unfold Block.mbxClear
  try dsimp only
  repeat' first
    | intro _
    | with_reducible first
      | assumption | apply Block.hold_ok | apply Block.each_ok
    | simp only [Block.ok_mk]
    | with_reducible apply Block.ok_of
    | split

theorem Block.rxHdrTake_ok (actor : Actor) (n : Nat) (b : Block) (hOk : b.Ok) : (Block.rxHdrTake actor n b).Ok := by
  unfold Block.rxHdrTake
  with_reducible repeat' first
    | intro _ | assumption | apply Block.answer_ok | apply Block.hold_ok | apply Block.cond_ok

theorem Block.setPwm_ok (m : Nat) (f : PwmMod → PwmMod) (b : Block) (hOk : b.Ok) : (Block.setPwm m f b).Ok := by
  unfold Block.setPwm
  try dsimp only
  repeat' first
    | intro _
    | with_reducible first
      | assumption
    | simp only [Block.ok_mk]
    | with_reducible apply Block.ok_of
    | split

theorem Block.pwmForce_ok (b : Block) (hOk : b.Ok) : (Block.pwmForce b).Ok := by
  unfold Block.pwmForce
  with_reducible repeat' first
    | intro _ | assumption | apply Block.wrB_ok | apply Block.cond_ok | apply Block.each_ok | apply Block.wr_ok

theorem Block.dtRestart_ok (m : Nat) (b : Block) (hOk : b.Ok) : (Block.dtRestart m b).Ok := by
  unfold Block.dtRestart
  with_reducible repeat' first
    | intro _ | assumption | apply Block.setPwm_ok | apply Block.each_ok | apply Block.wr_ok

theorem Block.counterRestart_ok (m : Nat) (b : Block) (hOk : b.Ok) : (Block.counterRestart m b).Ok := by
  unfold Block.counterRestart
  with_reducible repeat' first
    | intro _ | assumption | apply Block.setPwm_ok | apply Block.dtRestart_ok

theorem Block.dtHold_ok (m : Nat) (b : Block) (hOk : b.Ok) : (Block.dtHold m b).Ok := by
  unfold Block.dtHold
  with_reducible repeat' first
    | intro _ | assumption | apply Block.setPwm_ok | apply Block.cond_ok | apply Block.each_ok | apply Block.wr_ok

theorem Block.loadAll_ok (m : Nat) (b : Block) (hOk : b.Ok) : (Block.loadAll m b).Ok := by
  unfold Block.loadAll
  try dsimp only
  repeat' first
    | intro _
    | with_reducible first
      | assumption | apply Block.setPwm_ok | apply Block.wr_ok | apply Block.ok_of
    | split

theorem Block.svcCommand_ok (m : Nat) (b : Block) (hOk : b.Ok) : (Block.svcCommand m b).Ok := by
  unfold Block.svcCommand
  try dsimp only
  repeat' first
    | intro _
    | with_reducible first
      | assumption
    | simp only [Block.ok_mk]
    | with_reducible apply Block.ok_of
    | split

theorem Block.loadCommand_ok (m : Nat) (b : Block) (hOk : b.Ok) : (Block.loadCommand m b).Ok := by
  unfold Block.loadCommand
  with_reducible repeat' first
    | intro _ | assumption | apply Block.loadAll_ok | apply Block.svcCommand_ok

theorem Block.legsTurn_ok (old : List Nat) (b : Block) (hOk : b.Ok) : (Block.legsTurn old b).Ok := by
  unfold Block.legsTurn
  try dsimp only
  repeat' first
    | intro _
    | with_reducible first
      | assumption
    | simp only [Block.ok_mk]
    | with_reducible apply Block.ok_of
    | split

theorem Block.remask_ok (f : Block → Block) (b : Block) (hOk : b.Ok) (hff : ∀ b, Block.Ok b → (f b).Ok) :
  (Block.remask f b).Ok := by
  unfold Block.remask
  with_reducible repeat' first
    | intro _ | assumption | apply Block.legsTurn_ok | apply hff

theorem Block.transfer_ok (m : Nat) (b : Block) (hOk : b.Ok) : (Block.transfer m b).Ok := by
  unfold Block.transfer
  try dsimp only
  repeat' first
    | intro _
    | with_reducible first
      | assumption | apply Block.phase_ok | apply Block.setPwm_ok | apply Block.dtRestart_ok | apply Block.remask_ok
      | apply Block.cond_ok | apply Block.wr_ok
    | simp only [Block.ok_mk]
    | with_reducible apply Block.ok_of
    | split

theorem Block.faultLatch_ok (input m : Nat) (b : Block) (hOk : b.Ok) : (Block.faultLatch input m b).Ok := by
  unfold Block.faultLatch
  try dsimp only
  repeat' first
    | intro _
    | with_reducible first
      | assumption | apply Block.irq_ok | apply Block.err_ok | apply Block.pwmForce_ok | apply Block.wr_ok
    | simp only [Block.ok_mk]
    | with_reducible apply Block.ok_of
    | split

theorem Block.faultInput_ok (input : Nat) (level : Bool) (ns : Nat) (stays : Bool) (b : Block) (hOk : b.Ok) :
  (Block.faultInput input level ns stays b).Ok := by
  unfold Block.faultInput
  try dsimp only
  repeat' first
    | intro _
    | with_reducible first
      | assumption | apply Block.faultLatch_ok | apply Block.cond_ok | apply Block.draw_ok | apply Block.each_ok
    | simp only [Block.ok_mk]
    | with_reducible apply Block.ok_of
    | split

theorem Block.faultClear_ok (m input : Nat) (b : Block) (hOk : b.Ok) : (Block.faultClear m input b).Ok := by
  unfold Block.faultClear
  try dsimp only
  repeat' first
    | intro _
    | with_reducible first
      | assumption | apply Block.err_ok | apply Block.wr_ok | apply Block.ok_of
    | split

theorem Block.deadTime_ok (m l : Nat) (rise fall : Option Nat) (b : Block) (hOk : b.Ok) : (Block.deadTime m l rise
  fall b).Ok := by
  unfold Block.deadTime
  try dsimp only
  repeat' first
    | intro _
    | with_reducible first
      | assumption | apply Block.wrB_ok | apply Block.irq_ok | apply Block.err_ok | apply Block.setPwm_ok
      | apply Block.cond_ok | apply Block.wr_ok | apply Block.ok_of
    | split

theorem Block.commAdvance_ok (us : Nat) (b : Block) (hOk : b.Ok) : (Block.commAdvance us b).Ok := by
  unfold Block.commAdvance
  try dsimp only
  repeat' first
    | intro _
    | with_reducible first
      | assumption | apply Block.irq_ok | apply Block.remask_ok | apply Block.wr_ok
    | simp only [Block.ok_mk]
    | with_reducible apply Block.ok_of
    | split

theorem Block.commMiss_ok (b : Block) (hOk : b.Ok) : (Block.commMiss b).Ok := by
  unfold Block.commMiss
  try dsimp only
  repeat' first
    | intro _
    | with_reducible first
      | assumption | apply Block.inc_ok | apply Block.err_ok | apply Block.pwmForce_ok
    | simp only [Block.ok_mk]
    | with_reducible apply Block.ok_of
    | split

theorem Block.commWrite_ok (w : Nat) (b : Block) (hOk : b.Ok) : (Block.commWrite w b).Ok := by
  unfold Block.commWrite
  try dsimp only
  repeat' first
    | intro _
    | with_reducible first
      | assumption | apply Block.remask_ok | apply Block.cond_ok | apply Block.wr_ok
    | simp only [Block.ok_mk]
    | with_reducible apply Block.ok_of
    | split

theorem Block.counterEvent_ok (m : Nat) (kind : Fin 4) (b : Block) (hOk : b.Ok) : (Block.counterEvent m kind b).Ok :=
  by
  unfold Block.counterEvent
  try dsimp only
  repeat' first
    | intro _
    | with_reducible first
      | assumption | apply Block.wrB_ok | apply Block.irq_ok | apply Block.setPwm_ok | apply Block.cond_ok
      | apply Block.wr_ok
    | simp only [Block.ok_mk]
    | with_reducible apply Block.ok_of
    | split

theorem Block.setSlot_ok (s : Nat) (f : Slot → Slot) (b : Block) (hOk : b.Ok) : (Block.setSlot s f b).Ok := by
  unfold Block.setSlot
  try dsimp only
  repeat' first
    | intro _
    | with_reducible first
      | assumption
    | simp only [Block.ok_mk]
    | with_reducible apply Block.ok_of
    | split

theorem Block.latchRates_ok (b : Block) (hOk : b.Ok) : (Block.latchRates b).Ok := by
  unfold Block.latchRates
  with_reducible repeat' first
    | intro _ | assumption | apply Block.phase_ok | apply Block.setSlot_ok | apply Block.each_ok

theorem Block.refuseMode_ok (s cause : Nat) (b : Block) (hOk : b.Ok) : (Block.refuseMode s cause b).Ok := by
  unfold Block.refuseMode
  with_reducible repeat' first
    | intro _ | assumption | apply Block.err_ok | apply Block.wr_ok

theorem Block.endInjection_ok (res : Nat) (b : Block) (hOk : b.Ok) : (Block.endInjection res b).Ok := by
  unfold Block.endInjection
  try dsimp only
  repeat' first
    | intro _
    | with_reducible first
      | assumption | apply Block.irq_ok | apply Block.wr_ok
    | simp only [Block.ok_mk]
    | with_reducible apply Block.ok_of
    | split

theorem Block.autoToMan_ok (s : Nat) (b : Block) (hOk : b.Ok) : (Block.autoToMan s b).Ok := by
  unfold Block.autoToMan
  with_reducible repeat' first
    | intro _ | assumption | apply Block.endInjection_ok | apply Block.cond_ok | apply Block.wr_ok

theorem Block.imposeMan_ok (s : Nat) (b : Block) (hOk : b.Ok) : (Block.imposeMan s b).Ok := by
  unfold Block.imposeMan
  try dsimp only
  repeat' first
    | intro _
    | with_reducible first
      | assumption | apply Block.irq_ok | apply Block.autoToMan_ok | apply Block.cond_ok | apply Block.wr_ok
      | apply Block.ok_of
    | split

theorem Block.disableSlot_ok (s : Nat) (b : Block) (hOk : b.Ok) : (Block.disableSlot s b).Ok := by
  unfold Block.disableSlot
  with_reducible repeat' first
    | intro _ | assumption | apply Block.setSlot_ok | apply Block.endInjection_ok | apply Block.cond_ok
    | apply Block.wr_ok

theorem Block.imposeGroups_ok (b : Block) (hOk : b.Ok) : (Block.imposeGroups b).Ok := by
  unfold Block.imposeGroups
  with_reducible repeat' first
    | intro _ | assumption | apply Block.imposeMan_ok | apply Block.cond_ok | apply Block.each_ok

theorem Block.modulesToMan_ok (ms : List Nat) (fault : Bool) (b : Block) (hOk : b.Ok) : (Block.modulesToMan ms fault
  b).Ok := by
  unfold Block.modulesToMan
  try dsimp only
  repeat' first
    | intro _
    | with_reducible first
      | assumption | apply Block.refuseMode_ok | apply Block.imposeMan_ok | apply Block.each_ok | apply Block.ok_of
    | split

theorem Block.runStages_ok (s pos : Nat) (x : Int) (b : Block) (hOk : b.Ok) : (Block.runStages s pos x b).2.Ok := by
  unfold Block.runStages
  try dsimp only
  repeat' first
    | intro _
    | with_reducible first
      | assumption | apply Block.setSlot_ok | apply Block.ok_of
    | split

theorem Block.presetStages_ok (s pos : Nat) (v : Int) (b : Block) (hOk : b.Ok) : (Block.presetStages s pos v b).Ok :=
  by
  unfold Block.presetStages
  with_reducible repeat' first
    | intro _ | assumption | apply Block.setSlot_ok

theorem Block.limitOut_ok (s : Nat) (u : Int) (b : Block) (hOk : b.Ok) : (Block.limitOut s u b).2.Ok := by
  unfold Block.limitOut
  with_reducible repeat' first
    | intro _ | assumption | apply Block.wrB_ok

theorem Block.autoRun_ok (s : Nat) (first : Bool) (last : Int) (rawFb : Int) (b : Block) (hOk : b.Ok) : (Block.autoRun
  s first last rawFb b).2.Ok := by
  unfold Block.autoRun
  with_reducible repeat' first
    | intro _ | assumption | apply Block.wrI_ok | apply Block.hold_ok | apply Block.setSlot_ok
    | apply Block.runStages_ok | apply Block.presetStages_ok | apply Block.cond_ok

theorem Block.supervise_ok (s : Nat) (entry : Bool) (stale : Bool) (y u : Int) (b : Block) (hOk : b.Ok) :
  (Block.supervise s entry stale y u b).Ok := by
  unfold Block.supervise
  try dsimp only
  repeat' first
    | intro _
    | with_reducible first
      | assumption | apply Block.wrB_ok | apply Block.wrI_ok | apply Block.setSlot_ok | apply Block.cond_ok
      | apply Block.ok_of
    | split

theorem Block.runSlot_ok (s : Nat) (b : Block) (hOk : b.Ok) : (Block.runSlot s b).Ok := by
  unfold Block.runSlot
  try dsimp only
  repeat' first
    | intro _
    | with_reducible first
      | assumption | apply Block.wrB_ok | apply Block.wrI_ok | apply Block.setSlot_ok | apply Block.refuseMode_ok
      | apply Block.autoToMan_ok | apply Block.limitOut_ok | apply Block.autoRun_ok | apply Block.supervise_ok
      | apply Block.cond_ok | apply Block.wr_ok
    | simp only [Block.ok_mk]
    | with_reducible first
      | apply Block.ok_of | apply Block.ok_ite | apply Block.ok_ite_fst | apply Block.ok_ite_snd
      | refine Block.ok_fst (by assumption) ?_ | refine Block.ok_snd (by assumption) ?_
    | split

theorem Block.pairIn_ok (k : Nat) (b : Block) (hOk : b.Ok) : (Block.pairIn k b).Ok := by
  unfold Block.pairIn
  try dsimp only
  repeat' first
    | intro _
    | with_reducible first
      | assumption
    | simp only [Block.ok_mk]
    | with_reducible apply Block.ok_of
    | split

theorem Block.pairOut_ok (k : Nat) (b : Block) (hOk : b.Ok) : (Block.pairOut k b).Ok := by
  unfold Block.pairOut
  try dsimp only
  repeat' first
    | intro _
    | with_reducible first
      | assumption | apply Block.each_ok | apply Block.wr_ok
    | simp only [Block.ok_mk]
    | with_reducible apply Block.ok_of
    | split

theorem Block.endCapture_ok (res : Nat) (b : Block) (hOk : b.Ok) : (Block.endCapture res b).Ok := by
  unfold Block.endCapture
  try dsimp only
  repeat' first
    | intro _
    | with_reducible first
      | assumption | apply Block.irq_ok | apply Block.err_ok | apply Block.store_ok | apply Block.mbxPost_ok
      | apply Block.cond_ok | apply Block.wr_ok
    | simp only [Block.ok_mk]
    | with_reducible apply Block.ok_of
    | split

theorem Block.captureDue_ok (b : Block) (hOk : b.Ok) : (Block.captureDue b).Ok := by
  unfold Block.captureDue
  try dsimp only
  repeat' first
    | intro _
    | with_reducible first
      | assumption | apply Block.store_ok | apply Block.endCapture_ok | apply Block.wr_ok
    | simp only [Block.ok_mk]
    | with_reducible apply Block.ok_of
    | split

theorem Block.captureLate_ok (b : Block) (hOk : b.Ok) : (Block.captureLate b).Ok := by
  unfold Block.captureLate
  with_reducible repeat' first
    | intro _ | assumption | apply Block.endCapture_ok | apply Block.cond_ok

theorem Block.captureRun_ok (s : Nat) (b : Block) (hOk : b.Ok) : (Block.captureRun s b).Ok := by
  unfold Block.captureRun
  try dsimp only
  repeat' first
    | intro _
    | with_reducible first
      | assumption | apply Block.captureDue_ok
    | simp only [Block.ok_mk]
    | with_reducible apply Block.ok_of
    | split

theorem Block.loopRun_ok (b : Block) (hOk : b.Ok) : (Block.loopRun b).Ok := by
  unfold Block.loopRun
  try dsimp only
  repeat' first
    | intro _
    | with_reducible first
      | assumption | apply Block.phase_ok | apply Block.runSlot_ok | apply Block.pairIn_ok | apply Block.pairOut_ok
      | apply Block.captureRun_ok | apply Block.cond_ok | apply Block.each_ok
    | simp only [Block.ok_mk]
    | with_reducible apply Block.ok_of
    | split

theorem Block.loopWrite_ok (b : Block) (hOk : b.Ok) : (Block.loopWrite b).Ok := by
  unfold Block.loopWrite
  try dsimp only
  repeat' first
    | intro _
    | with_reducible first
      | assumption | apply Block.phase_ok | apply Block.loadAll_ok | apply Block.cond_ok | apply Block.each_ok
      | apply Block.wr_ok
    | simp only [Block.ok_mk]
    | with_reducible apply Block.ok_of
    | split

theorem Block.supvReport_ok (s kind : Nat) (b : Block) (hOk : b.Ok) : (Block.supvReport s kind b).Ok := by
  unfold Block.supvReport
  try dsimp only
  repeat' first
    | intro _
    | with_reducible first
      | assumption | apply Block.store_ok | apply Block.mbxPost_ok
    | simp only [Block.ok_mk]
    | with_reducible apply Block.ok_of
    | split

theorem Block.modeRequest_ok (s mode : Nat) (b : Block) (hOk : b.Ok) : (Block.modeRequest s mode b).Ok := by
  unfold Block.modeRequest
  try dsimp only
  repeat' first
    | intro _
    | with_reducible first
      | assumption | apply Block.err_ok | apply Block.svcCommand_ok | apply Block.refuseMode_ok
      | apply Block.disableSlot_ok | apply Block.each_ok | apply Block.wr_ok | apply Block.ok_of
    | split

theorem Block.injectStart_ok (b : Block) (hOk : b.Ok) : (Block.injectStart b).Ok := by
  unfold Block.injectStart
  try dsimp only
  repeat' first
    | intro _
    | with_reducible first
      | assumption | apply Block.hold_ok | apply Block.wr_ok
    | simp only [Block.ok_mk]
    | with_reducible apply Block.ok_of
    | split

theorem Block.captureStart_ok (b : Block) (hOk : b.Ok) : (Block.captureStart b).Ok := by
  unfold Block.captureStart
  try dsimp only
  repeat' first
    | intro _
    | with_reducible first
      | assumption | apply Block.wr_ok
    | simp only [Block.ok_mk]
    | with_reducible apply Block.ok_of
    | split

theorem Block.supvFail_ok (s : Nat) (b : Block) (hOk : b.Ok) : (Block.supvFail s b).Ok := by
  unfold Block.supvFail
  try dsimp only
  repeat' first
    | intro _
    | with_reducible first
      | assumption | apply Block.wrI_ok | apply Block.irq_ok | apply Block.err_ok | apply Block.imposeMan_ok
      | apply Block.supvReport_ok | apply Block.cond_ok | apply Block.wr_ok | apply Block.ok_of
    | split

theorem Block.supvRecover_ok (s : Nat) (b : Block) (hOk : b.Ok) : (Block.supvRecover s b).Ok := by
  unfold Block.supvRecover
  try dsimp only
  repeat' first
    | intro _
    | with_reducible first
      | assumption | apply Block.supvReport_ok | apply Block.wr_ok | apply Block.ok_of
    | split

end Sys2Proof.Machine
end

