-- ==== Sys2Proof/Laws/KeepControl.lean ====
section
/-! SUPPORT. Modes, self-tests, the converter, the field bus and the blocking bits keep the stores canonical. -/

namespace Sys2Proof.Machine

theorem Block.showSlots_ok (b : Block) (hOk : b.Ok) : (Block.showSlots b).Ok := by
  unfold Block.showSlots
  with_reducible repeat' first
    | intro _ | assumption | apply Block.wr_ok

theorem Block.radioKeyTouched_ok (n : Nat) (b : Block) (hOk : b.Ok) : (Block.radioKeyTouched n b).Ok := by
  unfold Block.radioKeyTouched
  try dsimp only
  repeat' first
    | intro _
    | with_reducible first
      | assumption
    | simp only [Block.ok_mk]
    | with_reducible apply Block.ok_of
    | split

theorem Block.zeroSlot_ok (n : Nat) (b : Block) (hOk : b.Ok) : (Block.zeroSlot n b).Ok := by
  unfold Block.zeroSlot
  try dsimp only
  repeat' first
    | intro _
    | with_reducible first
      | assumption | apply Block.showSlots_ok | apply Block.radioKeyTouched_ok
    | simp only [Block.ok_mk]
    | with_reducible apply Block.ok_of
    | split

theorem Block.resumeAll_ok (b : Block) (hOk : b.Ok) : (Block.resumeAll b).Ok := by
  unfold Block.resumeAll
  try dsimp only
  repeat' first
    | intro _
    | with_reducible first
      | assumption | apply Block.mbxSweep_ok | apply Block.wr_ok
    | simp only [Block.ok_mk]
    | with_reducible apply Block.ok_of
    | split

theorem Block.relevel_ok (b : Block) (hOk : b.Ok) : (Block.relevel b).Ok := by
  unfold Block.relevel
  try dsimp only
  repeat' first
    | intro _
    | with_reducible first
      | assumption | apply Block.wrB_ok | apply Block.irq_ok | apply Block.verdict_ok | apply Block.zeroSlot_ok
      | apply Block.resumeAll_ok | apply Block.cond_ok | apply Block.wr_ok | apply Block.ok_of
    | split

theorem Block.endAuth_ok (b : Block) (hOk : b.Ok) : (Block.endAuth b).Ok := by
  unfold Block.endAuth
  try dsimp only
  repeat' first
    | intro _
    | with_reducible first
      | assumption | apply Block.cond_ok | apply Block.wr_ok
    | simp only [Block.ok_mk]
    | with_reducible apply Block.ok_of
    | split

theorem Block.clearStatus_ok (n : Nat) (b : Block) (hOk : b.Ok) : (b.clearStatus n).Ok := ⟨Store.wf_filter _ _ hOk.1, hOk.2⟩

theorem Block.canGate_ok (b : Block) (hOk : b.Ok) : (Block.canGate b).Ok := by
  unfold Block.canGate
  try dsimp only
  repeat' first
    | intro _
    | with_reducible first
      | assumption | apply Block.clearStatus_ok | apply Block.wr_ok
    | simp only [Block.ok_mk]
    | with_reducible apply Block.ok_of
    | split

theorem Block.domainStart_ok (n : Nat) (b : Block) (hOk : b.Ok) : (Block.domainStart n b).Ok := by
  unfold Block.domainStart
  try dsimp only
  repeat' first
    | intro _
    | with_reducible first
      | assumption | apply Block.wrB_ok | apply Block.setPwm_ok | apply Block.dtRestart_ok
      | apply Block.clearStatus_ok | apply Block.canGate_ok | apply Block.each_ok | apply Block.wr_ok
    | simp only [Block.ok_mk]
    | with_reducible apply Block.ok_of
    | split

theorem Block.showDomains_ok (b : Block) (hOk : b.Ok) : (Block.showDomains b).Ok := by
  unfold Block.showDomains
  with_reducible repeat' first
    | intro _ | assumption | apply Block.canGate_ok | apply Block.domainStart_ok | apply Block.cond_ok
    | apply Block.each_ok | apply Block.wr_ok

theorem Block.abortTest_ok (t : Test) (b : Block) (hOk : b.Ok) : (Block.abortTest t b).Ok := by
  unfold Block.abortTest
  try dsimp only
  repeat' first
    | intro _
    | with_reducible first
      | assumption | apply Block.inc_ok | apply Block.irq_ok | apply Block.raise_ok | apply Block.showTests_ok
      | apply Block.cond_ok | apply Block.wr_ok
    | simp only [Block.ok_mk]
    | with_reducible apply Block.ok_of
    | split

theorem Block.abortOff_ok (b : Block) (hOk : b.Ok) : (Block.abortOff b).Ok := by
  unfold Block.abortOff
  with_reducible repeat' first
    | intro _ | assumption | apply Block.abortTest_ok | apply Block.cond_ok | apply Block.each_ok

theorem Block.abortAll_ok (b : Block) (hOk : b.Ok) : (Block.abortAll b).Ok := by
  unfold Block.abortAll
  with_reducible repeat' first
    | intro _ | assumption | apply Block.abortTest_ok | apply Block.each_ok

theorem Block.abortPage_ok (page : Nat) (b : Block) (hOk : b.Ok) : (Block.abortPage page b).Ok := by
  unfold Block.abortPage
  with_reducible repeat' first
    | intro _ | assumption | apply Block.abortTest_ok | apply Block.each_ok

theorem Block.adcOn_ok (b : Block) (hOk : b.Ok) : (Block.adcOn b).Ok := by
  unfold Block.adcOn
  try dsimp only
  repeat' first
    | intro _
    | with_reducible first
      | assumption | apply Block.cond_ok | apply Block.wr_ok
    | simp only [Block.ok_mk]
    | with_reducible apply Block.ok_of
    | split

theorem Block.leaveService_ok (b : Block) (hOk : b.Ok) : (Block.leaveService b).Ok := by
  unfold Block.leaveService
  try dsimp only
  repeat' first
    | intro _
    | with_reducible first
      | assumption | apply Block.endInjection_ok | apply Block.adcOn_ok | apply Block.wr_ok
    | simp only [Block.ok_mk]
    | with_reducible apply Block.ok_of
    | split

theorem Block.enterMode_ok (m : Mode) (cause : Nat) (b : Block) (hOk : b.Ok) : (Block.enterMode m cause b).Ok := by
  unfold Block.enterMode
  try dsimp only
  repeat' first
    | intro _
    | with_reducible first
      | assumption | apply Block.wrB_ok | apply Block.sysEvent_ok | apply Block.timeOff_ok | apply Block.mbxSweep_ok
      | apply Block.mbxClear_ok | apply Block.pwmForce_ok | apply Block.imposeGroups_ok | apply Block.relevel_ok
      | apply Block.endAuth_ok | apply Block.showDomains_ok | apply Block.abortOff_ok | apply Block.leaveService_ok
      | apply Block.cond_ok | apply Block.wr_ok
    | simp only [Block.ok_mk]
    | with_reducible apply Block.ok_of
    | split

theorem Block.enterSafe_ok (code page v cause : Nat) (b : Block) (hOk : b.Ok) : (Block.enterSafe code page v cause
  b).Ok := by
  unfold Block.enterSafe
  try dsimp only
  repeat' first
    | intro _
    | with_reducible first
      | assumption | apply Block.sysEvent_ok | apply Block.enterMode_ok | apply Block.cond_ok | apply Block.wr_ok
    | simp only [Block.ok_mk]
    | with_reducible apply Block.ok_of
    | split

theorem Block.samplePv_ok (b : Block) (hOk : b.Ok) : (Block.samplePv b).Ok := by
  unfold Block.samplePv
  try dsimp only
  repeat' first
    | intro _
    | with_reducible first
      | assumption | apply Block.wr_ok
    | simp only [Block.ok_mk]
    | with_reducible apply Block.ok_of
    | split

theorem Block.poolPower_ok (b : Block) (hOk : b.Ok) : (Block.poolPower b).Ok := by
  unfold Block.poolPower
  try dsimp only
  repeat' first
    | intro _
    | with_reducible first
      | assumption | apply Block.wrB_ok | apply Block.wr_ok
    | simp only [Block.ok_mk]
    | with_reducible apply Block.ok_of
    | split

theorem Block.ladderEval_ok (b : Block) (hOk : b.Ok) : (Block.ladderEval b).Ok := by
  unfold Block.ladderEval
  try dsimp only
  repeat' first
    | intro _
    | with_reducible first
      | assumption
    | simp only [Block.ok_mk]
    | with_reducible apply Block.ok_of
    | split

theorem Block.reqStat_ok (res cmd : Nat) (b : Block) (hOk : b.Ok) : (Block.reqStat res cmd b).Ok := by
  unfold Block.reqStat
  with_reducible repeat' first
    | intro _ | assumption | apply Block.wr_ok

theorem Block.decideLeave_ok (m : Mode) (cause : Nat) (b : Block) (hOk : b.Ok) : (Block.decideLeave m cause b).Ok :=
  by
  unfold Block.decideLeave
  try dsimp only
  repeat' first
    | intro _
    | with_reducible first
      | assumption
    | simp only [Block.ok_mk]
    | with_reducible apply Block.ok_of
    | split

theorem Block.decide1_ok (b : Block) (hOk : b.Ok) : (Block.decide1 b).Ok := by
  unfold Block.decide1
  try dsimp only
  repeat' first
    | intro _
    | with_reducible first
      | assumption | apply Block.reqStat_ok | apply Block.decideLeave_ok | apply Block.cond_ok | apply Block.wr_ok
    | simp only [Block.ok_mk]
    | with_reducible apply Block.ok_of
    | split

theorem Block.grant_ok (m : Mode) (b : Block) (hOk : b.Ok) : (Block.grant m b).Ok := by
  unfold Block.grant
  try dsimp only
  repeat' first
    | intro _
    | with_reducible first
      | assumption | apply Block.decideLeave_ok
    | simp only [Block.ok_mk]
    | with_reducible apply Block.ok_of
    | split

theorem Block.judgeRequest_ok (b : Block) (hOk : b.Ok) : (Block.judgeRequest b).Ok := by
  unfold Block.judgeRequest
  try dsimp only
  repeat' first
    | intro _
    | with_reducible first
      | assumption | apply Block.reqStat_ok | apply Block.grant_ok
    | simp only [Block.ok_mk]
    | with_reducible apply Block.ok_of
    | split

theorem Block.evaluate_ok (b : Block) (hOk : b.Ok) : (Block.evaluate b).Ok := by
  unfold Block.evaluate
  try dsimp only
  repeat' first
    | intro _
    | with_reducible first
      | assumption | apply Block.poolPower_ok | apply Block.ladderEval_ok | apply Block.decide1_ok
      | apply Block.judgeRequest_ok | apply Block.ok_of
    | split

theorem Block.shed7_ok (b : Block) (hOk : b.Ok) : (Block.shed7 b).Ok := by
  unfold Block.shed7
  try dsimp only
  repeat' first
    | intro _
    | with_reducible first
      | assumption | apply Block.verdict_ok | apply Block.cond_ok
    | simp only [Block.ok_mk]
    | with_reducible apply Block.ok_of
    | split

theorem Block.startMppt_ok (b : Block) (hOk : b.Ok) : (Block.startMppt b).Ok := by
  unfold Block.startMppt
  with_reducible repeat' first
    | intro _ | assumption | apply Block.wrI_ok | apply Block.modeRequest_ok

theorem Block.startUpTests_ok (b : Block) (hOk : b.Ok) : (Block.startUpTests b).Ok := by
  unfold Block.startUpTests
  try dsimp only
  repeat' first
    | intro _
    | with_reducible first
      | assumption | apply Block.showTests_ok | apply Block.cond_ok | apply Block.each_ok
    | simp only [Block.ok_mk]
    | with_reducible apply Block.ok_of
    | split

theorem Block.applyMode_ok (m : Mode) (cause : Nat) (b : Block) (hOk : b.Ok) : (Block.applyMode m cause b).Ok := by
  unfold Block.applyMode
  try dsimp only
  repeat' first
    | intro _
    | with_reducible first
      | assumption | apply Block.sysEvent_ok | apply Block.imposeMan_ok | apply Block.enterMode_ok
      | apply Block.startMppt_ok | apply Block.startUpTests_ok | apply Block.cond_ok | apply Block.each_ok
      | apply Block.wr_ok
    | simp only [Block.ok_mk]
    | with_reducible apply Block.ok_of
    | split

theorem Block.request_ok (cmd : Nat) (b : Block) (hOk : b.Ok) : (Block.request cmd b).Ok := by
  unfold Block.request
  try dsimp only
  repeat' first
    | intro _
    | with_reducible first
      | assumption | apply Block.enterSafe_ok | apply Block.reqStat_ok
    | simp only [Block.ok_mk]
    | with_reducible apply Block.ok_of
    | split

theorem Block.showLasting_ok (b : Block) (hOk : b.Ok) : (Block.showLasting b).Ok := by
  unfold Block.showLasting
  with_reducible repeat' first
    | intro _ | assumption | apply Block.wrPageBit_ok | apply Block.each_ok

theorem Block.updClose_ok (cause : Nat) (b : Block) (hOk : b.Ok) : (Block.updClose cause b).Ok := by
  unfold Block.updClose
  try dsimp only
  repeat' first
    | intro _
    | with_reducible first
      | assumption | apply Block.irq_ok | apply Block.flashGiveUp_ok | apply Block.flashOwn_ok
      | apply Block.eraseFlash_ok | apply Block.wr_ok
    | simp only [Block.ok_mk]
    | with_reducible apply Block.ok_of
    | split

theorem Block.safeAction_ok (p : Nat) (b : Block) (hOk : b.Ok) : (Block.safeAction p b).Ok := by
  unfold Block.safeAction
  with_reducible repeat' first
    | intro _ | assumption | apply Block.irq_ok | apply Block.pwmForce_ok | apply Block.modulesToMan_ok
    | apply Block.wr_ok

theorem Block.hostClose_ok (b : Block) (hOk : b.Ok) : (Block.hostClose b).Ok := by
  unfold Block.hostClose
  with_reducible repeat' first
    | intro _ | assumption | apply Block.mbxSweep_ok | apply Block.wr_ok

theorem Block.lastingState_ok (c : ErrClass) (esc : Bool) (code : Nat) (b : Block) (hOk : b.Ok) : (Block.lastingState
  c esc code b).Ok := by
  unfold Block.lastingState
  try dsimp only
  repeat' first
    | intro _
    | with_reducible first
      | assumption | apply Block.mbxSweep_ok | apply Block.zeroSlot_ok | apply Block.enterSafe_ok
      | apply Block.updClose_ok | apply Block.safeAction_ok | apply Block.hostClose_ok | apply Block.cond_ok
      | apply Block.each_ok | apply Block.wr_ok
    | simp only [Block.ok_mk]
    | with_reducible apply Block.ok_of
    | split

theorem Block.escStore_ok (c : ErrClass) (b : Block) (hOk : b.Ok) : (Block.escStore c b).Ok := by
  unfold Block.escStore
  try dsimp only
  repeat' first
    | intro _
    | with_reducible first
      | assumption | apply Block.err_ok
    | simp only [Block.ok_mk]
    | with_reducible apply Block.ok_of
    | split

theorem Block.makeLasting_ok (c : ErrClass) (esc : Bool) (b : Block) (hOk : b.Ok) : (Block.makeLasting c esc b).Ok :=
  by
  unfold Block.makeLasting
  try dsimp only
  repeat' first
    | intro _
    | with_reducible first
      | assumption
    | simp only [Block.ok_mk]
    | with_reducible apply Block.ok_of
    | split

theorem Block.classify_ok (pass : Bool) (c : ErrClass) (b : Block) (hOk : b.Ok) : (Block.classify pass c b).1.Ok := by
  unfold Block.classify
  try dsimp only
  repeat' first
    | intro _
    | with_reducible first
      | assumption | apply Block.escStore_ok | apply Block.makeLasting_ok | apply Block.ok_of
    | split

theorem Block.testEffect_ok (t : Test) (pass : Bool) (detail : Nat) (b : Block) (hOk : b.Ok) :
    (b.testEffect t pass detail).Ok := by
  unfold Block.testEffect
  split
  · exact Block.ok_foldl _ _ (Block.ok_foldl _ _ hOk fun _ _ h => Block.setFlip_ok _ _ _ (Block.setVal_ok _ _ _ _ h))
      fun _ _ h => Block.charge_ok _ _ h
  · repeat' first
      | intro _ | with_reducible assumption
      | with_reducible apply Block.wr_ok
      | with_reducible apply Block.err_ok
      | with_reducible apply Block.verdict_ok
      | with_reducible apply Block.cond_ok
      | with_reducible apply Block.wrBit_ok
      | with_reducible apply Block.makeLasting_ok
      | with_reducible apply Block.enterSafe_ok
      | simp only [Block.ok_mk] | with_reducible apply Block.ok_of | with_reducible apply Block.ok_ite
      | with_reducible apply Block.ok_ite_fst | with_reducible refine Block.ok_fst (by assumption) ?_ | split

theorem Block.classifyNext_ok (pass : Bool) (acc : Block × Nat × Bool × List (ErrClass × Bool)) (c : ErrClass) (hOk : acc.1.Ok) :
    (Block.classifyNext pass acc c).1.Ok := Block.classify_ok pass c _ hOk

theorem Block.fenceLift_ok (was : List Lasting) (b : Block) (hOk : b.Ok) : (Block.fenceLift was b).Ok := by
  unfold Block.fenceLift
  try dsimp only
  repeat' first
    | intro _
    | with_reducible first
      | assumption
    | simp only [Block.ok_mk]
    | with_reducible apply Block.ok_of
    | split

theorem Block.freeClasses_ok (mine : ErrClass → Bool) (b : Block) (hOk : b.Ok) : (Block.freeClasses mine b).Ok := by
  unfold Block.freeClasses
  try dsimp only
  repeat' first
    | intro _
    | with_reducible first
      | assumption | apply Block.verdict_ok
    | simp only [Block.ok_mk]
    | with_reducible apply Block.ok_of
    | split

theorem Block.retestEnd_ok (page : Nat) (pass : Bool) (b : Block) (hOk : b.Ok) : (Block.retestEnd page pass b).Ok :=
  by
  unfold Block.retestEnd
  try dsimp only
  repeat' first
    | intro _
    | with_reducible first
      | assumption | apply Block.fenceLift_ok | apply Block.freeClasses_ok | apply Block.cond_ok | apply Block.wr_ok
    | simp only [Block.ok_mk]
    | with_reducible apply Block.ok_of
    | split

theorem Block.recordResult_ok (t : Test) (pass : Bool) (cls : Nat) (esc : Bool) (lastC : List (ErrClass × Bool)) (b :
  Block) (hOk : b.Ok) : (Block.recordResult t pass cls esc lastC b).Ok := by
  unfold Block.recordResult
  try dsimp only
  repeat' first
    | intro _
    | with_reducible first
      | assumption | apply Block.wrB_ok | apply Block.inc_ok | apply Block.irq_ok | apply Block.raise_ok
      | apply Block.verdict_ok | apply Block.showLasting_ok | apply Block.lastingState_ok | apply Block.cond_ok
      | apply Block.each_ok | apply Block.wr_ok | apply Block.ok_of
    | split

theorem Block.endTest_ok (t : Test) (pass : Bool) (detail : Nat) (b : Block) (hOk : b.Ok) : (b.endTest t pass detail).Ok := by
  have h := fun pass l n (b : Block) (hb : b.Ok) => Block.ok_foldl_fst (Block.classifyNext pass) l (x := (b, n, false, [])) hb
    fun x c hx => Block.classifyNext_ok pass x c hx
  exact Block.recordResult_ok _ _ _ _ _ _ (Block.cond_ok _ _ _ (h _ _ _ _ (Block.wr_ok _ _ _
    (Block.showTests_ok _ _ (Block.testEffect_ok _ _ _ _ hOk)))) fun h => Block.retestEnd_ok _ _ _ h)

theorem Block.addPend_ok (t : Test) (b : Block) (hOk : b.Ok) : (Block.addPend t b).Ok := by
  unfold Block.addPend
  try dsimp only
  repeat' first
    | intro _
    | with_reducible first
      | assumption | apply Block.showTests_ok
    | simp only [Block.ok_mk]
    | with_reducible apply Block.ok_of
    | split

theorem Block.watchSlots_ok (t : Test) (b : Block) (hOk : b.Ok) : (Block.watchSlots t b).Ok := by
  unfold Block.watchSlots
  with_reducible repeat' first
    | intro _ | assumption | apply Block.setSlot_ok | apply Block.cond_ok | apply Block.each_ok

theorem Block.startTest_ok (page : Nat) (flt : Bool) (b : Block) (hOk : b.Ok) : (Block.startTest page flt b).Ok := by
  unfold Block.startTest
  try dsimp only
  repeat' first
    | intro _
    | with_reducible first
      | assumption | apply Block.inc_ok | apply Block.showTests_ok | apply Block.watchSlots_ok | apply Block.cond_ok
      | apply Block.wr_ok
    | simp only [Block.ok_mk]
    | with_reducible apply Block.ok_of
    | split

theorem Block.startTests_ok (b : Block) (hOk : b.Ok) : (Block.startTests b).Ok := by
  unfold Block.startTests
  with_reducible repeat' first
    | intro _ | assumption | apply Block.startTest_ok | apply Block.each_ok

theorem Block.testStart_ok (page : Nat) (b : Block) (hOk : b.Ok) : (Block.testStart page b).Ok := by
  unfold Block.testStart
  try dsimp only
  repeat' first
    | intro _
    | with_reducible first
      | assumption | apply Block.addPend_ok
    | simp only [Block.ok_mk]
    | with_reducible apply Block.ok_of
    | split

theorem Block.retest_ok (page : Nat) (b : Block) (hOk : b.Ok) : (Block.retest page b).Ok := by
  unfold Block.retest
  try dsimp only
  repeat' first
    | intro _
    | with_reducible first
      | assumption | apply Block.addPend_ok | apply Block.wr_ok
    | simp only [Block.ok_mk]
    | with_reducible apply Block.ok_of
    | split

theorem Block.sampleSafety_ok (levels : List Bool) (b : Block) (hOk : b.Ok) : (Block.sampleSafety levels b).Ok := by
  unfold Block.sampleSafety
  try dsimp only
  repeat' first
    | intro _
    | with_reducible first
      | assumption | apply Block.wrB_ok | apply Block.irq_ok | apply Block.cond_ok | apply Block.each_ok
      | apply Block.wr_ok
    | simp only [Block.ok_mk]
    | with_reducible apply Block.ok_of
    | split

theorem Block.discEnd_ok (p d : Nat) (b : Block) (hOk : b.Ok) : (Block.discEnd p d b).Ok := by
  unfold Block.discEnd
  try dsimp only
  repeat' first
    | intro _
    | with_reducible first
      | assumption | apply Block.inc_ok | apply Block.irq_ok | apply Block.sysEvent_ok | apply Block.verdict_ok
      | apply Block.cond_ok | apply Block.wr_ok
    | simp only [Block.ok_mk]
    | with_reducible apply Block.ok_of
    | split

theorem Block.filterChange_ok (p ch : Nat) (b : Block) (hOk : b.Ok) : (Block.filterChange p ch b).Ok := by
  unfold Block.filterChange
  try dsimp only
  repeat' first
    | intro _
    | with_reducible first
      | assumption | apply Block.wrB_ok | apply Block.safeAction_ok | apply Block.discEnd_ok | apply Block.cond_ok
    | simp only [Block.ok_mk]
    | with_reducible apply Block.ok_of
    | split

theorem Block.discTimeout_ok (p : Nat) (b : Block) (hOk : b.Ok) : (Block.discTimeout p b).Ok := by
  unfold Block.discTimeout
  try dsimp only
  repeat' first
    | intro _
    | with_reducible first
      | assumption | apply Block.verdict_ok | apply Block.err_ok | apply Block.safeAction_ok | apply Block.wr_ok
    | simp only [Block.ok_mk]
    | with_reducible apply Block.ok_of
    | split

theorem Block.safetyStep_ok (b : Block) (hOk : b.Ok) : (Block.safetyStep b).Ok := by
  unfold Block.safetyStep
  with_reducible repeat' first
    | intro _ | assumption | apply Block.filterChange_ok | apply Block.discTimeout_ok | apply Block.each_ok

theorem Block.pulseCheck_ok (chan : Nat) (levels : List Bool) (b : Block) (hOk : b.Ok) : (Block.pulseCheck chan levels
  b).Ok := by
  unfold Block.pulseCheck
  try dsimp only
  repeat' first
    | intro _
    | with_reducible first
      | assumption | apply Block.err_ok | apply Block.safeAction_ok | apply Block.each_ok | apply Block.wr_ok
      | apply Block.ok_of
    | split

theorem Block.safetyClr_ok (p : Nat) (b : Block) (hOk : b.Ok) : (Block.safetyClr p b).Ok := by
  unfold Block.safetyClr
  try dsimp only
  repeat' first
    | intro _
    | with_reducible first
      | assumption | apply Block.wr_ok | apply Block.ok_of
    | split

theorem Block.safetyRestart_ok (p : Nat) (b : Block) (hOk : b.Ok) : (Block.safetyRestart p b).Ok := by
  unfold Block.safetyRestart
  try dsimp only
  repeat' first
    | intro _
    | with_reducible first
      | assumption | apply Block.pwmForce_ok | apply Block.wr_ok | apply Block.ok_of
    | split

theorem Block.askPlain_ok (page : Nat) (b : Block) (hOk : b.Ok) : (Block.askPlain page b).Ok := by
  unfold Block.askPlain
  try dsimp only
  repeat' first
    | intro _
    | with_reducible first
      | assumption | apply Block.addPend_ok | apply Block.ok_of
    | split

theorem Block.overrun_ok (o : OvrBlock) (b : Block) (hOk : b.Ok) : (Block.overrun o b).Ok := by
  unfold Block.overrun
  try dsimp only
  repeat' first
    | intro _
    | with_reducible first
      | assumption | apply Block.inc_ok | apply Block.irq_ok | apply Block.err_ok | apply Block.askPlain_ok
      | apply Block.cond_ok | apply Block.wr_ok
    | simp only [Block.ok_mk]
    | with_reducible apply Block.ok_of
    | split

theorem Block.adcDma_ok (b : Block) (hOk : b.Ok) : (Block.adcDma b).Ok := by
  unfold Block.adcDma
  try dsimp only
  repeat' first
    | intro _
    | with_reducible first
      | assumption | apply Block.irq_ok | apply Block.err_ok | apply Block.store_ok | apply Block.cond_ok
      | apply Block.wr_ok
    | simp only [Block.ok_mk]
    | with_reducible first
      | apply Block.ok_of | apply Block.ok_ite | apply Block.ok_ite_fst | apply Block.ok_ite_snd
      | refine Block.ok_fst (by assumption) ?_ | refine Block.ok_snd (by assumption) ?_
    | split

theorem Block.adcComplete_ok (codes : List Nat) (b : Block) (hOk : b.Ok) : (Block.adcComplete codes b).Ok := by
  unfold Block.adcComplete
  try dsimp only
  repeat' first
    | intro _
    | with_reducible first
      | assumption | apply Block.wrI_ok | apply Block.irq_ok | apply Block.phase_ok | apply Block.samplePv_ok
      | apply Block.adcDma_ok | apply Block.each_ok | apply Block.wr_ok
    | simp only [Block.ok_mk]
    | with_reducible apply Block.ok_of
    | split

theorem Block.adcFail_ok (coreB : Bool) (b : Block) (hOk : b.Ok) : (Block.adcFail coreB b).Ok := by
  unfold Block.adcFail
  try dsimp only
  repeat' first
    | intro _
    | with_reducible first
      | assumption | apply Block.err_ok | apply Block.overrun_ok | apply Block.cond_ok | apply Block.each_ok
      | apply Block.wr_ok
    | simp only [Block.ok_mk]
    | with_reducible apply Block.ok_of
    | split

theorem Block.adcEdge_ok (b : Block) (hOk : b.Ok) : (Block.adcEdge b).Ok := by
  unfold Block.adcEdge
  try dsimp only
  repeat' first
    | intro _
    | with_reducible first
      | assumption | apply Block.wrB_ok | apply Block.each_ok | apply Block.wr_ok
    | simp only [Block.ok_mk]
    | with_reducible apply Block.ok_of
    | split

theorem Block.adcEnable_ok (en : Bool) (b : Block) (hOk : b.Ok) : (Block.adcEnable en b).Ok := by
  unfold Block.adcEnable
  try dsimp only
  repeat' first
    | intro _
    | with_reducible first
      | assumption | apply Block.adcOn_ok | apply Block.each_ok | apply Block.wr_ok | apply Block.ok_of
    | split

theorem Block.report_ok (c : Clamp) (b : Block) (hOk : b.Ok) : (Block.report c b).Ok := by
  unfold Block.report
  try dsimp only
  repeat' first
    | intro _
    | with_reducible first
      | assumption | apply Block.inc_ok | apply Block.cond_ok | apply Block.wr_ok
    | simp only [Block.ok_mk]
    | with_reducible apply Block.ok_of
    | split

theorem Block.clamped_ok (page reason off lsb written stored : Nat) (b : Block) (hOk : b.Ok) : (Block.clamped page
  reason off lsb written stored b).Ok := by
  unfold Block.clamped
  with_reducible repeat' first
    | intro _ | assumption | apply Block.inc_ok | apply Block.irq_ok | apply Block.report_ok | apply Block.wr_ok

theorem Block.recordReport_ok (page reason off count at_ : Nat) (b : Block) (hOk : b.Ok) : (Block.recordReport page
  reason off count at_ b).Ok := by
  unfold Block.recordReport
  with_reducible repeat' first
    | intro _ | assumption | apply Block.report_ok

theorem Block.bumpGen_ok (page : Nat) (b : Block) (hOk : b.Ok) : (Block.bumpGen page b).Ok := by
  unfold Block.bumpGen
  with_reducible repeat' first
    | intro _ | assumption | apply Block.incWrap_ok

theorem Block.repClr_ok (b : Block) (hOk : b.Ok) : (Block.repClr b).Ok := by
  unfold Block.repClr
  try dsimp only
  repeat' first
    | intro _
    | with_reducible first
      | assumption | apply Block.wr_ok
    | simp only [Block.ok_mk]
    | with_reducible apply Block.ok_of
    | split

theorem Block.showBitrate_ok (b : Block) (hOk : b.Ok) : (Block.showBitrate b).Ok := by
  unfold Block.showBitrate
  try dsimp only
  repeat' first
    | intro _
    | with_reducible first
      | assumption | apply Block.wr_ok | apply Block.ok_of
    | split

theorem Block.showTx_ok (b : Block) (hOk : b.Ok) : (Block.showTx b).Ok := by
  unfold Block.showTx
  with_reducible repeat' first
    | intro _ | assumption | apply Block.cond_ok | apply Block.wr_ok

theorem Block.showDone_ok (b : Block) (hOk : b.Ok) : (Block.showDone b).Ok := by
  unfold Block.showDone
  try dsimp only
  repeat' first
    | intro _
    | with_reducible first
      | assumption | apply Block.wr_ok | apply Block.ok_of
    | split

theorem Block.enqueue_ok (e : TxEntry) (b : Block) (hOk : b.Ok) : (Block.enqueue e b).Ok := by
  unfold Block.enqueue
  try dsimp only
  repeat' first
    | intro _
    | with_reducible first
      | assumption | apply Block.showTx_ok
    | simp only [Block.ok_mk]
    | with_reducible apply Block.ok_of
    | split

theorem Block.setPartner_ok (addr : Nat) (f : Partner → Partner) (b : Block) (hOk : b.Ok) : (Block.setPartner addr f
  b).Ok := by
  unfold Block.setPartner
  try dsimp only
  repeat' first
    | intro _
    | with_reducible first
      | assumption
    | simp only [Block.ok_mk]
    | with_reducible apply Block.ok_of
    | split

theorem Block.lipPost_ok (e : TxEntry) (b : Block) (hOk : b.Ok) : (Block.lipPost e b).Ok := by
  unfold Block.lipPost
  try dsimp only
  repeat' first
    | intro _
    | with_reducible first
      | assumption
    | simp only [Block.ok_mk]
    | with_reducible apply Block.ok_of
    | split

theorem Block.resendDone_ok (p : Partner) (b : Block) (hOk : b.Ok) : (Block.resendDone p b).Ok := by
  unfold Block.resendDone
  with_reducible repeat' first
    | intro _ | assumption | apply Block.setPartner_ok | apply Block.wr_ok

theorem Block.resendStart_ok (addr : Nat) (b : Block) (hOk : b.Ok) : (Block.resendStart addr b).Ok := by
  unfold Block.resendStart
  try dsimp only
  repeat' first
    | intro _
    | with_reducible first
      | assumption | apply Block.setPartner_ok | apply Block.lipPost_ok | apply Block.resendDone_ok
    | simp only [Block.ok_mk]
    | with_reducible apply Block.ok_of
    | split

theorem Block.lipEnded_ok (e : TxEntry) (sent : Bool) (sof : Nat) (b : Block) (hOk : b.Ok) : (Block.lipEnded e sent
  sof b).Ok := by
  unfold Block.lipEnded
  try dsimp only
  repeat' first
    | intro _
    | with_reducible first
      | assumption | apply Block.setPartner_ok | apply Block.lipPost_ok | apply Block.resendDone_ok
      | apply Block.resendStart_ok
    | simp only [Block.ok_mk]
    | with_reducible apply Block.ok_of
    | split

theorem Block.endEntry_ok (e : TxEntry) (res ts sof : Nat) (b : Block) (hOk : b.Ok) : (Block.endEntry e res ts sof
  b).Ok := by
  unfold Block.endEntry
  try dsimp only
  repeat' first
    | intro _
    | with_reducible first
      | assumption | apply Block.inc_ok | apply Block.irq_ok | apply Block.err_ok | apply Block.showDone_ok
      | apply Block.lipEnded_ok | apply Block.cond_ok
    | simp only [Block.ok_mk]
    | with_reducible apply Block.ok_of
    | split

theorem Block.endWhere_ok (p : TxEntry → Bool) (res : Nat) (b : Block) (hOk : b.Ok) : (Block.endWhere p res b).Ok :=
  by
  unfold Block.endWhere
  try dsimp only
  repeat' first
    | intro _
    | with_reducible first
      | assumption | apply Block.showTx_ok | apply Block.endEntry_ok | apply Block.each_ok
    | simp only [Block.ok_mk]
    | with_reducible apply Block.ok_of
    | split

theorem Block.lipPump_ok (n : Nat) (b : Block) (hOk : b.Ok) : (b.lipPump n).Ok := by
  induction n generalizing b with
  | zero => exact hOk
  | succ n ih =>
    unfold Block.lipPump
    split
    · exact hOk
    · dsimp only
      split
      · exact ih _ (Block.enqueue_ok _ _ hOk)
      · exact hOk

theorem Block.lipRun_ok (b : Block) (hOk : b.Ok) : (Block.lipRun b).Ok := by
  unfold Block.lipRun
  with_reducible repeat' first
    | intro _ | assumption | apply Block.lipPump_ok

theorem Block.canStop_ok (b : Block) (hOk : b.Ok) : (Block.canStop b).Ok := by
  unfold Block.canStop
  try dsimp only
  repeat' first
    | intro _
    | with_reducible first
      | assumption | apply Block.endWhere_ok | apply Block.wr_ok
    | simp only [Block.ok_mk]
    | with_reducible apply Block.ok_of
    | split

theorem Block.canJoin_ok (b : Block) (hOk : b.Ok) : (Block.canJoin b).Ok := by
  unfold Block.canJoin
  try dsimp only
  repeat' first
    | intro _
    | with_reducible first
      | assumption | apply Block.wr_ok
    | simp only [Block.ok_mk]
    | with_reducible apply Block.ok_of
    | split

theorem Block.canStopped_ok (b : Block) (hOk : b.Ok) : (Block.canStopped b).Ok := by
  unfold Block.canStopped
  with_reducible repeat' first
    | intro _ | assumption | apply Block.canStop_ok | apply Block.canJoin_ok | apply Block.cond_ok

theorem Block.canIdle_ok (b : Block) (hOk : b.Ok) : (Block.canIdle b).Ok := by
  unfold Block.canIdle
  try dsimp only
  repeat' first
    | intro _
    | with_reducible first
      | assumption | apply Block.canStopped_ok | apply Block.wr_ok
    | simp only [Block.ok_mk]
    | with_reducible apply Block.ok_of
    | split

theorem Block.canSettle_ok (b : Block) (hOk : b.Ok) : (Block.canSettle b).Ok := by
  unfold Block.canSettle
  with_reducible repeat' first
    | intro _ | assumption | apply Block.canIdle_ok | apply Block.cond_ok

theorem Block.canEnable_ok (b : Block) (hOk : b.Ok) : (Block.canEnable b).Ok := by
  unfold Block.canEnable
  try dsimp only
  repeat' first
    | intro _
    | with_reducible first
      | assumption | apply Block.canJoin_ok | apply Block.wr_ok
    | simp only [Block.ok_mk]
    | with_reducible apply Block.ok_of
    | split

theorem Block.canDisable_ok (use : BusUse) (b : Block) (hOk : b.Ok) : (Block.canDisable use b).Ok := by
  unfold Block.canDisable
  try dsimp only
  repeat' first
    | intro _
    | with_reducible first
      | assumption | apply Block.canStop_ok | apply Block.wr_ok
    | simp only [Block.ok_mk]
    | with_reducible apply Block.ok_of
    | split

theorem Block.busOff_ok (b : Block) (hOk : b.Ok) : (Block.busOff b).Ok := by
  unfold Block.busOff
  try dsimp only
  repeat' first
    | intro _
    | with_reducible first
      | assumption | apply Block.inc_ok | apply Block.irq_ok | apply Block.err_ok | apply Block.endWhere_ok
      | apply Block.canStopped_ok | apply Block.wr_ok
    | simp only [Block.ok_mk]
    | with_reducible apply Block.ok_of
    | split

theorem Block.setCounters_ok (tec rec_ : Nat) (b : Block) (hOk : b.Ok) : (Block.setCounters tec rec_ b).Ok := by
  unfold Block.setCounters
  try dsimp only
  repeat' first
    | intro _
    | with_reducible first
      | assumption | apply Block.irq_ok | apply Block.busOff_ok | apply Block.cond_ok | apply Block.wr_ok
      | apply Block.ok_of
    | split

theorem Block.noAck_ok (b : Block) (hOk : b.Ok) : (Block.noAck b).Ok := by
  unfold Block.noAck
  try dsimp only
  repeat' first
    | intro _
    | with_reducible first
      | assumption | apply Block.inc_ok | apply Block.irq_ok | apply Block.askTest_ok | apply Block.cond_ok
      | apply Block.wr_ok | apply Block.ok_of
    | split

theorem Block.heard_ok (b : Block) (hOk : b.Ok) : (Block.heard b).Ok := by
  unfold Block.heard
  with_reducible repeat' first
    | intro _ | assumption | apply Block.wr_ok

theorem Block.dropHead_ok (b : Block) (hOk : b.Ok) : (Block.dropHead b).Ok := by
  unfold Block.dropHead
  try dsimp only
  repeat' first
    | intro _
    | with_reducible first
      | assumption | apply Block.showTx_ok
    | simp only [Block.ok_mk]
    | with_reducible apply Block.ok_of
    | split

theorem Block.attemptEnd_ok (o : CanOutcome) (ago : Nat) (exempt : Bool) (b : Block) (hOk : b.Ok) : (Block.attemptEnd
  o ago exempt b).Ok := by
  unfold Block.attemptEnd
  try dsimp only
  repeat' first
    | intro _
    | with_reducible first
      | assumption | apply Block.inc_ok | apply Block.err_ok | apply Block.endEntry_ok | apply Block.lipRun_ok
      | apply Block.canIdle_ok | apply Block.setCounters_ok | apply Block.noAck_ok | apply Block.heard_ok
      | apply Block.dropHead_ok | apply Block.cond_ok | apply Block.wr_ok
    | simp only [Block.ok_mk]
    | with_reducible apply Block.ok_of
    | split

theorem Block.busError_ok (lec : Nat) (transmitting : Bool) (more : Nat) (b : Block) (hOk : b.Ok) : (Block.busError
  lec transmitting more b).Ok := by
  unfold Block.busError
  try dsimp only
  repeat' first
    | intro _
    | with_reducible first
      | assumption | apply Block.err_ok | apply Block.canIdle_ok | apply Block.setCounters_ok | apply Block.wr_ok
      | apply Block.ok_of
    | split

theorem Block.recover_ok (b : Block) (hOk : b.Ok) : (Block.recover b).Ok := by
  unfold Block.recover
  with_reducible repeat' first
    | intro _ | assumption | apply Block.cond_ok | apply Block.wr_ok

theorem Block.recoveryEnd_ok (b : Block) (hOk : b.Ok) : (Block.recoveryEnd b).Ok := by
  unfold Block.recoveryEnd
  try dsimp only
  repeat' first
    | intro _
    | with_reducible first
      | assumption | apply Block.irq_ok | apply Block.wr_ok | apply Block.ok_of
    | split

theorem Block.txPush_ok (b : Block) (hOk : b.Ok) : (Block.txPush b).Ok := by
  unfold Block.txPush
  try dsimp only
  repeat' first
    | intro _
    | with_reducible first
      | assumption | apply Block.err_ok | apply Block.enqueue_ok | apply Block.wr_ok | apply Block.ok_of
    | split

theorem Block.dmaPush_ok (n addr k : Nat) (b : Block) (hOk : b.Ok) : (b.dmaPush n addr k).Ok := by
  induction n generalizing addr k b with
  | zero => exact Block.wr_ok _ _ _ hOk
  | succ n ih =>
    unfold Block.dmaPush
    dsimp only
    repeat' first
      | intro _ | with_reducible assumption
      | with_reducible apply ih
      | with_reducible apply Block.fetch_ok
      | with_reducible apply Block.wr_ok
      | with_reducible apply Block.err_ok
      | with_reducible apply Block.enqueue_ok
      | simp only [Block.ok_mk] | with_reducible apply Block.ok_of | with_reducible apply Block.ok_ite
      | with_reducible apply Block.ok_ite_fst | with_reducible refine Block.ok_fst (by assumption) ?_ | split

theorem Block.txDmaGo_ok (b : Block) (hOk : b.Ok) : (Block.txDmaGo b).Ok := by
  unfold Block.txDmaGo
  with_reducible repeat' first
    | intro _ | assumption | apply Block.dmaPush_ok | apply Block.wr_ok

theorem Block.markHead_ok (b : Block) (hOk : b.Ok) : (Block.markHead b).Ok := by
  unfold Block.markHead
  try dsimp only
  repeat' first
    | intro _
    | with_reducible first
      | assumption | apply Block.wr_ok
    | simp only [Block.ok_mk]
    | with_reducible apply Block.ok_of
    | split

theorem Block.txAbort_ok (tag : Nat) (all sending : Bool) (b : Block) (hOk : b.Ok) : (Block.txAbort tag all sending
  b).Ok := by
  unfold Block.txAbort
  try dsimp only
  repeat' first
    | intro _
    | with_reducible first
      | assumption | apply Block.showTx_ok | apply Block.endEntry_ok | apply Block.endWhere_ok
      | apply Block.markHead_ok | apply Block.each_ok
    | simp only [Block.ok_mk]
    | with_reducible apply Block.ok_of
    | split

theorem Block.txDoneRead_ok (actor : Actor) (b : Block) (hOk : b.Ok) : (Block.txDoneRead actor b).Ok := by
  unfold Block.txDoneRead
  try dsimp only
  repeat' first
    | intro _
    | with_reducible first
      | assumption | apply Block.answer_ok | apply Block.showDone_ok
    | simp only [Block.ok_mk]
    | with_reducible apply Block.ok_of
    | split

theorem Block.showRx_ok (b : Block) (hOk : b.Ok) : (Block.showRx b).Ok := by
  unfold Block.showRx
  try dsimp only
  repeat' first
    | intro _
    | with_reducible first
      | assumption | apply Block.wrBit_ok | apply Block.each_ok | apply Block.wr_ok | apply Block.ok_of
    | split

theorem Block.quietBroadcast_ok (b : Block) (hOk : b.Ok) : (Block.quietBroadcast b).Ok := by
  unfold Block.quietBroadcast
  try dsimp only
  repeat' first
    | intro _
    | with_reducible first
      | assumption | apply Block.lipPost_ok
    | simp only [Block.ok_mk]
    | with_reducible apply Block.ok_of
    | split

theorem Block.coordSeen_ok (id : Nat) (b : Block) (hOk : b.Ok) : (Block.coordSeen id b).Ok := by
  unfold Block.coordSeen
  try dsimp only
  repeat' first
    | intro _
    | with_reducible first
      | assumption | apply Block.sysEvent_ok | apply Block.endWhere_ok
    | simp only [Block.ok_mk]
    | with_reducible apply Block.ok_of
    | split

theorem Block.recGood_ok (b : Block) (hOk : b.Ok) : (Block.recGood b).Ok := by
  unfold Block.recGood
  try dsimp only
  repeat' first
    | intro _
    | with_reducible first
      | assumption | apply Block.setCounters_ok | apply Block.draw_ok | apply Block.ok_of
    | split

theorem Block.btHeard_ok (id : Nat) (b : Block) (hOk : b.Ok) : (Block.btHeard id b).Ok := by
  unfold Block.btHeard
  try dsimp only
  repeat' first
    | intro _
    | with_reducible first
      | assumption | apply Block.cond_ok
    | simp only [Block.ok_mk]
    | with_reducible apply Block.ok_of
    | split

theorem Block.frameReceive_ok (id dlc : Nat) (data : List Byte) (ago : Nat) (b : Block) (hOk : b.Ok) :
  (Block.frameReceive id dlc data ago b).Ok := by
  unfold Block.frameReceive
  try dsimp only
  repeat' first
    | intro _
    | with_reducible first
      | assumption | apply Block.inc_ok | apply Block.incWrap_ok | apply Block.irq_ok | apply Block.err_ok
      | apply Block.lipRun_ok | apply Block.canIdle_ok | apply Block.heard_ok | apply Block.showRx_ok
      | apply Block.quietBroadcast_ok | apply Block.coordSeen_ok | apply Block.recGood_ok | apply Block.btHeard_ok
      | apply Block.cond_ok
    | simp only [Block.ok_mk]
    | with_reducible apply Block.ok_of
    | split

theorem Block.w0Read_ok (actor : Actor) (b : Block) (hOk : b.Ok) : (Block.w0Read actor b).Ok := by
  unfold Block.w0Read
  try dsimp only
  repeat' first
    | intro _
    | with_reducible first
      | assumption | apply Block.answer_ok | apply Block.wr_ok | apply Block.ok_of
    | split

theorem Block.w3Read_ok (actor : Actor) (b : Block) (hOk : b.Ok) : (Block.w3Read actor b).Ok := by
  unfold Block.w3Read
  try dsimp only
  repeat' first
    | intro _
    | with_reducible first
      | assumption | apply Block.answer_ok | apply Block.showRx_ok | apply Block.wr_ok
    | simp only [Block.ok_mk]
    | with_reducible apply Block.ok_of
    | split

theorem Block.ringWrite_ok (b : Block) (hOk : b.Ok) : (Block.ringWrite b).Ok := by
  unfold Block.ringWrite
  try dsimp only
  repeat' first
    | intro _
    | with_reducible first
      | assumption | apply Block.err_ok | apply Block.store_ok | apply Block.showRx_ok | apply Block.wr_ok
    | simp only [Block.ok_mk]
    | with_reducible first
      | apply Block.ok_of | apply Block.ok_ite | apply Block.ok_ite_fst | apply Block.ok_ite_snd
      | refine Block.ok_fst (by assumption) ?_ | refine Block.ok_snd (by assumption) ?_
    | split

theorem Block.canRead_ok (a : Actor) (page : Nat) (f : Block → Block) (b : Block) (hOk : b.Ok) (hff : ∀ b, Block.Ok b
  → (f b).Ok) : (Block.canRead a page f b).Ok := by
  unfold Block.canRead
  with_reducible repeat' first
    | intro _ | assumption | apply Block.reach_ok | apply Block.cond_ok | apply hff

end Sys2Proof.Machine
end

