-- ==== Sys2Proof/Laws/KeepField.lean ====
section
/-! SUPPORT. The gallery, the recorder and the maps keep the stores canonical. -/

namespace Sys2Proof.Machine

theorem Block.setSecBit_ok (f : Nat → Nat → Fld) (s : Nat) (v : Bool) (b : Block) (hOk : b.Ok) : (Block.setSecBit f s
  v b).Ok := by
  unfold Block.setSecBit
  with_reducible repeat' first
    | intro _ | assumption | apply Block.wrBit_ok

theorem Block.coverRead_ok (a : Nat) (b : Block) (hOk : b.Ok) : (Block.coverRead a b).Ok := by
  unfold Block.coverRead
  try dsimp only
  repeat' first
    | intro _
    | with_reducible first
      | assumption | apply Block.violation_ok | apply Block.beat_ok | apply Block.readWord_ok | apply Block.ok_of
    | split

theorem Block.showPred_ok (b : Block) (hOk : b.Ok) : (Block.showPred b).Ok := by
  unfold Block.showPred
  with_reducible repeat' first
    | intro _ | assumption | apply Block.wr_ok

theorem Block.readBoundary_ok (b : Block) (hOk : b.Ok) : (Block.readBoundary b).1.Ok := by
  unfold Block.readBoundary
  try dsimp only
  repeat' first
    | intro _
    | with_reducible first
      | assumption | apply Block.fetch_ok
    | simp only [Block.ok_mk]
    | with_reducible first
      | apply Block.ok_of | apply Block.ok_ite | apply Block.ok_ite_fst | apply Block.ok_ite_snd
      | refine Block.ok_fst (by assumption) ?_ | refine Block.ok_snd (by assumption) ?_
    | split

theorem Block.wrEmax_ok (e : Nat) (b : Block) (hOk : b.Ok) : (Block.wrEmax e b).Ok := by
  unfold Block.wrEmax
  with_reducible repeat' first
    | intro _ | assumption | apply Block.wr_ok

theorem Block.showEmax_ok (b : Block) (hOk : b.Ok) : (Block.showEmax b).Ok := by
  unfold Block.showEmax
  try dsimp only
  repeat' first
    | intro _
    | with_reducible first
      | assumption | apply Block.wrEmax_ok
    | simp only [Block.ok_mk]
    | with_reducible apply Block.ok_of
    | split

theorem Block.boundaryLoad_ok (v : Nat) (b : Block) (hOk : b.Ok) : (Block.boundaryLoad v b).Ok := by
  unfold Block.boundaryLoad
  try dsimp only
  repeat' first
    | intro _
    | with_reducible first
      | assumption | apply Block.verdict_ok | apply Block.clamped_ok | apply Block.bumpGen_ok
      | apply Block.showPred_ok | apply Block.readBoundary_ok | apply Block.wrEmax_ok | apply Block.cond_ok
      | apply Block.wr_ok
    | simp only [Block.ok_mk]
    | with_reducible apply Block.ok_of
    | split

theorem Block.takeRecord_ok (b : Block) (hOk : b.Ok) : (Block.takeRecord b).Ok := by
  unfold Block.takeRecord
  try dsimp only
  repeat' first
    | intro _
    | with_reducible first
      | assumption | apply Block.cond_ok | apply Block.wr_ok
    | simp only [Block.ok_mk]
    | with_reducible apply Block.ok_of
    | split

theorem Block.rebase_ok (b : Block) (hOk : b.Ok) : (Block.rebase b).Ok := by
  unfold Block.rebase
  try dsimp only
  repeat' first
    | intro _
    | with_reducible first
      | assumption
    | simp only [Block.ok_mk]
    | with_reducible apply Block.ok_of
    | split

theorem Block.holdStep_ok (b : Block) (hOk : b.Ok) : (Block.holdStep b).Ok := by
  unfold Block.holdStep
  try dsimp only
  repeat' first
    | intro _
    | with_reducible first
      | assumption | apply Block.irq_ok | apply Block.rebase_ok | apply Block.cond_ok | apply Block.wr_ok
    | simp only [Block.ok_mk]
    | with_reducible apply Block.ok_of
    | split

theorem Block.gateStep_ok (b : Block) (hOk : b.Ok) : (Block.gateStep b).Ok := by
  unfold Block.gateStep
  try dsimp only
  repeat' first
    | intro _
    | with_reducible first
      | assumption | apply Block.wr_ok | apply Block.ok_of
    | split

theorem Block.latchNodes_ok (b : Block) (hOk : b.Ok) : (Block.latchNodes b).Ok := by
  unfold Block.latchNodes
  try dsimp only
  repeat' first
    | intro _
    | with_reducible first
      | assumption | apply Block.cond_ok
    | simp only [Block.ok_mk]
    | with_reducible apply Block.ok_of
    | split

theorem Block.availability_ok (b : Block) (hOk : b.Ok) : (Block.availability b).Ok := by
  unfold Block.availability
  try dsimp only
  repeat' first
    | intro _
    | with_reducible first
      | assumption | apply Block.verdict_ok | apply Block.err_ok | apply Block.setSecBit_ok | apply Block.cond_ok
      | apply Block.each_ok
    | simp only [Block.ok_mk]
    | with_reducible apply Block.ok_of
    | split

theorem Block.latchFlow_ok (b : Block) (hOk : b.Ok) : (Block.latchFlow b).Ok := by
  unfold Block.latchFlow
  try dsimp only
  repeat' first
    | intro _
    | with_reducible first
      | assumption
    | simp only [Block.ok_mk]
    | with_reducible apply Block.ok_of
    | split

theorem Block.inputLatch_ok (b : Block) (hOk : b.Ok) : (Block.inputLatch b).Ok := by
  unfold Block.inputLatch
  try dsimp only
  repeat' first
    | intro _
    | with_reducible first
      | assumption | apply Block.irq_ok | apply Block.takeRecord_ok | apply Block.holdStep_ok
      | apply Block.gateStep_ok | apply Block.availability_ok | apply Block.latchFlow_ok
    | simp only [Block.ok_mk]
    | with_reducible apply Block.ok_of
    | split

theorem Block.dropObs_ok (p : Obs → Bool) (b : Block) (hOk : b.Ok) : (Block.dropObs p b).Ok := by
  unfold Block.dropObs
  try dsimp only
  repeat' first
    | intro _
    | with_reducible first
      | assumption
    | simp only [Block.ok_mk]
    | with_reducible apply Block.ok_of
    | split

theorem Block.holdExpiry_ok (b : Block) (hOk : b.Ok) : (Block.holdExpiry b).Ok := by
  unfold Block.holdExpiry
  try dsimp only
  repeat' first
    | intro _
    | with_reducible first
      | assumption | apply Block.irq_ok | apply Block.verdict_ok | apply Block.cond_ok | apply Block.wr_ok
    | simp only [Block.ok_mk]
    | with_reducible apply Block.ok_of
    | split

theorem Block.sampleReads_ok (s : Nat) (b : Block) (hOk : b.Ok) : (Block.sampleReads s b).Ok := by
  unfold Block.sampleReads
  try dsimp only
  repeat' first
    | intro _
    | with_reducible first
      | assumption | apply Block.coverRead_ok | apply Block.each_ok | apply Block.ok_of
    | split

theorem Block.probeStep_ok (s open_ close : Nat) (b : Block) (hOk : b.Ok) : (Block.probeStep s open_ close b).Ok := by
  unfold Block.probeStep
  try dsimp only
  repeat' first
    | intro _
    | with_reducible first
      | assumption
    | simp only [Block.ok_mk]
    | with_reducible apply Block.ok_of
    | split

theorem Block.probeStart_ok (run : List Nat) (b : Block) (hOk : b.Ok) : (Block.probeStart run b).Ok := by
  unfold Block.probeStart
  try dsimp only
  repeat' first
    | intro _
    | with_reducible first
      | assumption | apply Block.coverRead_ok | apply Block.each_ok
    | simp only [Block.ok_mk]
    | with_reducible apply Block.ok_of
    | split

theorem Block.evaluateSections_ok (cycles : Nat) (missed : List Nat) (b : Block) (hOk : b.Ok) :
  (Block.evaluateSections cycles missed b).Ok := by
  unfold Block.evaluateSections
  try dsimp only
  repeat' first
    | intro _
    | with_reducible first
      | assumption | apply Block.wrB_ok | apply Block.add_ok | apply Block.irq_ok | apply Block.err_ok
      | apply Block.overrun_ok | apply Block.sampleReads_ok | apply Block.probeStep_ok | apply Block.probeStart_ok
      | apply Block.cond_ok | apply Block.each_ok | apply Block.wr_ok
    | simp only [Block.ok_mk]
    | with_reducible apply Block.ok_of
    | split

theorem Block.classSwitch_ok (s sw : Nat) (abandon : Bool) (b : Block) (hOk : b.Ok) : (Block.classSwitch s sw abandon
  b).Ok := by
  unfold Block.classSwitch
  try dsimp only
  repeat' first
    | intro _
    | with_reducible first
      | assumption
    | simp only [Block.ok_mk]
    | with_reducible apply Block.ok_of
    | split

theorem Block.commit_ok (s : Nat) (opening late abandon : Bool) (sw : Nat) (b : Block) (hOk : b.Ok) : (Block.commit s
  opening late abandon sw b).Ok := by
  unfold Block.commit
  try dsimp only
  repeat' first
    | intro _
    | with_reducible first
      | assumption | apply Block.verdict_ok | apply Block.setSecBit_ok | apply Block.classSwitch_ok
      | apply Block.cond_ok
    | simp only [Block.ok_mk]
    | with_reducible apply Block.ok_of
    | split

theorem Block.observe_ok (s : Nat) (opening : Bool) (sw : Nat) (b : Block) (hOk : b.Ok) : (Block.observe s opening sw
  b).Ok := by
  unfold Block.observe
  try dsimp only
  repeat' first
    | intro _
    | with_reducible first
      | assumption
    | simp only [Block.ok_mk]
    | with_reducible apply Block.ok_of
    | split

theorem Block.commandLatch_ok (b : Block) (hOk : b.Ok) : (Block.commandLatch b).Ok := by
  unfold Block.commandLatch
  try dsimp only
  repeat' first
    | intro _
    | with_reducible first
      | assumption | apply Block.classSwitch_ok | apply Block.commit_ok | apply Block.observe_ok
      | apply Block.cond_ok | apply Block.each_ok
    | simp only [Block.ok_mk]
    | with_reducible first
      | apply Block.ok_of | apply Block.ok_ite | apply Block.ok_ite_fst | apply Block.ok_ite_snd
      | refine Block.ok_fst (by assumption) ?_ | refine Block.ok_snd (by assumption) ?_
    | split

theorem Block.switchStep_ok (b : Block) (hOk : b.Ok) : (Block.switchStep b).Ok := by
  unfold Block.switchStep
  try dsimp only
  repeat' first
    | intro _
    | with_reducible first
      | assumption | apply Block.setSecBit_ok | apply Block.each_ok
    | simp only [Block.ok_mk]
    | with_reducible apply Block.ok_of
    | split

theorem Block.showDirty_ok (b : Block) (hOk : b.Ok) : (Block.showDirty b).Ok := by
  unfold Block.showDirty
  with_reducible repeat' first
    | intro _ | assumption | apply Block.wr_ok

theorem Block.coverCell_ok (col row : Int) (b : Block) (hOk : b.Ok) : (Block.coverCell col row b).Ok := by
  unfold Block.coverCell
  try dsimp only
  repeat' first
    | intro _
    | with_reducible first
      | assumption | apply Block.store_ok | apply Block.coverRead_ok
    | simp only [Block.ok_mk]
    | with_reducible apply Block.ok_of
    | split

theorem Block.paintOpen_ok (b : Block) (hOk : b.Ok) : (Block.paintOpen b).Ok := by
  unfold Block.paintOpen
  try dsimp only
  repeat' first
    | intro _
    | with_reducible first
      | assumption | apply Block.showDirty_ok | apply Block.coverCell_ok | apply Block.each_ok | apply Block.ok_of
    | split

theorem Block.paintPool_ok (b : Block) (hOk : b.Ok) : (Block.paintPool b).Ok := by
  unfold Block.paintPool
  try dsimp only
  repeat' first
    | intro _
    | with_reducible first
      | assumption | apply Block.switchStep_ok | apply Block.paintOpen_ok
    | simp only [Block.ok_mk]
    | with_reducible apply Block.ok_of
    | split

theorem Block.galStop_ok (b : Block) (hOk : b.Ok) : (Block.galStop b).Ok := by
  unfold Block.galStop
  try dsimp only
  repeat' first
    | intro _
    | with_reducible first
      | assumption | apply Block.each_ok | apply Block.wr_ok
    | simp only [Block.ok_mk]
    | with_reducible apply Block.ok_of
    | split

theorem Block.observeSamples_ok (b : Block) (hOk : b.Ok) : (Block.observeSamples b).Ok := by
  unfold Block.observeSamples
  try dsimp only
  repeat' first
    | intro _
    | with_reducible first
      | assumption
    | simp only [Block.ok_mk]
    | with_reducible apply Block.ok_of
    | split

theorem Block.obsEnd_ok (c : Nat) (b : Block) (hOk : b.Ok) : (Block.obsEnd c b).Ok := by
  unfold Block.obsEnd
  try dsimp only
  repeat' first
    | intro _
    | with_reducible first
      | assumption | apply Block.add_ok | apply Block.irq_ok | apply Block.verdict_ok | apply Block.err_ok
      | apply Block.cond_ok | apply Block.wr_ok
    | simp only [Block.ok_mk]
    | with_reducible apply Block.ok_of
    | split

theorem Block.capEdge_ok (n : Nat) (rising : Bool) (held cyc : Nat) (b : Block) (hOk : b.Ok) : (Block.capEdge n rising
  held cyc b).Ok := by
  unfold Block.capEdge
  try dsimp only
  repeat' first
    | intro _
    | with_reducible first
      | assumption | apply Block.incWrap_ok | apply Block.irq_ok | apply Block.err_ok | apply Block.wr_ok
    | simp only [Block.ok_mk]
    | with_reducible apply Block.ok_of
    | split

theorem Block.putWords_ok (a : Nat) (bs : List Byte) (b : Block) (hOk : b.Ok) : (Block.putWords a bs b).Ok := by
  unfold Block.putWords
  with_reducible repeat' first
    | intro _ | assumption | apply Block.writeWord_ok | apply Block.each_ok

theorem Block.showLog_ok (b : Block) (hOk : b.Ok) : (Block.showLog b).Ok := by
  unfold Block.showLog
  with_reducible repeat' first
    | intro _ | assumption | apply Block.wr_ok

theorem Block.holdVerdict_ok (v sev : Nat) (b : Block) (hOk : b.Ok) : (Block.holdVerdict v sev b).Ok := by
  unfold Block.holdVerdict
  try dsimp only
  repeat' first
    | intro _
    | with_reducible first
      | assumption | apply Block.verdict_ok
    | simp only [Block.ok_mk]
    | with_reducible apply Block.ok_of
    | split

theorem Block.markPending_ok (i : Nat) (fresh : Bool) (b : Block) (hOk : b.Ok) : (Block.markPending i fresh b).Ok :=
  by
  unfold Block.markPending
  try dsimp only
  repeat' first
    | intro _
    | with_reducible first
      | assumption
    | simp only [Block.ok_mk]
    | with_reducible apply Block.ok_of
    | split

theorem Block.markSummary_ok (i : Nat) (b : Block) (hOk : b.Ok) : (Block.markSummary i b).Ok := by
  unfold Block.markSummary
  try dsimp only
  repeat' first
    | intro _
    | with_reducible first
      | assumption
    | simp only [Block.ok_mk]
    | with_reducible apply Block.ok_of
    | split

theorem Block.writeRepeat_ok (img : List Byte) (e : Event) (b : Block) (hOk : b.Ok) : (Block.writeRepeat img e b).Ok
  := by
  unfold Block.writeRepeat
  with_reducible repeat' first
    | intro _ | assumption | apply Block.verdict_ok | apply Block.putWords_ok | apply Block.markPending_ok
    | apply Block.markSummary_ok | apply Block.cond_ok

theorem Block.writeNew_ok (e : Event) (b : Block) (hOk : b.Ok) : (Block.writeNew e b).Ok := by
  unfold Block.writeNew
  try dsimp only
  repeat' first
    | intro _
    | with_reducible first
      | assumption | apply Block.inc_ok | apply Block.irq_ok | apply Block.putWords_ok | apply Block.markPending_ok
      | apply Block.markSummary_ok | apply Block.cond_ok | apply Block.wr_ok
    | simp only [Block.ok_mk]
    | with_reducible apply Block.ok_of
    | split

theorem Block.record_ok (e : Event) (b : Block) (hOk : b.Ok) : (Block.record e b).Ok := by
  unfold Block.record
  try dsimp only
  repeat' first
    | intro _
    | with_reducible first
      | assumption | apply Block.irq_ok | apply Block.verdict_ok | apply Block.readRange_ok | apply Block.showLog_ok
      | apply Block.holdVerdict_ok | apply Block.writeRepeat_ok | apply Block.writeNew_ok | apply Block.cond_ok
      | apply Block.ok_of
    | split

theorem Block.recordWrite_ok (b : Block) (hOk : b.Ok) : (Block.recordWrite b).Ok := by
  unfold Block.recordWrite
  try dsimp only
  repeat' first
    | intro _
    | with_reducible first
      | assumption | apply Block.sysEvent_ok | apply Block.record_ok
    | simp only [Block.ok_mk]
    | with_reducible apply Block.ok_of
    | split

theorem Block.programSlot_ok (bs : List Byte) (b : Block) (hOk : b.Ok) : (Block.programSlot bs b).Ok := by
  unfold Block.programSlot
  try dsimp only
  repeat' first
    | intro _
    | with_reducible first
      | assumption | apply Block.programFlash_ok
    | simp only [Block.ok_mk]
    | with_reducible apply Block.ok_of
    | split

theorem Block.logCompact_ok (b : Block) (hOk : b.Ok) : (Block.logCompact b).Ok := by
  unfold Block.logCompact
  try dsimp only
  repeat' first
    | intro _
    | with_reducible first
      | assumption | apply Block.programSlot_ok | apply Block.each_ok | apply Block.eraseFlash_ok | apply Block.ok_of
    | split

theorem Block.logRoom_ok (n : Nat) (b : Block) (hOk : b.Ok) : (b.logRoom n).Ok := by
  induction n generalizing b with
  | zero => exact hOk
  | succ n ih =>
    unfold Block.logRoom
    split
    · exact ih _ (Block.logCompact_ok _ hOk)
    · exact hOk

theorem Block.appendImage_ok (img : List Byte) (index : Nat) (b : Block) (hOk : b.Ok) : (Block.appendImage img index
  b).Ok := by
  unfold Block.appendImage
  try dsimp only
  repeat' first
    | intro _
    | with_reducible first
      | assumption | apply Block.programSlot_ok | apply Block.logRoom_ok | apply Block.wr_ok
    | simp only [Block.ok_mk]
    | with_reducible apply Block.ok_of
    | split

theorem Block.appendPending_ok (p : Pending) (ok : Bool) (b : Block) (hOk : b.Ok) : (Block.appendPending p ok b).Ok :=
  by
  unfold Block.appendPending
  try dsimp only
  repeat' first
    | intro _
    | with_reducible first
      | assumption | apply Block.err_ok | apply Block.readRange_ok | apply Block.showLog_ok
      | apply Block.appendImage_ok | apply Block.scramble_ok
    | simp only [Block.ok_mk]
    | with_reducible apply Block.ok_of
    | split

theorem Block.flush_ok (b : Block) (hOk : b.Ok) : (Block.flush b).Ok := by
  unfold Block.flush
  with_reducible repeat' first
    | intro _ | assumption | apply Block.appendPending_ok | apply Block.cond_ok | apply Block.each_ok

theorem Block.logRestore_ok (b : Block) (hOk : b.Ok) : (Block.logRestore b).Ok := by
  unfold Block.logRestore
  try dsimp only
  repeat' first
    | intro _
    | with_reducible first
      | assumption | apply Block.putWords_ok | apply Block.showLog_ok | apply Block.each_ok | apply Block.wr_ok
    | simp only [Block.ok_mk]
    | with_reducible apply Block.ok_of
    | split

theorem Block.wrGo_ok (b : Block) (hOk : b.Ok) : (Block.wrGo b).Ok := by
  unfold Block.wrGo
  try dsimp only
  repeat' first
    | intro _
    | with_reducible first
      | assumption | apply Block.raise_ok | apply Block.verdict_ok | apply Block.err_ok | apply Block.ok_of
    | split

theorem Block.foundDrop_ok (b : Block) (hOk : b.Ok) : (Block.foundDrop b).Ok := by
  unfold Block.foundDrop
  try dsimp only
  repeat' first
    | intro _
    | with_reducible first
      | assumption
    | simp only [Block.ok_mk]
    | with_reducible apply Block.ok_of
    | split

theorem Block.foundMark_ok (b : Block) (hOk : b.Ok) : b.foundMark.Ok :=
  Block.wr_ok _ _ _ (Block.putWords_ok _ _ _ (Block.appendImage_ok _ _ _ hOk))

theorem Block.foundClear_ok (b : Block) (hOk : b.Ok) : (Block.foundClear b).Ok := by
  unfold Block.foundClear
  with_reducible repeat' first
    | intro _ | assumption | apply Block.showLog_ok | apply Block.writeNew_ok | apply Block.foundDrop_ok
    | apply Block.foundMark_ok

theorem Block.flushCmd_ok (b : Block) (hOk : b.Ok) : (Block.flushCmd b).Ok := by
  unfold Block.flushCmd
  with_reducible repeat' first
    | intro _ | assumption | apply Block.flashOwn_ok | apply Block.flush_ok

theorem Block.foundClr_ok (b : Block) (hOk : b.Ok) : (Block.foundClr b).Ok := by
  unfold Block.foundClr
  try dsimp only
  repeat' first
    | intro _
    | with_reducible first
      | assumption | apply Block.flashOwn_ok | apply Block.foundClear_ok | apply Block.cond_ok
    | simp only [Block.ok_mk]
    | with_reducible apply Block.ok_of
    | split

theorem Block.clrKeyWrite_ok (key : Nat) (b : Block) (hOk : b.Ok) : (Block.clrKeyWrite key b).Ok := by
  unfold Block.clrKeyWrite
  try dsimp only
  repeat' first
    | intro _
    | with_reducible first
      | assumption
    | simp only [Block.ok_mk]
    | with_reducible apply Block.ok_of
    | split

theorem Block.ledCycle_ok (b : Block) (hOk : b.Ok) : (Block.ledCycle b).Ok := by
  unfold Block.ledCycle
  try dsimp only
  repeat' first
    | intro _
    | with_reducible first
      | assumption | apply Block.showLog_ok | apply Block.wr_ok
    | simp only [Block.ok_mk]
    | with_reducible apply Block.ok_of
    | split

theorem Block.ledAck_ok (b : Block) (hOk : b.Ok) : (Block.ledAck b).Ok := by
  unfold Block.ledAck
  try dsimp only
  repeat' first
    | intro _
    | with_reducible first
      | assumption | apply Block.verdict_ok | apply Block.showLog_ok
    | simp only [Block.ok_mk]
    | with_reducible apply Block.ok_of
    | split

theorem Block.showFree_ok (b : Block) (hOk : b.Ok) : (Block.showFree b).Ok := by
  unfold Block.showFree
  with_reducible repeat' first
    | intro _ | assumption | apply Block.wr_ok

theorem Block.seekSlot_ok (b : Block) (hOk : b.Ok) : (Block.seekSlot b).Ok := by
  unfold Block.seekSlot
  try dsimp only
  repeat' first
    | intro _
    | with_reducible first
      | assumption
    | simp only [Block.ok_mk]
    | with_reducible apply Block.ok_of
    | split

theorem Block.journalWrite_ok (t num : Nat) (last fold : Bool) (data : List Byte) (b : Block) (hOk : b.Ok) :
  (Block.journalWrite t num last fold data b).Ok := by
  unfold Block.journalWrite
  try dsimp only
  repeat' first
    | intro _
    | with_reducible first
      | assumption | apply Block.seekSlot_ok | apply Block.programFlash_ok
    | simp only [Block.ok_mk]
    | with_reducible apply Block.ok_of
    | split

theorem Block.ckptStart_ok (forced : Bool) (b : Block) (hOk : b.Ok) : (Block.ckptStart forced b).Ok := by
  unfold Block.ckptStart
  try dsimp only
  repeat' first
    | intro _
    | with_reducible first
      | assumption | apply Block.showDirty_ok | apply Block.wr_ok
    | simp only [Block.ok_mk]
    | with_reducible apply Block.ok_of
    | split

theorem Block.forcedDone_ok (b : Block) (hOk : b.Ok) : (Block.forcedDone b).Ok := by
  unfold Block.forcedDone
  try dsimp only
  repeat' first
    | intro _
    | with_reducible first
      | assumption
    | simp only [Block.ok_mk]
    | with_reducible apply Block.ok_of
    | split

theorem Block.ckptRun_ok (b : Block) (hOk : b.Ok) : (Block.ckptRun b).Ok := by
  unfold Block.ckptRun
  with_reducible repeat' first
    | intro _ | assumption | apply Block.ckptStart_ok | apply Block.forcedDone_ok | apply Block.cond_ok

theorem Block.ckptForce_ok (b : Block) (hOk : b.Ok) : (Block.ckptForce b).Ok := by
  unfold Block.ckptForce
  try dsimp only
  repeat' first
    | intro _
    | with_reducible first
      | assumption | apply Block.ckptRun_ok
    | simp only [Block.ok_mk]
    | with_reducible apply Block.ok_of
    | split

theorem Block.ckptClose_ok (done : Bool) (c : Ckpt) (b : Block) (hOk : b.Ok) : (Block.ckptClose done c b).Ok := by
  unfold Block.ckptClose
  try dsimp only
  repeat' first
    | intro _
    | with_reducible first
      | assumption | apply Block.irq_ok | apply Block.err_ok | apply Block.flashGiveUp_ok | apply Block.showDirty_ok
      | apply Block.forcedDone_ok | apply Block.ckptRun_ok | apply Block.cond_ok | apply Block.wr_ok
    | simp only [Block.ok_mk]
    | with_reducible apply Block.ok_of
    | split

theorem Block.ckptRecord_ok (ok : Bool) (b : Block) (hOk : b.Ok) : (Block.ckptRecord ok b).Ok := by
  unfold Block.ckptRecord
  try dsimp only
  repeat' first
    | intro _
    | with_reducible first
      | assumption | apply Block.readRange_ok | apply Block.showFree_ok | apply Block.seekSlot_ok
      | apply Block.journalWrite_ok | apply Block.ckptClose_ok | apply Block.scramble_ok
    | simp only [Block.ok_mk]
    | with_reducible apply Block.ok_of
    | split

theorem Block.ckptDue_ok (b : Block) (hOk : b.Ok) : (Block.ckptDue b).Ok := by
  unfold Block.ckptDue
  try dsimp only
  repeat' first
    | intro _
    | with_reducible first
      | assumption | apply Block.ckptStart_ok | apply Block.ckptForce_ok | apply Block.ok_of
    | split

theorem Block.foldHome_ok (h : Nat) (b : Block) (hOk : b.Ok) : (Block.foldHome h b).Ok := by
  unfold Block.foldHome
  with_reducible repeat' first
    | intro _ | assumption | apply Block.journalWrite_ok | apply Block.each_ok | apply Block.eraseFlash_ok
    | apply Block.programFlash_ok

theorem Block.journalFold_ok (b : Block) (hOk : b.Ok) : (Block.journalFold b).Ok := by
  unfold Block.journalFold
  try dsimp only
  repeat' first
    | intro _
    | with_reducible first
      | assumption | apply Block.showFree_ok | apply Block.foldHome_ok | apply Block.each_ok
      | apply Block.eraseFlash_ok | apply Block.ok_of
    | split

theorem Block.emptyMap_ok (b : Block) (hOk : b.Ok) : b.emptyMap.Ok :=
  Block.cond_ok _ _ _ ⟨hOk.1, Store.wf_filter _ _ hOk.2.1, Store.wf_filter _ _ hOk.2.2.1, hOk.2.2.2⟩ fun h =>
    Block.violation_ok _ _ _ _ h

theorem Block.loadTile_ok (t : Nat) (data : List Byte) (b : Block) (hOk : b.Ok) : (b.loadTile t data).Ok :=
  Block.store_ok _ _ _ _ _ hOk

theorem Block.mapRestore_ok (b : Block) (hOk : b.Ok) : (Block.mapRestore b).Ok := by
  unfold Block.mapRestore
  try dsimp only
  repeat' first
    | intro _
    | with_reducible first
      | assumption | apply Block.verdict_ok | apply Block.err_ok | apply Block.showFree_ok | apply Block.emptyMap_ok
      | apply Block.loadTile_ok | apply Block.each_ok | apply Block.wr_ok
    | simp only [Block.ok_mk]
    | with_reducible first
      | apply Block.ok_of | apply Block.ok_ite | apply Block.ok_ite_fst | apply Block.ok_ite_snd
      | refine Block.ok_fst (by assumption) ?_ | refine Block.ok_snd (by assumption) ?_
    | split

theorem Block.mapClear_ok (b : Block) (hOk : b.Ok) : (Block.mapClear b).Ok := by
  unfold Block.mapClear
  try dsimp only
  repeat' first
    | intro _
    | with_reducible first
      | assumption | apply Block.flashGiveUp_ok | apply Block.showFree_ok | apply Block.forcedDone_ok
      | apply Block.emptyMap_ok | apply Block.draw_ok | apply Block.eraseFlash_ok | apply Block.programFlash_ok
      | apply Block.wr_ok
    | simp only [Block.ok_mk]
    | with_reducible first
      | apply Block.ok_of | apply Block.ok_ite | apply Block.ok_ite_fst | apply Block.ok_ite_snd
      | refine Block.ok_fst (by assumption) ?_ | refine Block.ok_snd (by assumption) ?_
    | split

theorem Block.clearCmd_ok (b : Block) (hOk : b.Ok) : (Block.clearCmd b).Ok := by
  unfold Block.clearCmd
  with_reducible repeat' first
    | intro _ | assumption | apply Block.flashOwn_ok | apply Block.mapClear_ok | apply Block.cond_ok

end Sys2Proof.Machine
end

