-- ==== Sys2Proof/Laws/KeepLinks.lean ====
section
/-! SUPPORT. Security, calibration, the radio, resets and the tag keep the stores canonical. -/

namespace Sys2Proof.Machine

theorem Block.programOtp_ok (off : Nat) (bs : List Byte) (b : Block) (hOk : b.Ok) : (Block.programOtp off bs b).Ok :=
  by
  unfold Block.programOtp
  with_reducible repeat' first
    | intro _ | assumption | apply Block.each_ok | apply Block.setByte_ok

theorem Block.showOtp_ok (b : Block) (hOk : b.Ok) : (Block.showOtp b).Ok := by
  unfold Block.showOtp
  with_reducible repeat' first
    | intro _ | assumption | apply Block.wrB_ok | apply Block.wr_ok

theorem Block.lcKeyWrite_ok (key : Nat) (b : Block) (hOk : b.Ok) : (Block.lcKeyWrite key b).Ok := by
  unfold Block.lcKeyWrite
  try dsimp only
  repeat' first
    | intro _
    | with_reducible first
      | assumption
    | simp only [Block.ok_mk]
    | with_reducible apply Block.ok_of
    | split

theorem Block.lcAdvance_ok (target : Nat) (b : Block) (hOk : b.Ok) : (Block.lcAdvance target b).Ok := by
  unfold Block.lcAdvance
  try dsimp only
  repeat' first
    | intro _
    | with_reducible first
      | assumption | apply Block.wr_ok
    | simp only [Block.ok_mk]
    | with_reducible apply Block.ok_of
    | split

theorem Block.cutAdvance_ok (b : Block) (hOk : b.Ok) : (Block.cutAdvance b).Ok := by
  unfold Block.cutAdvance
  try dsimp only
  repeat' first
    | intro _
    | with_reducible first
      | assumption | apply Block.programOtp_ok | apply Block.draw_ok
    | simp only [Block.ok_mk]
    | with_reducible apply Block.ok_of
    | split

theorem Block.lcAdvanceDone_ok (b : Block) (hOk : b.Ok) : (Block.lcAdvanceDone b).Ok := by
  unfold Block.lcAdvanceDone
  try dsimp only
  repeat' first
    | intro _
    | with_reducible first
      | assumption | apply Block.programOtp_ok | apply Block.wr_ok
    | simp only [Block.ok_mk]
    | with_reducible apply Block.ok_of
    | split

theorem Block.setKey_ok (n : Nat) (key : List Byte) (b : Block) (hOk : b.Ok) : (Block.setKey n key b).Ok := by
  unfold Block.setKey
  try dsimp only
  repeat' first
    | intro _
    | with_reducible first
      | assumption | apply Block.showSlots_ok | apply Block.radioKeyTouched_ok | apply Block.wr_ok
    | simp only [Block.ok_mk]
    | with_reducible apply Block.ok_of
    | split

theorem Block.showPending_ok (b : Block) (hOk : b.Ok) : (Block.showPending b).Ok := by
  unfold Block.showPending
  with_reducible repeat' first
    | intro _ | assumption | apply Block.wrB_ok

theorem Block.deliverKey_ok (n : Nat) (key : List Byte) (b : Block) (hOk : b.Ok) : (Block.deliverKey n key b).Ok := by
  unfold Block.deliverKey
  try dsimp only
  repeat' first
    | intro _
    | with_reducible first
      | assumption | apply Block.showSlots_ok | apply Block.setKey_ok | apply Block.showPending_ok
      | apply Block.wr_ok
    | simp only [Block.ok_mk]
    | with_reducible apply Block.ok_of
    | split

theorem Block.installPending_ok (n : Nat) (b : Block) (hOk : b.Ok) : (Block.installPending n b).Ok := by
  unfold Block.installPending
  try dsimp only
  repeat' first
    | intro _
    | with_reducible first
      | assumption | apply Block.setKey_ok | apply Block.showPending_ok | apply Block.wr_ok | apply Block.ok_of
    | split

theorem Block.takeKey_ok (n : Nat) (b : Block) (hOk : b.Ok) : (Block.takeKey n b).1.Ok := by
  unfold Block.takeKey
  with_reducible repeat' first
    | intro _ | assumption | apply Block.installPending_ok

theorem Block.keyOpStart_ok (code n : Nat) (b : Block) (hOk : b.Ok) : (Block.keyOpStart code n b).Ok := by
  unfold Block.keyOpStart
  try dsimp only
  repeat' first
    | intro _
    | with_reducible first
      | assumption | apply Block.err_ok | apply Block.wr_ok
    | simp only [Block.ok_mk]
    | with_reducible apply Block.ok_of
    | split

theorem Block.wrapBlob_ok (n blob : Nat) (b : Block) (hOk : b.Ok) : (Block.wrapBlob n blob b).Ok := by
  unfold Block.wrapBlob
  try dsimp only
  repeat' first
    | intro _
    | with_reducible first
      | assumption | apply Block.store_ok | apply Block.takeKey_ok | apply Block.draw_ok | apply Block.wr_ok
    | simp only [Block.ok_mk]
    | with_reducible first
      | apply Block.ok_of | apply Block.ok_ite | apply Block.ok_ite_fst | apply Block.ok_ite_snd
      | refine Block.ok_fst (by assumption) ?_ | refine Block.ok_snd (by assumption) ?_
    | split

theorem Block.unwrapBlob_ok (n blob : Nat) (b : Block) (hOk : b.Ok) : (Block.unwrapBlob n blob b).Ok := by
  unfold Block.unwrapBlob
  try dsimp only
  repeat' first
    | intro _
    | with_reducible first
      | assumption | apply Block.fetch_ok | apply Block.deliverKey_ok | apply Block.wr_ok
    | simp only [Block.ok_mk]
    | with_reducible first
      | apply Block.ok_of | apply Block.ok_ite | apply Block.ok_ite_fst | apply Block.ok_ite_snd
      | refine Block.ok_fst (by assumption) ?_ | refine Block.ok_snd (by assumption) ?_
    | split

theorem Block.progOtp_ok (n : Nat) (data : List Byte) (b : Block) (hOk : b.Ok) : (Block.progOtp n data b).Ok := by
  unfold Block.progOtp
  with_reducible repeat' first
    | intro _ | assumption | apply Block.programOtp_ok | apply Block.showOtp_ok | apply Block.setKey_ok
    | apply Block.cond_ok | apply Block.wr_ok

theorem Block.keyOpEnd_ok (b : Block) (hOk : b.Ok) : (Block.keyOpEnd b).Ok := by
  unfold Block.keyOpEnd
  try dsimp only
  repeat' first
    | intro _
    | with_reducible first
      | assumption | apply Block.zeroSlot_ok | apply Block.showPending_ok | apply Block.deliverKey_ok
      | apply Block.wrapBlob_ok | apply Block.unwrapBlob_ok | apply Block.progOtp_ok | apply Block.cond_ok
      | apply Block.each_ok | apply Block.wr_ok
    | simp only [Block.ok_mk]
    | with_reducible apply Block.ok_of
    | split

theorem Block.jobFinish_ok (res : Nat) (b : Block) (hOk : b.Ok) : (Block.jobFinish res b).Ok := by
  unfold Block.jobFinish
  try dsimp only
  repeat' first
    | intro _
    | with_reducible first
      | assumption | apply Block.irq_ok | apply Block.showPending_ok | apply Block.wr_ok
    | simp only [Block.ok_mk]
    | with_reducible apply Block.ok_of
    | split

theorem Block.jobStart_ok (op : Nat) (b : Block) (hOk : b.Ok) : (Block.jobStart op b).Ok := by
  unfold Block.jobStart
  try dsimp only
  repeat' first
    | intro _
    | with_reducible first
      | assumption | apply Block.err_ok | apply Block.takeKey_ok | apply Block.jobFinish_ok | apply Block.wr_ok
    | simp only [Block.ok_mk]
    | with_reducible apply Block.ok_of
    | split

theorem Block.jobRow_ok (op : Nat) (b : Block) (hOk : b.Ok) : (Block.jobRow op b).Ok := by
  unfold Block.jobRow
  with_reducible repeat' first
    | intro _ | assumption | apply Block.jobStart_ok | apply Block.wr_ok

theorem Block.jobZero_ok (j : Job) (b : Block) (hOk : b.Ok) : (Block.jobZero j b).Ok := by
  unfold Block.jobZero
  with_reducible repeat' first
    | intro _ | assumption | apply Block.store_ok | apply Block.cond_ok

theorem Block.jobFail_ok (j : Job) (res : Nat) (b : Block) (hOk : b.Ok) : (Block.jobFail j res b).Ok := by
  unfold Block.jobFail
  with_reducible repeat' first
    | intro _ | assumption | apply Block.jobFinish_ok | apply Block.jobZero_ok

theorem Block.jobInputs_ok (j : Job) (b : Block) (hOk : b.Ok) : (Block.jobInputs j b).1.Ok := by
  unfold Block.jobInputs
  try dsimp only
  repeat' first
    | intro _
    | with_reducible first
      | assumption | apply Block.fetch_ok
    | simp only [Block.ok_mk]
    | with_reducible first
      | apply Block.ok_of | apply Block.ok_ite | apply Block.ok_ite_fst | apply Block.ok_ite_snd
      | refine Block.ok_fst (by assumption) ?_ | refine Block.ok_snd (by assumption) ?_
    | split

theorem Block.jobEnd_ok (done : Nat) (b : Block) (hOk : b.Ok) : (Block.jobEnd done b).Ok := by
  unfold Block.jobEnd
  try dsimp only
  repeat' first
    | intro _
    | with_reducible first
      | assumption | apply Block.store_ok | apply Block.jobFinish_ok | apply Block.jobFail_ok
      | apply Block.jobInputs_ok
    | simp only [Block.ok_mk]
    | with_reducible first
      | apply Block.ok_of | apply Block.ok_ite | apply Block.ok_ite_fst | apply Block.ok_ite_snd
      | refine Block.ok_fst (by assumption) ?_ | refine Block.ok_snd (by assumption) ?_
    | split

theorem Block.jobAbort_ok (late : Bool) (b : Block) (hOk : b.Ok) : (Block.jobAbort late b).Ok := by
  unfold Block.jobAbort
  try dsimp only
  repeat' first
    | intro _
    | with_reducible first
      | assumption
    | simp only [Block.ok_mk]
    | with_reducible apply Block.ok_of
    | split

theorem Block.trngRead_ok (b : Block) (hOk : b.Ok) : (Block.trngRead b).Ok := by
  unfold Block.trngRead
  try dsimp only
  repeat' first
    | intro _
    | with_reducible first
      | assumption | apply Block.answer_ok | apply Block.draw_ok | apply Block.ok_of
    | split

theorem Block.tapReset_ok (b : Block) (hOk : b.Ok) : (Block.tapReset b).Ok := by
  unfold Block.tapReset
  try dsimp only
  repeat' first
    | intro _
    | with_reducible first
      | assumption
    | simp only [Block.ok_mk]
    | with_reducible apply Block.ok_of
    | split

theorem Block.setIr_ok (n : Nat) (b : Block) (hOk : b.Ok) : (Block.setIr n b).Ok := by
  unfold Block.setIr
  try dsimp only
  repeat' first
    | intro _
    | with_reducible first
      | assumption
    | simp only [Block.ok_mk]
    | with_reducible apply Block.ok_of
    | split

theorem Block.bypassScan_ok (tdi : List Bool) (b : Block) (hOk : b.Ok) : (Block.bypassScan tdi b).Ok := by
  unfold Block.bypassScan
  try dsimp only
  repeat' first
    | intro _
    | with_reducible first
      | assumption | apply Block.answerBytes_ok
    | simp only [Block.ok_mk]
    | with_reducible apply Block.ok_of
    | split

theorem Block.chalStat_ok (n : Nat) (b : Block) (hOk : b.Ok) : (Block.chalStat n b).Ok := by
  unfold Block.chalStat
  with_reducible repeat' first
    | intro _ | assumption | apply Block.wr_ok

theorem Block.chalNonce_ok (b : Block) (hOk : b.Ok) : (Block.chalNonce b).Ok := by
  unfold Block.chalNonce
  try dsimp only
  repeat' first
    | intro _
    | with_reducible first
      | assumption | apply Block.answerBytes_ok | apply Block.answerErr_ok | apply Block.setIr_ok
      | apply Block.chalStat_ok | apply Block.draw_ok
    | simp only [Block.ok_mk]
    | with_reducible apply Block.ok_of
    | split

theorem Block.chalFail_ok (b : Block) (hOk : b.Ok) : (Block.chalFail b).Ok := by
  unfold Block.chalFail
  try dsimp only
  repeat' first
    | intro _
    | with_reducible first
      | assumption | apply Block.chalStat_ok | apply Block.wr_ok
    | simp only [Block.ok_mk]
    | with_reducible apply Block.ok_of
    | split

theorem Block.chalSignature_ok (full : Bool) (minutes : Nat) (sig : List Byte) (b : Block) (hOk : b.Ok) :
  (Block.chalSignature full minutes sig b).Ok := by
  unfold Block.chalSignature
  try dsimp only
  repeat' first
    | intro _
    | with_reducible first
      | assumption | apply Block.relevel_ok | apply Block.setIr_ok | apply Block.chalStat_ok
      | apply Block.chalFail_ok | apply Block.wr_ok
    | simp only [Block.ok_mk]
    | with_reducible apply Block.ok_of
    | split

theorem Block.dbgReq_ok (v : Nat) (b : Block) (hOk : b.Ok) : (Block.dbgReq v b).Ok := by
  unfold Block.dbgReq
  try dsimp only
  repeat' first
    | intro _
    | with_reducible first
      | assumption | apply Block.relevel_ok | apply Block.wr_ok | apply Block.ok_of
    | split

theorem Block.haltMain_ok (b : Block) (hOk : b.Ok) : (Block.haltMain b).Ok := by
  unfold Block.haltMain
  with_reducible repeat' first
    | intro _ | assumption | apply Block.mbxSweep_ok | apply Block.pwmForce_ok | apply Block.imposeMan_ok
    | apply Block.each_ok | apply Block.wr_ok

theorem Block.dhalt_ok (agent : Nat) (halt : Bool) (brk : Option Word) (b : Block) (hOk : b.Ok) : (Block.dhalt agent
  halt brk b).Ok := by
  unfold Block.dhalt
  try dsimp only
  repeat' first
    | intro _
    | with_reducible first
      | assumption | apply Block.wrB_ok | apply Block.mbxSweep_ok | apply Block.setIr_ok | apply Block.haltMain_ok
      | apply Block.wr_ok
    | simp only [Block.ok_mk]
    | with_reducible apply Block.ok_of
    | split

theorem Block.showDelays_ok (b : Block) (hOk : b.Ok) : (Block.showDelays b).Ok := by
  unfold Block.showDelays
  with_reducible repeat' first
    | intro _ | assumption | apply Block.cond_ok | apply Block.each_ok | apply Block.wr_ok

theorem Block.calLoad_ok (b : Block) (hOk : b.Ok) : (Block.calLoad b).Ok := by
  unfold Block.calLoad
  try dsimp only
  repeat' first
    | intro _
    | with_reducible first
      | assumption | apply Block.wrB_ok | apply Block.verdict_ok | apply Block.err_ok | apply Block.imposeMan_ok
      | apply Block.showDelays_ok | apply Block.cond_ok | apply Block.each_ok | apply Block.wr_ok
    | simp only [Block.ok_mk]
    | with_reducible apply Block.ok_of
    | split

theorem Block.calCutCheck_ok (b : Block) (hOk : b.Ok) : (Block.calCutCheck b).Ok := by
  unfold Block.calCutCheck
  try dsimp only
  repeat' first
    | intro _
    | with_reducible first
      | assumption | apply Block.verdict_ok | apply Block.err_ok
    | simp only [Block.ok_mk]
    | with_reducible apply Block.ok_of
    | split

theorem Block.calStart_ok (b : Block) (hOk : b.Ok) : (Block.calStart b).Ok := by
  unfold Block.calStart
  try dsimp only
  repeat' first
    | intro _
    | with_reducible first
      | assumption | apply Block.err_ok | apply Block.flashServe_ok | apply Block.fetch_ok | apply Block.wr_ok
    | simp only [Block.ok_mk]
    | with_reducible first
      | apply Block.ok_of | apply Block.ok_ite | apply Block.ok_ite_fst | apply Block.ok_ite_snd
      | refine Block.ok_fst (by assumption) ?_ | refine Block.ok_snd (by assumption) ?_
    | split

theorem Block.calEnd_ok (ok : Bool) (b : Block) (hOk : b.Ok) : (Block.calEnd ok b).Ok := by
  unfold Block.calEnd
  try dsimp only
  repeat' first
    | intro _
    | with_reducible first
      | assumption | apply Block.irq_ok | apply Block.sysEvent_ok | apply Block.err_ok | apply Block.flashFree_ok
      | apply Block.eraseFlash_ok | apply Block.programFlash_ok | apply Block.scramble_ok | apply Block.wr_ok
    | simp only [Block.ok_mk]
    | with_reducible apply Block.ok_of
    | split

theorem Block.flashStart_ok (op : Nat) (b : Block) (hOk : b.Ok) : (Block.flashStart op b).Ok := by
  unfold Block.flashStart
  try dsimp only
  repeat' first
    | intro _
    | with_reducible first
      | assumption | apply Block.irq_ok | apply Block.err_ok | apply Block.flashServe_ok | apply Block.wr_ok
    | simp only [Block.ok_mk]
    | with_reducible apply Block.ok_of
    | split

theorem Block.flashRow_ok (op : Nat) (b : Block) (hOk : b.Ok) : (Block.flashRow op b).Ok := by
  unfold Block.flashRow
  with_reducible repeat' first
    | intro _ | assumption | apply Block.flashStart_ok | apply Block.wr_ok

theorem Block.flashDone_ok (res : Nat) (b : Block) (hOk : b.Ok) : (Block.flashDone res b).Ok := by
  unfold Block.flashDone
  try dsimp only
  repeat' first
    | intro _
    | with_reducible first
      | assumption | apply Block.irq_ok | apply Block.wr_ok
    | simp only [Block.ok_mk]
    | with_reducible apply Block.ok_of
    | split

theorem Block.partProgram_ok (a : Nat) (bs : List Byte) (b : Block) (hOk : b.Ok) : (Block.partProgram a bs b).Ok := by
  unfold Block.partProgram
  with_reducible repeat' first
    | intro _ | assumption | apply Block.draw_ok | apply Block.each_ok | apply Block.setByte_ok

theorem Block.flashWork_ok (o : FlashOp) (ok : Bool) (b : Block) (hOk : b.Ok) : (Block.flashWork o ok b).1.Ok := by
  unfold Block.flashWork
  try dsimp only
  repeat' first
    | intro _
    | with_reducible first
      | assumption | apply Block.fetch_ok | apply Block.partProgram_ok | apply Block.eraseFlash_ok
      | apply Block.programFlash_ok
    | simp only [Block.ok_mk]
    | with_reducible first
      | apply Block.ok_of | apply Block.ok_ite | apply Block.ok_ite_fst | apply Block.ok_ite_snd
      | refine Block.ok_fst (by assumption) ?_ | refine Block.ok_snd (by assumption) ?_
    | split

theorem Block.flashEnd_ok (ok : Bool) (b : Block) (hOk : b.Ok) : (Block.flashEnd ok b).Ok := by
  unfold Block.flashEnd
  try dsimp only
  repeat' first
    | intro _
    | with_reducible first
      | assumption | apply Block.err_ok | apply Block.flashFree_ok | apply Block.flashDone_ok
      | apply Block.flashWork_ok | apply Block.cond_ok
    | simp only [Block.ok_mk]
    | with_reducible apply Block.ok_of
    | split

theorem Block.flashStop_ok (o : FlashOp) (b : Block) (hOk : b.Ok) : (Block.flashStop o b).Ok := by
  unfold Block.flashStop
  try dsimp only
  repeat' first
    | intro _
    | with_reducible first
      | assumption | apply Block.readRange_ok | apply Block.partProgram_ok | apply Block.scramble_ok
      | apply Block.ok_of
    | split

theorem Block.flashAbort_ok (b : Block) (hOk : b.Ok) : (Block.flashAbort b).Ok := by
  unfold Block.flashAbort
  try dsimp only
  repeat' first
    | intro _
    | with_reducible first
      | assumption | apply Block.flashFree_ok | apply Block.flashDone_ok | apply Block.flashStop_ok
      | apply Block.ok_of
    | split

theorem Block.flashCut_ok (b : Block) (hOk : b.Ok) : (Block.flashCut b).Ok := by
  unfold Block.flashCut
  try dsimp only
  repeat' first
    | intro _
    | with_reducible first
      | assumption | apply Block.flashStop_ok | apply Block.cond_ok | apply Block.scramble_ok
    | simp only [Block.ok_mk]
    | with_reducible apply Block.ok_of
    | split

theorem Block.setRadio_ok (f : Radio → Radio) (b : Block) (hOk : b.Ok) : (Block.setRadio f b).Ok := by
  unfold Block.setRadio
  try dsimp only
  repeat' first
    | intro _
    | with_reducible first
      | assumption
    | simp only [Block.ok_mk]
    | with_reducible apply Block.ok_of
    | split

theorem Block.dozeOn_ok (aon : Nat) (b : Block) (hOk : b.Ok) : (Block.dozeOn aon b).Ok := by
  unfold Block.dozeOn
  with_reducible repeat' first
    | intro _ | assumption | apply Block.doze_ok | apply Block.showDomains_ok | apply Block.cond_ok

theorem Block.radioReset_ok (b : Block) (hOk : b.Ok) : (Block.radioReset b).Ok := by
  unfold Block.radioReset
  with_reducible repeat' first
    | intro _ | assumption | apply Block.setRadio_ok

theorem Block.wrRam_ok (a : Nat) (bs : List Byte) (b : Block) (hOk : b.Ok) : (b.wrRam a bs).Ok :=
  ⟨hOk.1, hOk.2.1, hOk.2.2.1, hOk.2.2.2.1, Store.wf_foldl _ _ _ _ hOk.2.2.2.2.1, hOk.2.2.2.2.2⟩

theorem Block.holdHeader_ok (map : Nat) (b : Block) (hOk : b.Ok) : (Block.holdHeader map b).Ok := by
  unfold Block.holdHeader
  with_reducible repeat' first
    | intro _ | assumption | apply Block.wrRam_ok

theorem Block.showRadioRx_ok (b : Block) (hOk : b.Ok) : (Block.showRadioRx b).Ok := by
  unfold Block.showRadioRx
  with_reducible repeat' first
    | intro _ | assumption | apply Block.wrB_ok | apply Block.each_ok | apply Block.wr_ok

theorem Block.dropFormat_ok (b : Block) (hOk : b.Ok) : (Block.dropFormat b).Ok := by
  unfold Block.dropFormat
  with_reducible repeat' first
    | intro _ | assumption | apply Block.inc_ok | apply Block.irq_ok

theorem Block.countFrame_ok (good : Bool) (b : Block) (hOk : b.Ok) : (Block.countFrame good b).Ok := by
  unfold Block.countFrame
  with_reducible repeat' first
    | intro _ | assumption | apply Block.inc_ok | apply Block.askPlain_ok | apply Block.setRadio_ok
    | apply Block.cond_ok

theorem Block.radsecOpen_ok (psdu : List Byte) (b : Block) (hOk : b.Ok) : (Block.radsecOpen psdu b).1.Ok := by
  unfold Block.radsecOpen
  try dsimp only
  repeat' first
    | intro _
    | with_reducible first
      | assumption | apply Block.inc_ok | apply Block.err_ok | apply Block.takeKey_ok | apply Block.setRadio_ok
      | apply Block.cond_ok
    | simp only [Block.ok_mk]
    | with_reducible first
      | apply Block.ok_of | apply Block.ok_ite | apply Block.ok_ite_fst | apply Block.ok_ite_snd
      | refine Block.ok_fst (by assumption) ?_ | refine Block.ok_snd (by assumption) ?_
    | split

theorem Block.storeCounter_ok (src fc : Nat) (b : Block) (hOk : b.Ok) : (Block.storeCounter src fc b).Ok := by
  unfold Block.storeCounter
  with_reducible repeat' first
    | intro _ | assumption | apply Block.setRadio_ok

theorem Block.radioReceive_ok (modeSwitch fcs2 : Bool) (raw : List Byte) (rssi sfd : Nat) (b : Block) (hOk : b.Ok) :
  (Block.radioReceive modeSwitch fcs2 raw rssi sfd b).Ok := by
  unfold Block.radioReceive
  try dsimp only
  repeat' first
    | intro _
    | with_reducible first
      | assumption | apply Block.inc_ok | apply Block.irq_ok | apply Block.answerBytes_ok | apply Block.setRadio_ok
      | apply Block.showRadioRx_ok | apply Block.dropFormat_ok | apply Block.countFrame_ok
      | apply Block.radsecOpen_ok | apply Block.storeCounter_ok | apply Block.cond_ok
    | simp only [Block.ok_mk]
    | with_reducible first
      | apply Block.ok_of | apply Block.ok_ite | apply Block.ok_ite_fst | apply Block.ok_ite_snd
      | refine Block.ok_fst (by assumption) ?_ | refine Block.ok_snd (by assumption) ?_
    | split

theorem Block.rxPop_ok (b : Block) (hOk : b.Ok) : (Block.rxPop b).Ok := by
  unfold Block.rxPop
  try dsimp only
  repeat' first
    | intro _
    | with_reducible first
      | assumption | apply Block.setRadio_ok | apply Block.showRadioRx_ok | apply Block.wr_ok | apply Block.ok_of
    | split

theorem Block.handled_ok (b : Block) (hOk : b.Ok) : (Block.handled b).Ok := by
  unfold Block.handled
  with_reducible repeat' first
    | intro _ | assumption | apply Block.setRadio_ok

theorem Block.txFinish_ok (res : Nat) (b : Block) (hOk : b.Ok) : (Block.txFinish res b).Ok := by
  unfold Block.txFinish
  with_reducible repeat' first
    | intro _ | assumption | apply Block.irq_ok | apply Block.setRadio_ok | apply Block.wr_ok

theorem Block.queueItem_ok (tag ptr : Nat) (bs : List Byte) (b : Block) (hOk : b.Ok) : (Block.queueItem tag ptr bs
  b).1.Ok := by
  unfold Block.queueItem
  try dsimp only
  repeat' first
    | intro _
    | with_reducible first
      | assumption | apply Block.inc_ok | apply Block.irq_ok | apply Block.store_ok | apply Block.setRadio_ok
    | simp only [Block.ok_mk]
    | with_reducible first
      | apply Block.ok_of | apply Block.ok_ite | apply Block.ok_ite_fst | apply Block.ok_ite_snd
      | refine Block.ok_fst (by assumption) ?_ | refine Block.ok_snd (by assumption) ?_
    | split

theorem Block.itemPump_ok (b : Block) (hOk : b.Ok) : (Block.itemPump b).Ok := by
  unfold Block.itemPump
  try dsimp only
  repeat' first
    | intro _
    | with_reducible first
      | assumption | apply Block.mbxPost_ok | apply Block.setRadio_ok | apply Block.ok_of
    | split

theorem Block.txReport_ok (kind mseq res buf : Nat) (b : Block) (hOk : b.Ok) : (Block.txReport kind mseq res buf b).Ok
  := by
  unfold Block.txReport
  with_reducible repeat' first
    | intro _ | assumption | apply Block.queueItem_ok | apply Block.itemPump_ok | apply Block.cond_ok

theorem Block.txFrame_ok (psdu : List Byte) (idx buf : Nat) (b : Block) (hOk : b.Ok) : (Block.txFrame psdu idx buf
  b).Ok := by
  unfold Block.txFrame
  try dsimp only
  repeat' first
    | intro _
    | with_reducible first
      | assumption | apply Block.verdict_ok | apply Block.answerBytes_ok | apply Block.takeKey_ok
      | apply Block.setRadio_ok | apply Block.txFinish_ok | apply Block.txReport_ok | apply Block.wr_ok
    | simp only [Block.ok_mk]
    | with_reducible first
      | apply Block.ok_of | apply Block.ok_ite | apply Block.ok_ite_fst | apply Block.ok_ite_snd
      | refine Block.ok_fst (by assumption) ?_ | refine Block.ok_snd (by assumption) ?_
    | split

theorem Block.txGo_ok (buf : Nat) (b : Block) (hOk : b.Ok) : (Block.txGo buf b).Ok := by
  unfold Block.txGo
  try dsimp only
  repeat' first
    | intro _
    | with_reducible first
      | assumption | apply Block.txFrame_ok | apply Block.ok_of
    | split

theorem Block.txBuilt_ok (psdu : List Byte) (idx buf : Nat) (b : Block) (hOk : b.Ok) : (Block.txBuilt psdu idx buf
  b).Ok := by
  unfold Block.txBuilt
  with_reducible repeat' first
    | intro _ | assumption | apply Block.txGo_ok | apply Block.each_ok | apply Block.wr_ok

theorem Block.txWaiting_ok (b : Block) (hOk : b.Ok) : (Block.txWaiting b).Ok := by
  unfold Block.txWaiting
  try dsimp only
  repeat' first
    | intro _
    | with_reducible first
      | assumption | apply Block.setRadio_ok | apply Block.txBuilt_ok | apply Block.ok_of
    | split

theorem Block.txEnd_ok (res buf : Nat) (b : Block) (hOk : b.Ok) : (Block.txEnd res buf b).Ok := by
  unfold Block.txEnd
  try dsimp only
  repeat' first
    | intro _
    | with_reducible first
      | assumption | apply Block.installPending_ok | apply Block.txFinish_ok | apply Block.txReport_ok
      | apply Block.ok_of
    | split

theorem Block.txDone_ok (busy buf : Nat) (b : Block) (hOk : b.Ok) : (Block.txDone busy buf b).Ok := by
  unfold Block.txDone
  with_reducible repeat' first
    | intro _ | assumption | apply Block.txEnd_ok

theorem Block.ackTimeout_ok (buf : Nat) (b : Block) (hOk : b.Ok) : (Block.ackTimeout buf b).Ok := by
  unfold Block.ackTimeout
  try dsimp only
  repeat' first
    | intro _
    | with_reducible first
      | assumption | apply Block.setRadio_ok | apply Block.txEnd_ok | apply Block.ok_of
    | split

theorem Block.onCorr_ok (buf : Nat) (b : Block) (hOk : b.Ok) : (Block.onCorr buf b).Ok := by
  unfold Block.onCorr
  try dsimp only
  repeat' first
    | intro _
    | with_reducible first
      | assumption | apply Block.store_ok | apply Block.mbxPost_ok | apply Block.setRadio_ok | apply Block.handled_ok
    | simp only [Block.ok_mk]
    | with_reducible first
      | apply Block.ok_of | apply Block.ok_ite | apply Block.ok_ite_fst | apply Block.ok_ite_snd
      | refine Block.ok_fst (by assumption) ?_ | refine Block.ok_snd (by assumption) ?_
    | split

theorem Block.setWanted_ok (i : Nat) (v : Bool) (b : Block) (hOk : b.Ok) : (Block.setWanted i v b).Ok := by
  unfold Block.setWanted
  with_reducible repeat' first
    | intro _ | assumption | apply Block.setRadio_ok

theorem Block.holdBatt_ok (i : Nat) (batt : List Byte) (b : Block) (hOk : b.Ok) : (Block.holdBatt i batt b).1.Ok := by
  unfold Block.holdBatt
  try dsimp only
  repeat' first
    | intro _
    | with_reducible first
      | assumption | apply Block.setRadio_ok | apply Block.wrRam_ok | apply Block.holdHeader_ok
      | apply Block.setWanted_ok | apply Block.ok_of
    | split

theorem Block.onBatt_ok (buf : Nat) (b : Block) (hOk : b.Ok) : (Block.onBatt buf b).Ok := by
  unfold Block.onBatt
  try dsimp only
  repeat' first
    | intro _
    | with_reducible first
      | assumption | apply Block.setRadio_ok | apply Block.handled_ok | apply Block.queueItem_ok
      | apply Block.itemPump_ok | apply Block.setWanted_ok | apply Block.holdBatt_ok
    | simp only [Block.ok_mk]
    | with_reducible first
      | apply Block.ok_of | apply Block.ok_ite | apply Block.ok_ite_fst | apply Block.ok_ite_snd
      | refine Block.ok_fst (by assumption) ?_ | refine Block.ok_snd (by assumption) ?_
    | split

theorem Block.battTimeout_ok (i : Nat) (b : Block) (hOk : b.Ok) : (Block.battTimeout i b).Ok := by
  unfold Block.battTimeout
  with_reducible repeat' first
    | intro _ | assumption | apply Block.setRadio_ok

theorem Block.onSched_ok (buf : Nat) (b : Block) (hOk : b.Ok) : (Block.onSched buf b).Ok := by
  unfold Block.onSched
  try dsimp only
  repeat' first
    | intro _
    | with_reducible first
      | assumption | apply Block.setRadio_ok | apply Block.handled_ok | apply Block.queueItem_ok
      | apply Block.itemPump_ok | apply Block.ok_of
    | split

theorem Block.schedStart_ok (k : Nat) (b : Block) (hOk : b.Ok) : (Block.schedStart k b).Ok := by
  unfold Block.schedStart
  try dsimp only
  repeat' first
    | intro _
    | with_reducible first
      | assumption | apply Block.showDomains_ok | apply Block.setRadio_ok | apply Block.ok_of
    | split

theorem Block.sendUni_ok (dest link : List Byte) (buf : Nat) (b : Block) (hOk : b.Ok) : (Block.sendUni dest link buf
  b).Ok := by
  unfold Block.sendUni
  with_reducible repeat' first
    | intro _ | assumption | apply Block.setRadio_ok | apply Block.txBuilt_ok

theorem Block.msgNotice_ok (buf : Nat) (b : Block) (hOk : b.Ok) : (Block.msgNotice buf b).Ok := by
  unfold Block.msgNotice
  try dsimp only
  repeat' first
    | intro _
    | with_reducible first
      | assumption | apply Block.fetch_ok | apply Block.hold_ok | apply Block.sendUni_ok | apply Block.cond_ok
    | simp only [Block.ok_mk]
    | with_reducible first
      | apply Block.ok_of | apply Block.ok_ite | apply Block.ok_ite_fst | apply Block.ok_ite_snd
      | refine Block.ok_fst (by assumption) ?_ | refine Block.ok_snd (by assumption) ?_
    | split

theorem Block.onMsg_ok (buf : Nat) (b : Block) (hOk : b.Ok) : (Block.onMsg buf b).Ok := by
  unfold Block.onMsg
  try dsimp only
  repeat' first
    | intro _
    | with_reducible first
      | assumption | apply Block.setRadio_ok | apply Block.handled_ok | apply Block.queueItem_ok
      | apply Block.itemPump_ok | apply Block.msgNotice_ok | apply Block.ok_of
    | split

theorem Block.bcnPost_ok (b : Block) (hOk : b.Ok) : (Block.bcnPost b).Ok := by
  unfold Block.bcnPost
  with_reducible repeat' first
    | intro _ | assumption | apply Block.timeSample_ok

theorem Block.onTime_ok (b : Block) (hOk : b.Ok) : (Block.onTime b).Ok := by
  unfold Block.onTime
  try dsimp only
  repeat' first
    | intro _
    | with_reducible first
      | assumption | apply Block.setRadio_ok | apply Block.handled_ok | apply Block.bcnPost_ok | apply Block.wr_ok
    | simp only [Block.ok_mk]
    | with_reducible apply Block.ok_of
    | split

theorem Block.wantedNotice_ok (b : Block) (hOk : b.Ok) : (Block.wantedNotice b).Ok := by
  unfold Block.wantedNotice
  try dsimp only
  repeat' first
    | intro _
    | with_reducible first
      | assumption | apply Block.fetch_ok | apply Block.hold_ok | apply Block.setRadio_ok
    | simp only [Block.ok_mk]
    | with_reducible first
      | apply Block.ok_of | apply Block.ok_ite | apply Block.ok_ite_fst | apply Block.ok_ite_snd
      | refine Block.ok_fst (by assumption) ?_ | refine Block.ok_snd (by assumption) ?_
    | split

theorem Block.sendNeed_ok (dark : Bool) (b : Block) (hOk : b.Ok) : (Block.sendNeed dark b).Ok := by
  unfold Block.sendNeed
  try dsimp only
  repeat' first
    | intro _
    | with_reducible first
      | assumption | apply Block.setRadio_ok | apply Block.sendUni_ok | apply Block.ok_of
    | split

theorem Block.need_ok (b : Block) (hOk : b.Ok) : (Block.need b).Ok := by
  unfold Block.need
  with_reducible repeat' first
    | intro _ | assumption | apply Block.sendNeed_ok | apply Block.cond_ok

theorem Block.beaconWindow_ok (b : Block) (hOk : b.Ok) : (Block.beaconWindow b).Ok := by
  unfold Block.beaconWindow
  try dsimp only
  repeat' first
    | intro _
    | with_reducible first
      | assumption | apply Block.showDomains_ok | apply Block.setRadio_ok | apply Block.ok_of
    | split

theorem Block.listenEnd_ok (b : Block) (hOk : b.Ok) : (Block.listenEnd b).Ok := by
  unfold Block.listenEnd
  try dsimp only
  repeat' first
    | intro _
    | with_reducible first
      | assumption | apply Block.showDomains_ok | apply Block.setRadio_ok | apply Block.sendNeed_ok
      | apply Block.cond_ok | apply Block.ok_of
    | split

theorem Block.holdReplay_ok (buf : Nat) (b : Block) (hOk : b.Ok) : (Block.holdReplay buf b).Ok := by
  unfold Block.holdReplay
  try dsimp only
  repeat' first
    | intro _
    | with_reducible first
      | assumption | apply Block.store_ok | apply Block.mbxPost_ok | apply Block.wrRam_ok
    | simp only [Block.ok_mk]
    | with_reducible first
      | apply Block.ok_of | apply Block.ok_ite | apply Block.ok_ite_fst | apply Block.ok_ite_snd
      | refine Block.ok_fst (by assumption) ?_ | refine Block.ok_snd (by assumption) ?_
    | split

theorem Block.radioPool_ok (b : Block) (hOk : b.Ok) : (Block.radioPool b).Ok := by
  unfold Block.radioPool
  try dsimp only
  repeat' first
    | intro _
    | with_reducible first
      | assumption | apply Block.verdict_ok | apply Block.setRadio_ok | apply Block.itemPump_ok
      | apply Block.txWaiting_ok | apply Block.ok_of
    | split

theorem Block.dropJobs_ok (b : Block) (hOk : b.Ok) : (Block.dropJobs b).Ok := by
  unfold Block.dropJobs
  try dsimp only
  repeat' first
    | intro _
    | with_reducible first
      | assumption | apply Block.cutAdvance_ok | apply Block.installPending_ok | apply Block.each_ok
    | simp only [Block.ok_mk]
    | with_reducible apply Block.ok_of
    | split

theorem Block.drain_ok (b : Block) (hOk : b.Ok) : (Block.drain b).Ok := by
  unfold Block.drain
  with_reducible repeat' first
    | intro _ | assumption | apply Block.recordWrite_ok | apply Block.flush_ok | apply Block.cond_ok
    | apply Block.each_ok

theorem Block.startCause_ok (f : Fld) (b : Block) (hOk : b.Ok) : (Block.startCause f b).Ok := by
  unfold Block.startCause
  with_reducible repeat' first
    | intro _ | assumption | apply Block.each_ok | apply Block.wr_ok

theorem Block.radioOff_ok (m : Mode) (b : Block) (hOk : b.Ok) : (Block.radioOff m b).Ok := by
  unfold Block.radioOff
  with_reducible repeat' first
    | intro _ | assumption | apply Block.setRadio_ok | apply Block.radioReset_ok | apply Block.cond_ok

theorem Block.descend_ok (m : Mode) (cause : Nat) (b : Block) (hOk : b.Ok) : (b.descend m cause).Ok := by
  unfold Block.descend
  dsimp only
  have h : (((((b.cond b.powered Block.drain).flashCut).radioOff m).dropJobs).enterMode m cause).Ok :=
    Block.enterMode_ok _ _ _ (Block.dropJobs_ok _ (Block.radioOff_ok _ _ (Block.flashCut_ok _ (Block.cond_ok _ _ _ hOk
      fun h => Block.drain_ok _ h))))
  refine Block.clearBanks_ok _ _ (Block.wr_ok _ _ _ ⟨h.1, h.2.1, h.2.2.1, rfl, ?_, rfl⟩)
  split
  · rfl
  · exact h.2.2.2.2.1

theorem Block.closeNow_ok (b : Block) (hOk : b.Ok) : (Block.closeNow b).Ok := by
  unfold Block.closeNow
  try dsimp only
  repeat' first
    | intro _
    | with_reducible first
      | assumption | apply Block.commit_ok | apply Block.each_ok
    | simp only [Block.ok_mk]
    | with_reducible apply Block.ok_of
    | split

theorem Block.collapse_ok (ball : Nat) (b : Block) (hOk : b.Ok) : (Block.collapse ball b).Ok := by
  unfold Block.collapse
  try dsimp only
  repeat' first
    | intro _
    | with_reducible first
      | assumption | apply Block.pwmForce_ok | apply Block.request_ok | apply Block.ckptForce_ok
      | apply Block.drain_ok | apply Block.descend_ok | apply Block.closeNow_ok | apply Block.cond_ok
      | apply Block.wr_ok
    | simp only [Block.ok_mk]
    | with_reducible first
      | apply Block.ok_of | apply Block.ok_ite | apply Block.ok_ite_fst | apply Block.ok_ite_snd
      | refine Block.ok_fst (by assumption) ?_ | refine Block.ok_snd (by assumption) ?_
    | split

theorem Block.powerUp_ok (b : Block) (hOk : b.Ok) : b.powerUp.Ok := by
  unfold Block.powerUp
  dsimp only
  refine Block.enterMode_ok _ _ _ (Block.clearBanks_ok _ _ (Block.startCause_ok _ _ (Block.wr_ok _ _ _ (Block.wr_ok _ _ _
    (Block.wr_ok _ _ _ (Block.wr_ok _ _ _ (Block.wr_ok _ _ _
      ⟨Store.wf_filter _ _ hOk.1, hOk.2.1, hOk.2.2.1, rfl, hOk.2.2.2.2.1, rfl⟩)))))))

theorem Block.mainReset_ok (cause : ResetCause) (b : Block) (hOk : b.Ok) : (Block.mainReset cause b).Ok := by
  unfold Block.mainReset
  try dsimp only
  repeat' first
    | intro _
    | with_reducible first
      | assumption | apply Block.resumeAll_ok | apply Block.endAuth_ok | apply Block.enterMode_ok
      | apply Block.request_ok | apply Block.dropJobs_ok | apply Block.startCause_ok | apply Block.radioOff_ok
      | apply Block.cond_ok | apply Block.wr_ok
    | simp only [Block.ok_mk]
    | with_reducible apply Block.ok_of
    | split

theorem Block.warmUp_ok (b : Block) (hOk : b.Ok) : b.warmUp.Ok := by
  unfold Block.warmUp
  dsimp only
  have h := Block.cond_ok (b.flash.due.contains .head) (Block.eraseFlash stageBase 4096) _
    (show Block.Ok { b.abortAll with flash := { b.flash with due := b.flash.due.filter fun d => [2, 3].contains (Block.dueOwner d) } }
      from Block.abortAll_ok _ hOk) fun h => Block.eraseFlash_ok _ _ _ h
  refine Block.mbxSweep_ok _ (Block.mbxClear_ok _ (Block.flashServe_ok _ (Block.wr_ok _ _ _ (Block.cond_ok _ _ _
    (Block.cond_ok _ _ _ (Block.each_ok _ _ _ ⟨Store.wf_filter _ _ h.1, h.2⟩ fun _ _ h => ?_) ?_) ?_))))
  · exact Block.wr_ok _ _ _ (Block.wr_ok _ _ _ h)
  · exact Block.wr_ok _ _ _
  · exact Block.wr_ok _ _ _

theorem Block.aonLoss_ok (b : Block) (hOk : b.Ok) : b.aonLoss.Ok := by
  unfold Block.aonLoss
  dsimp only
  refine Block.wr_ok _ _ _ (Block.wr_ok _ _ _ (Block.wr_ok _ _ _ (Block.wr_ok _ _ _ (Block.wr_ok _ _ _ (Block.wr_ok _ _ _
    (Block.showSlots_ok _ ⟨hOk.1, hOk.2.1, hOk.2.2.1, hOk.2.2.2.1, rfl, hOk.2.2.2.2.2⟩))))))

theorem Block.setTag_ok (f : TagCtl → TagCtl) (b : Block) (hOk : b.Ok) : (Block.setTag f b).Ok := by
  unfold Block.setTag
  try dsimp only
  repeat' first
    | intro _
    | with_reducible first
      | assumption
    | simp only [Block.ok_mk]
    | with_reducible apply Block.ok_of
    | split

theorem Block.showTag_ok (b : Block) (hOk : b.Ok) : (Block.showTag b).Ok := by
  unfold Block.showTag
  with_reducible repeat' first
    | intro _ | assumption | apply Block.wrB_ok | apply Block.wr_ok

theorem Block.nak_ok (b : Block) (hOk : b.Ok) : (Block.nak b).Ok := by
  unfold Block.nak
  with_reducible repeat' first
    | intro _ | assumption | apply Block.answerBytes_ok

theorem Block.ack_ok (b : Block) (hOk : b.Ok) : (Block.ack b).Ok := by
  unfold Block.ack
  with_reducible repeat' first
    | intro _ | assumption | apply Block.answerBytes_ok

theorem Block.silent_ok (b : Block) (hOk : b.Ok) : (Block.silent b).Ok := by
  unfold Block.silent
  try dsimp only
  repeat' first
    | intro _
    | with_reducible first
      | assumption
    | simp only [Block.ok_mk]
    | with_reducible apply Block.ok_of
    | split

theorem Block.endSession_ok (b : Block) (hOk : b.Ok) : (Block.endSession b).Ok := by
  unfold Block.endSession
  with_reducible repeat' first
    | intro _ | assumption | apply Block.wr_ok

theorem Block.fieldOn_ok (b : Block) (hOk : b.Ok) : (Block.fieldOn b).Ok := by
  unfold Block.fieldOn
  with_reducible repeat' first
    | intro _ | assumption | apply Block.irq_ok | apply Block.showDomains_ok | apply Block.setTag_ok
    | apply Block.showTag_ok | apply Block.endSession_ok

theorem Block.fieldOff_ok (b : Block) (hOk : b.Ok) : (Block.fieldOff b).Ok := by
  unfold Block.fieldOff
  with_reducible repeat' first
    | intro _ | assumption | apply Block.irq_ok | apply Block.showDomains_ok | apply Block.setTag_ok
    | apply Block.showTag_ok | apply Block.endSession_ok

theorem Block.tagFrame_ok (f : Block → Block) (b : Block) (hOk : b.Ok) (hff : ∀ b, Block.Ok b → (f b).Ok) :
  (Block.tagFrame f b).Ok := by
  unfold Block.tagFrame
  try dsimp only
  repeat' first
    | intro _
    | with_reducible first
      | assumption | apply Block.silent_ok | apply hff | apply Block.ok_of
    | split

theorem Block.wake_ok (halted : Bool) (b : Block) (hOk : b.Ok) : (Block.wake halted b).Ok := by
  unfold Block.wake
  try dsimp only
  repeat' first
    | intro _
    | with_reducible first
      | assumption | apply Block.answerBytes_ok | apply Block.setTag_ok | apply Block.showTag_ok
      | apply Block.silent_ok | apply Block.endSession_ok | apply Block.ok_of
    | split

theorem Block.anticollision_ok (second : Bool) (bits value : Nat) (b : Block) (hOk : b.Ok) : (Block.anticollision
  second bits value b).Ok := by
  unfold Block.anticollision
  try dsimp only
  repeat' first
    | intro _
    | with_reducible first
      | assumption | apply Block.answerBytes_ok | apply Block.silent_ok | apply Block.ok_of
    | split

theorem Block.select_ok (second : Bool) (uid : List Byte) (b : Block) (hOk : b.Ok) : (Block.select second uid b).Ok :=
  by
  unfold Block.select
  try dsimp only
  repeat' first
    | intro _
    | with_reducible first
      | assumption | apply Block.answerBytes_ok | apply Block.setTag_ok | apply Block.showTag_ok
      | apply Block.silent_ok | apply Block.ok_of
    | split

theorem Block.hlta_ok (b : Block) (hOk : b.Ok) : (Block.hlta b).Ok := by
  unfold Block.hlta
  try dsimp only
  repeat' first
    | intro _
    | with_reducible first
      | assumption | apply Block.setTag_ok | apply Block.showTag_ok | apply Block.silent_ok
      | apply Block.endSession_ok | apply Block.ok_of
    | split

theorem Block.nfcRead_ok (page : Nat) (b : Block) (hOk : b.Ok) : (Block.nfcRead page b).Ok := by
  unfold Block.nfcRead
  try dsimp only
  repeat' first
    | intro _
    | with_reducible first
      | assumption | apply Block.inc_ok | apply Block.answerBytes_ok | apply Block.nak_ok | apply Block.silent_ok
      | apply Block.ok_of
    | split

theorem Block.commitPage_ok (p : Nat) (data : List Byte) (b : Block) (hOk : b.Ok) : (Block.commitPage p data b).Ok :=
  by
  unfold Block.commitPage
  try dsimp only
  repeat' first
    | intro _
    | with_reducible first
      | assumption | apply Block.setBytes_ok | apply Block.ok_of
    | split

theorem Block.nfcWrite_ok (page : Nat) (data : List Byte) (b : Block) (hOk : b.Ok) : (Block.nfcWrite page data b).Ok
  := by
  unfold Block.nfcWrite
  try dsimp only
  repeat' first
    | intro _
    | with_reducible first
      | assumption | apply Block.inc_ok | apply Block.add_ok | apply Block.irq_ok | apply Block.setTag_ok
      | apply Block.showTag_ok | apply Block.nak_ok | apply Block.ack_ok | apply Block.silent_ok
      | apply Block.commitPage_ok | apply Block.ok_of
    | split

theorem Block.sectorSelect_ok (sector : Nat) (b : Block) (hOk : b.Ok) : (Block.sectorSelect sector b).Ok := by
  unfold Block.sectorSelect
  try dsimp only
  repeat' first
    | intro _
    | with_reducible first
      | assumption | apply Block.setTag_ok | apply Block.nak_ok | apply Block.ack_ok | apply Block.silent_ok
      | apply Block.ok_of
    | split

theorem Block.lockoutCheck_ok (b : Block) (hOk : b.Ok) : (Block.lockoutCheck b).Ok := by
  unfold Block.lockoutCheck
  try dsimp only
  repeat' first
    | intro _
    | with_reducible first
      | assumption | apply Block.verdict_ok | apply Block.err_ok | apply Block.setTag_ok | apply Block.ok_of
    | split

theorem Block.authFrame_ok (pw : List Byte) (b : Block) (hOk : b.Ok) : (Block.authFrame pw b).Ok := by
  unfold Block.authFrame
  try dsimp only
  repeat' first
    | intro _
    | with_reducible first
      | assumption | apply Block.inc_ok | apply Block.irq_ok | apply Block.answerBytes_ok | apply Block.setTag_ok
      | apply Block.showTag_ok | apply Block.nak_ok | apply Block.silent_ok | apply Block.endSession_ok
      | apply Block.lockoutCheck_ok | apply Block.wr_ok | apply Block.ok_of
    | split

theorem Block.authRst_ok (b : Block) (hOk : b.Ok) : (Block.authRst b).Ok := by
  unfold Block.authRst
  with_reducible repeat' first
    | intro _ | assumption | apply Block.setTag_ok | apply Block.wr_ok

theorem Block.tagPassword_ok (b : Block) (hOk : b.Ok) : (Block.tagPassword b).Ok := by
  unfold Block.tagPassword
  try dsimp only
  repeat' first
    | intro _
    | with_reducible first
      | assumption | apply Block.setTag_ok | apply Block.ok_of
    | split

theorem Block.endTagJob_ok (res : Nat) (b : Block) (hOk : b.Ok) : (Block.endTagJob res b).Ok := by
  unfold Block.endTagJob
  with_reducible repeat' first
    | intro _ | assumption | apply Block.irq_ok | apply Block.setTag_ok | apply Block.showTag_ok | apply Block.wr_ok

theorem Block.tagJob_ok (first : Nat) (img : List Byte) (b : Block) (hOk : b.Ok) : (Block.tagJob first img b).Ok := by
  unfold Block.tagJob
  try dsimp only
  repeat' first
    | intro _
    | with_reducible first
      | assumption | apply Block.jobEnd_ok | apply Block.setTag_ok | apply Block.showTag_ok
      | apply Block.endTagJob_ok | apply Block.wr_ok | apply Block.ok_of
    | split

theorem Block.tagCommit_ok (b : Block) (hOk : b.Ok) : (Block.tagCommit b).Ok := by
  unfold Block.tagCommit
  try dsimp only
  repeat' first
    | intro _
    | with_reducible first
      | assumption | apply Block.err_ok | apply Block.fetch_ok | apply Block.endTagJob_ok | apply Block.tagJob_ok
      | apply Block.wr_ok
    | simp only [Block.ok_mk]
    | with_reducible first
      | apply Block.ok_of | apply Block.ok_ite | apply Block.ok_ite_fst | apply Block.ok_ite_snd
      | refine Block.ok_fst (by assumption) ?_ | refine Block.ok_snd (by assumption) ?_
    | split

theorem Block.statusTimed_ok (k : Nat) (b : Block) (hOk : b.Ok) : (Block.statusTimed k b).Ok := by
  unfold Block.statusTimed
  with_reducible repeat' first
    | intro _ | assumption | apply Block.setTag_ok

theorem Block.tagPageCommit_ok (ok : Bool) (b : Block) (hOk : b.Ok) : (Block.tagPageCommit ok b).Ok := by
  unfold Block.tagPageCommit
  try dsimp only
  repeat' first
    | intro _
    | with_reducible first
      | assumption | apply Block.inc_ok | apply Block.err_ok | apply Block.jobEnd_ok | apply Block.setTag_ok
      | apply Block.showTag_ok | apply Block.commitPage_ok | apply Block.endTagJob_ok | apply Block.statusTimed_ok
      | apply Block.cond_ok | apply Block.ok_of
    | split

theorem Block.tagAbort_ok (b : Block) (hOk : b.Ok) : (Block.tagAbort b).Ok := by
  unfold Block.tagAbort
  with_reducible repeat' first
    | intro _ | assumption | apply Block.endTagJob_ok | apply Block.cond_ok

theorem Block.tagWindowWrite_ok (p : Nat) (data : List Byte) (b : Block) (hOk : b.Ok) : (Block.tagWindowWrite p data
  b).Ok := by
  unfold Block.tagWindowWrite
  try dsimp only
  repeat' first
    | intro _
    | with_reducible first
      | assumption | apply Block.err_ok | apply Block.setTag_ok | apply Block.showTag_ok | apply Block.ok_of
    | split

theorem Block.queueCommits_ok (l : List Commit) (b : Block) (hOk : b.Ok) : (Block.queueCommits l b).Ok := by
  unfold Block.queueCommits
  with_reducible repeat' first
    | intro _ | assumption | apply Block.setTag_ok | apply Block.showTag_ok

theorem Block.statusArea_ok (b : Block) (hOk : b.Ok) : (Block.statusArea b).Ok := by
  unfold Block.statusArea
  try dsimp only
  repeat' first
    | intro _
    | with_reducible first
      | assumption | apply Block.queueCommits_ok | apply Block.cond_ok | apply Block.ok_of
    | split

theorem Block.summaryCopy_ok (b : Block) (hOk : b.Ok) : (Block.summaryCopy b).Ok := by
  unfold Block.summaryCopy
  try dsimp only
  repeat' first
    | intro _
    | with_reducible first
      | assumption | apply Block.fetch_ok | apply Block.setTag_ok | apply Block.queueCommits_ok
    | simp only [Block.ok_mk]
    | with_reducible first
      | apply Block.ok_of | apply Block.ok_ite | apply Block.ok_ite_fst | apply Block.ok_ite_snd
      | refine Block.ok_fst (by assumption) ?_ | refine Block.ok_snd (by assumption) ?_
    | split

end Sys2Proof.Machine
end

