-- ==== Sys2Proof/Laws/KeepPower.lean ====
section
/-! SUPPORT. The host port, field updates, GNSS, snapshots, the implement protocol and shared memory keep the stores canonical. -/

namespace Sys2Proof.Machine

theorem Block.clearStageBit_ok (off i : Nat) (b : Block) (hOk : b.Ok) : (Block.clearStageBit off i b).Ok := by
  unfold Block.clearStageBit
  with_reducible repeat' first
    | intro _ | assumption | apply Block.programFlash_ok

theorem Block.showWanted_ok (b : Block) (hOk : b.Ok) : (Block.showWanted b).Ok := by
  unfold Block.showWanted
  with_reducible repeat' first
    | intro _ | assumption | apply Block.wr_ok

theorem Block.showStaged_ok (b : Block) (hOk : b.Ok) : (Block.showStaged b).Ok := by
  unfold Block.showStaged
  with_reducible repeat' first
    | intro _ | assumption | apply Block.irq_ok | apply Block.showWanted_ok | apply Block.cond_ok | apply Block.wr_ok

theorem Block.openStage_ok (tag : Nat) (b : Block) (hOk : b.Ok) : (Block.openStage tag b).Ok := by
  unfold Block.openStage
  try dsimp only
  repeat' first
    | intro _
    | with_reducible first
      | assumption | apply Block.wrB_ok | apply Block.showWanted_ok | apply Block.cond_ok | apply Block.eraseFlash_ok
      | apply Block.programFlash_ok | apply Block.wr_ok
    | simp only [Block.ok_mk]
    | with_reducible apply Block.ok_of
    | split

theorem Block.updOpen_ok (b : Block) (hOk : b.Ok) : (Block.updOpen b).Ok := by
  unfold Block.updOpen
  try dsimp only
  repeat' first
    | intro _
    | with_reducible first
      | assumption | apply Block.flashOwn_ok | apply Block.updClose_ok | apply Block.openStage_ok | apply Block.wr_ok
    | simp only [Block.ok_mk]
    | with_reducible apply Block.ok_of
    | split

theorem Block.updCloseCmd_ok (b : Block) (hOk : b.Ok) : (Block.updCloseCmd b).Ok := by
  unfold Block.updCloseCmd
  try dsimp only
  repeat' first
    | intro _
    | with_reducible first
      | assumption | apply Block.updClose_ok | apply Block.ok_of
    | split

theorem Block.stageErased_ok (b : Block) (hOk : b.Ok) : (Block.stageErased b).Ok := by
  unfold Block.stageErased
  try dsimp only
  repeat' first
    | intro _
    | with_reducible first
      | assumption | apply Block.openStage_ok | apply Block.eraseFlash_ok | apply Block.wr_ok
    | simp only [Block.ok_mk]
    | with_reducible apply Block.ok_of
    | split

theorem Block.accepted_ok (res : Nat) (b : Block) (hOk : b.Ok) : (Block.accepted res b).Ok := by
  unfold Block.accepted
  try dsimp only
  repeat' first
    | intro _
    | with_reducible first
      | assumption | apply Block.verdict_ok | apply Block.err_ok | apply Block.cond_ok | apply Block.wr_ok
    | simp only [Block.ok_mk]
    | with_reducible apply Block.ok_of
    | split

theorem Block.tornSlot_ok (b : Block) (hOk : b.Ok) : (Block.tornSlot b).Ok := by
  unfold Block.tornSlot
  try dsimp only
  repeat' first
    | intro _
    | with_reducible first
      | assumption | apply Block.scramble_ok | apply Block.wr_ok | apply Block.ok_of
    | split

theorem Block.storeStaged_ok (i : Nat) (h payload : List Byte) (b : Block) (hOk : b.Ok) : (Block.storeStaged i h
  payload b).Ok := by
  unfold Block.storeStaged
  try dsimp only
  repeat' first
    | intro _
    | with_reducible first
      | assumption | apply Block.clearStageBit_ok | apply Block.programFlash_ok | apply Block.wr_ok
    | simp only [Block.ok_mk]
    | with_reducible apply Block.ok_of
    | split

theorem Block.storeDirect_ok (i : Nat) (payload : List Byte) (b : Block) (hOk : b.Ok) : (Block.storeDirect i payload
  b).Ok := by
  unfold Block.storeDirect
  try dsimp only
  repeat' first
    | intro _
    | with_reducible first
      | assumption | apply Block.clearStageBit_ok | apply Block.eraseFlash_ok | apply Block.programFlash_ok
      | apply Block.ok_of
    | split

theorem Block.directDone_ok (b : Block) (hOk : b.Ok) : (Block.directDone b).Ok := by
  unfold Block.directDone
  try dsimp only
  repeat' first
    | intro _
    | with_reducible first
      | assumption | apply Block.programFlash_ok
    | simp only [Block.ok_mk]
    | with_reducible apply Block.ok_of
    | split

theorem Block.storeFailed_ok (b : Block) (hOk : b.Ok) : (Block.storeFailed b).Ok := by
  unfold Block.storeFailed
  with_reducible repeat' first
    | intro _ | assumption | apply Block.askTest_ok | apply Block.err_ok | apply Block.accepted_ok
    | apply Block.cond_ok

theorem Block.battStore_ok (i : Nat) (h payload : List Byte) (fails : Nat) (b : Block) (hOk : b.Ok) : (Block.battStore
  i h payload fails b).Ok := by
  unfold Block.battStore
  try dsimp only
  repeat' first
    | intro _
    | with_reducible first
      | assumption | apply Block.irq_ok | apply Block.updClose_ok | apply Block.accepted_ok | apply Block.tornSlot_ok
      | apply Block.storeStaged_ok | apply Block.storeDirect_ok | apply Block.storeFailed_ok | apply Block.each_ok
      | apply Block.scramble_ok | apply Block.ok_of
    | split

theorem Block.afterBatt_ok (b : Block) (hOk : b.Ok) : (Block.afterBatt b).Ok := by
  unfold Block.afterBatt
  try dsimp only
  repeat' first
    | intro _
    | with_reducible first
      | assumption | apply Block.showStaged_ok | apply Block.directDone_ok | apply Block.cond_ok | apply Block.ok_of
    | split

theorem Block.updAccept_ok (keyLost : Bool) (fails : Nat) (b : Block) (hOk : b.Ok) : (Block.updAccept keyLost fails
  b).Ok := by
  unfold Block.updAccept
  try dsimp only
  repeat' first
    | intro _
    | with_reducible first
      | assumption | apply Block.fetch_ok | apply Block.zeroSlot_ok | apply Block.installPending_ok
      | apply Block.accepted_ok | apply Block.battStore_ok | apply Block.afterBatt_ok | apply Block.wr_ok
    | simp only [Block.ok_mk]
    | with_reducible first
      | apply Block.ok_of | apply Block.ok_ite | apply Block.ok_ite_fst | apply Block.ok_ite_snd
      | refine Block.ok_fst (by assumption) ?_ | refine Block.ok_snd (by assumption) ?_
    | split

theorem Block.manifestCheck_ok (b : Block) (hOk : b.Ok) : (Block.manifestCheck b).Ok := by
  unfold Block.manifestCheck
  try dsimp only
  repeat' first
    | intro _
    | with_reducible first
      | assumption | apply Block.irq_ok | apply Block.verdict_ok | apply Block.updClose_ok
      | apply Block.clearStageBit_ok | apply Block.showStaged_ok | apply Block.directDone_ok | apply Block.cond_ok
      | apply Block.each_ok | apply Block.programFlash_ok | apply Block.wr_ok | apply Block.ok_of
    | split

theorem Block.actRes_ok (res : Nat) (b : Block) (hOk : b.Ok) : (Block.actRes res b).Ok := by
  unfold Block.actRes
  with_reducible repeat' first
    | intro _ | assumption | apply Block.wr_ok

theorem Block.updActivate_ok (b : Block) (hOk : b.Ok) : (Block.updActivate b).Ok := by
  unfold Block.updActivate
  try dsimp only
  repeat' first
    | intro _
    | with_reducible first
      | assumption | apply Block.actRes_ok | apply Block.wr_ok
    | simp only [Block.ok_mk]
    | with_reducible apply Block.ok_of
    | split

theorem Block.activationChecked_ok (b : Block) (hOk : b.Ok) : (Block.activationChecked b).Ok := by
  unfold Block.activationChecked
  try dsimp only
  repeat' first
    | intro _
    | with_reducible first
      | assumption | apply Block.irq_ok | apply Block.installPending_ok | apply Block.showStaged_ok
      | apply Block.actRes_ok | apply Block.each_ok | apply Block.programFlash_ok | apply Block.wr_ok
    | simp only [Block.ok_mk]
    | with_reducible apply Block.ok_of
    | split

theorem Block.activationStart_ok (mark : Bool) (b : Block) (hOk : b.Ok) : (Block.activationStart mark b).Ok := by
  unfold Block.activationStart
  try dsimp only
  repeat' first
    | intro _
    | with_reducible first
      | assumption | apply Block.sysEvent_ok | apply Block.flashTurn_ok | apply Block.pwmForce_ok
      | apply Block.imposeMan_ok | apply Block.decideLeave_ok | apply Block.drain_ok | apply Block.mainReset_ok
      | apply Block.each_ok | apply Block.programFlash_ok | apply Block.wr_ok
    | simp only [Block.ok_mk]
    | with_reducible apply Block.ok_of
    | split

theorem Block.updDisarm_ok (b : Block) (hOk : b.Ok) : (Block.updDisarm b).Ok := by
  unfold Block.updDisarm
  try dsimp only
  repeat' first
    | intro _
    | with_reducible first
      | assumption | apply Block.actRes_ok | apply Block.wr_ok
    | simp only [Block.ok_mk]
    | with_reducible apply Block.ok_of
    | split

theorem Block.updRebuild_ok (b : Block) (hOk : b.Ok) : (Block.updRebuild b).Ok := by
  unfold Block.updRebuild
  try dsimp only
  repeat' first
    | intro _
    | with_reducible first
      | assumption | apply Block.wrB_ok | apply Block.showWanted_ok | apply Block.cond_ok | apply Block.wr_ok
    | simp only [Block.ok_mk]
    | with_reducible apply Block.ok_of
    | split

theorem Block.loaderCopy_ok (b : Block) (hOk : b.Ok) : (Block.loaderCopy b).Ok := by
  unfold Block.loaderCopy
  try dsimp only
  repeat' first
    | intro _
    | with_reducible first
      | assumption | apply Block.clearStageBit_ok | apply Block.each_ok | apply Block.eraseFlash_ok
      | apply Block.programFlash_ok | apply Block.wr_ok | apply Block.ok_of
    | split

theorem Block.updPool_ok (b : Block) (hOk : b.Ok) : (Block.updPool b).Ok := by
  unfold Block.updPool
  try dsimp only
  repeat' first
    | intro _
    | with_reducible first
      | assumption | apply Block.mainReset_ok
    | simp only [Block.ok_mk]
    | with_reducible apply Block.ok_of
    | split

theorem Block.setDet_ok (a d : Nat) (b : Block) (hOk : b.Ok) : (Block.setDet a d b).Ok := by
  unfold Block.setDet
  with_reducible repeat' first
    | intro _ | assumption | apply Block.irq_ok | apply Block.cond_ok | apply Block.wr_ok

theorem Block.openA_ok (b : Block) (hOk : b.Ok) : (Block.openA b).Ok := by
  unfold Block.openA
  with_reducible repeat' first
    | intro _ | assumption | apply Block.verdict_ok | apply Block.err_ok

theorem Block.detect_ok (ma : List Nat) (b : Block) (hOk : b.Ok) : (Block.detect ma b).Ok := by
  unfold Block.detect
  try dsimp only
  repeat' first
    | intro _
    | with_reducible first
      | assumption | apply Block.verdict_ok | apply Block.setDet_ok | apply Block.openA_ok | apply Block.cond_ok
      | apply Block.each_ok | apply Block.wr_ok
    | simp only [Block.ok_mk]
    | with_reducible apply Block.ok_of
    | split

theorem Block.biasShort_ok (a : Nat) (b : Block) (hOk : b.Ok) : (Block.biasShort a b).Ok := by
  unfold Block.biasShort
  try dsimp only
  repeat' first
    | intro _
    | with_reducible first
      | assumption | apply Block.err_ok | apply Block.setDet_ok | apply Block.wr_ok
    | simp only [Block.ok_mk]
    | with_reducible apply Block.ok_of
    | split

theorem Block.biasRetry_ok (a ma : Nat) (b : Block) (hOk : b.Ok) : (Block.biasRetry a ma b).Ok := by
  unfold Block.biasRetry
  try dsimp only
  repeat' first
    | intro _
    | with_reducible first
      | assumption | apply Block.setDet_ok | apply Block.biasShort_ok | apply Block.wr_ok
    | simp only [Block.ok_mk]
    | with_reducible apply Block.ok_of
    | split

theorem Block.biasSwitch_ok (a : Nat) (b : Block) (hOk : b.Ok) : (Block.biasSwitch a b).Ok := by
  unfold Block.biasSwitch
  with_reducible repeat' first
    | intro _ | assumption | apply Block.wrB_ok | apply Block.cond_ok

theorem Block.biasPool_ok (a ma : Nat) (b : Block) (hOk : b.Ok) : (Block.biasPool a ma b).Ok := by
  unfold Block.biasPool
  try dsimp only
  repeat' first
    | intro _
    | with_reducible first
      | assumption | apply Block.setDet_ok | apply Block.openA_ok | apply Block.cond_ok | apply Block.wr_ok
    | simp only [Block.ok_mk]
    | with_reducible apply Block.ok_of
    | split

theorem Block.reclassify_ok (a : Nat) (b : Block) (hOk : b.Ok) : (Block.reclassify a b).Ok := by
  unfold Block.reclassify
  try dsimp only
  repeat' first
    | intro _
    | with_reducible first
      | assumption | apply Block.showLasting_ok | apply Block.freeClasses_ok | apply Block.setDet_ok
      | apply Block.cond_ok | apply Block.ok_of
    | split

theorem Block.notchApply_ok (k : Nat) (b : Block) (hOk : b.Ok) : (Block.notchApply k b).Ok := by
  unfold Block.notchApply
  try dsimp only
  repeat' first
    | intro _
    | with_reducible first
      | assumption | apply Block.irq_ok | apply Block.cond_ok | apply Block.wr_ok | apply Block.ok_of
    | split

theorem Block.setLow_ok (k : Nat) (t : Option Nat) (b : Block) (hOk : b.Ok) : (Block.setLow k t b).Ok := by
  unfold Block.setLow
  try dsimp only
  repeat' first
    | intro _
    | with_reducible first
      | assumption
    | simp only [Block.ok_mk]
    | with_reducible apply Block.ok_of
    | split

theorem Block.notchEngage_ok (k : Nat) (peaks : List (Int × Nat)) (b : Block) (hOk : b.Ok) : (Block.notchEngage k
  peaks b).Ok := by
  unfold Block.notchEngage
  try dsimp only
  repeat' first
    | intro _
    | with_reducible first
      | assumption | apply Block.wrI_ok | apply Block.irq_ok | apply Block.setLow_ok | apply Block.wr_ok
    | simp only [Block.ok_mk]
    | with_reducible apply Block.ok_of
    | split

theorem Block.notchRelease_ok (k : Nat) (b : Block) (hOk : b.Ok) : (Block.notchRelease k b).Ok := by
  unfold Block.notchRelease
  try dsimp only
  repeat' first
    | intro _
    | with_reducible first
      | assumption | apply Block.wr_ok | apply Block.ok_of
    | split

theorem Block.notchConverge_ok (b : Block) (hOk : b.Ok) : (Block.notchConverge b).Ok := by
  unfold Block.notchConverge
  with_reducible repeat' first
    | intro _ | assumption | apply Block.cond_ok | apply Block.each_ok | apply Block.wr_ok

theorem Block.jamPool_ok (a : Nat) (power : Int) (b : Block) (hOk : b.Ok) : (Block.jamPool a power b).Ok := by
  unfold Block.jamPool
  try dsimp only
  repeat' first
    | intro _
    | with_reducible first
      | assumption | apply Block.irq_ok | apply Block.err_ok | apply Block.cond_ok | apply Block.wr_ok
    | simp only [Block.ok_mk]
    | with_reducible apply Block.ok_of
    | split

theorem Block.jamStay_ok (a : Nat) (b : Block) (hOk : b.Ok) : (Block.jamStay a b).Ok := by
  unfold Block.jamStay
  try dsimp only
  repeat' first
    | intro _
    | with_reducible first
      | assumption | apply Block.err_ok
    | simp only [Block.ok_mk]
    | with_reducible apply Block.ok_of
    | split

theorem Block.gnssPool_ok (f : Front) (b : Block) (hOk : b.Ok) : (Block.gnssPool f b).Ok := by
  unfold Block.gnssPool
  try dsimp only
  repeat' first
    | intro _
    | with_reducible first
      | assumption | apply Block.verdict_ok | apply Block.biasPool_ok | apply Block.jamPool_ok | apply Block.cond_ok
      | apply Block.each_ok | apply Block.wr_ok
    | simp only [Block.ok_mk]
    | with_reducible apply Block.ok_of
    | split

theorem Block.gnssStart_ok (f : Front) (fresh : List (Fin 32 × Bool)) (b : Block) (hOk : b.Ok) : (Block.gnssStart f
  fresh b).Ok := by
  unfold Block.gnssStart
  try dsimp only
  repeat' first
    | intro _
    | with_reducible first
      | assumption | apply Block.detect_ok | apply Block.notchApply_ok | apply Block.each_ok | apply Block.wr_ok
    | simp only [Block.ok_mk]
    | with_reducible apply Block.ok_of
    | split

theorem Block.assist_ok (b : Block) (hOk : b.Ok) : (Block.assist b).Ok := by
  unfold Block.assist
  try dsimp only
  repeat' first
    | intro _
    | with_reducible first
      | assumption | apply Block.fetch_ok | apply Block.hold_ok
    | simp only [Block.ok_mk]
    | with_reducible first
      | apply Block.ok_of | apply Block.ok_ite | apply Block.ok_ite_fst | apply Block.ok_ite_snd
      | refine Block.ok_fst (by assumption) ?_ | refine Block.ok_snd (by assumption) ?_
    | split

theorem Block.navPost_ok (page : Bool) (ptr : Nat) (data : List Byte) (b : Block) (hOk : b.Ok) : (Block.navPost page
  ptr data b).Ok := by
  unfold Block.navPost
  try dsimp only
  repeat' first
    | intro _
    | with_reducible first
      | assumption | apply Block.store_ok | apply Block.mbxPost_ok
    | simp only [Block.ok_mk]
    | with_reducible first
      | apply Block.ok_of | apply Block.ok_ite | apply Block.ok_ite_fst | apply Block.ok_ite_snd
      | refine Block.ok_fst (by assumption) ?_ | refine Block.ok_snd (by assumption) ?_
    | split

theorem Block.acqStart_ok (a : Actor) (b : Block) (hOk : b.Ok) : (Block.acqStart a b).Ok := by
  unfold Block.acqStart
  try dsimp only
  repeat' first
    | intro _
    | with_reducible first
      | assumption | apply Block.wr_ok
    | simp only [Block.ok_mk]
    | with_reducible apply Block.ok_of
    | split

theorem Block.aidLanes_ok (seen : List (Fin 32 × Fin 91)) (b : Block) (hOk : b.Ok) : (Block.aidLanes seen b).Ok := by
  unfold Block.aidLanes
  try dsimp only
  repeat' first
    | intro _
    | with_reducible first
      | assumption | apply Block.each_ok | apply Block.wr_ok | apply Block.ok_of
    | split

theorem Block.acqBegin_ok (a : Actor) (aid : Option (List (Fin 32 × Fin 91))) (b : Block) (hOk : b.Ok) :
  (Block.acqBegin a aid b).Ok := by
  unfold Block.acqBegin
  try dsimp only
  repeat' first
    | intro _
    | with_reducible first
      | assumption | apply Block.acqStart_ok | apply Block.aidLanes_ok | apply Block.ok_of
    | split

theorem Block.acqAbort_ok (a : Actor) (b : Block) (hOk : b.Ok) : (Block.acqAbort a b).Ok := by
  unfold Block.acqAbort
  try dsimp only
  repeat' first
    | intro _
    | with_reducible first
      | assumption | apply Block.wr_ok
    | simp only [Block.ok_mk]
    | with_reducible apply Block.ok_of
    | split

theorem Block.acqEnd_ok (found : List (BitVec 11 × Byte)) (b : Block) (hOk : b.Ok) : (Block.acqEnd found b).Ok := by
  unfold Block.acqEnd
  try dsimp only
  repeat' first
    | intro _
    | with_reducible first
      | assumption | apply Block.wrB_ok | apply Block.each_ok | apply Block.wr_ok
    | simp only [Block.ok_mk]
    | with_reducible apply Block.ok_of
    | split

theorem Block.fftRun_ok (j : FftJob) (b : Block) (hOk : b.Ok) : (Block.fftRun j b).Ok := by
  unfold Block.fftRun
  try dsimp only
  repeat' first
    | intro _
    | with_reducible first
      | assumption | apply Block.fetch_ok | apply Block.wr_ok
    | simp only [Block.ok_mk]
    | with_reducible apply Block.ok_of
    | split

theorem Block.heldBegin_ok (b : Block) (hOk : b.Ok) : (Block.heldBegin b).Ok := by
  unfold Block.heldBegin
  try dsimp only
  repeat' first
    | intro _
    | with_reducible first
      | assumption | apply Block.fftRun_ok
    | simp only [Block.ok_mk]
    | with_reducible apply Block.ok_of
    | split

theorem Block.fftBegin_ok (b : Block) (hOk : b.Ok) : (Block.fftBegin b).Ok := by
  unfold Block.fftBegin
  try dsimp only
  repeat' first
    | intro _
    | with_reducible first
      | assumption | apply Block.err_ok | apply Block.fftRun_ok
    | simp only [Block.ok_mk]
    | with_reducible apply Block.ok_of
    | split

theorem Block.coldBegin_ok (b : Block) (hOk : b.Ok) : (Block.coldBegin b).Ok := by
  unfold Block.coldBegin
  try dsimp only
  repeat' first
    | intro _
    | with_reducible first
      | assumption | apply Block.fftRun_ok | apply Block.heldBegin_ok | apply Block.wr_ok
    | simp only [Block.ok_mk]
    | with_reducible apply Block.ok_of
    | split

theorem Block.fftStart_ok (a : Actor) (b : Block) (hOk : b.Ok) : (Block.fftStart a b).Ok := by
  unfold Block.fftStart
  with_reducible repeat' first
    | intro _ | assumption | apply Block.fftBegin_ok | apply Block.cond_ok

theorem Block.fftAbort_ok (a : Actor) (b : Block) (hOk : b.Ok) : (Block.fftAbort a b).Ok := by
  unfold Block.fftAbort
  try dsimp only
  repeat' first
    | intro _
    | with_reducible first
      | assumption | apply Block.coldBegin_ok | apply Block.wr_ok
    | simp only [Block.ok_mk]
    | with_reducible apply Block.ok_of
    | split

theorem Block.fftEnd_ok (found : List (Nat × Nat × Int × Nat)) (b : Block) (hOk : b.Ok) : (Block.fftEnd found b).Ok :=
  by
  unfold Block.fftEnd
  try dsimp only
  repeat' first
    | intro _
    | with_reducible first
      | assumption | apply Block.irq_ok | apply Block.store_ok | apply Block.coldBegin_ok | apply Block.wr_ok
    | simp only [Block.ok_mk]
    | with_reducible first
      | apply Block.ok_of | apply Block.ok_ite | apply Block.ok_ite_fst | apply Block.ok_ite_snd
      | refine Block.ok_fst (by assumption) ?_ | refine Block.ok_snd (by assumption) ?_
    | split

theorem Block.setChan_ok (c : Nat) (f : Chan → Chan) (b : Block) (hOk : b.Ok) : (Block.setChan c f b).Ok := by
  unfold Block.setChan
  try dsimp only
  repeat' first
    | intro _
    | with_reducible first
      | assumption
    | simp only [Block.ok_mk]
    | with_reducible apply Block.ok_of
    | split

theorem Block.chanConf_ok (c : Nat) (prn sp : Nat) (en : Bool) (dopp : Nat) (b : Block) (hOk : b.Ok) : (Block.chanConf
  c prn sp en dopp b).Ok := by
  unfold Block.chanConf
  try dsimp only
  repeat' first
    | intro _
    | with_reducible first
      | assumption | apply Block.wrB_ok | apply Block.setChan_ok | apply Block.wr_ok | apply Block.ok_of
    | split

theorem Block.chanEnable_ok (a : Actor) (c prn sp dopp : Nat) (b : Block) (hOk : b.Ok) : (Block.chanEnable a c prn sp
  dopp b).Ok := by
  unfold Block.chanEnable
  with_reducible repeat' first
    | intro _ | assumption | apply Block.chanConf_ok | apply Block.cond_ok

theorem Block.chanLock_ok (c : Nat) (b : Block) (hOk : b.Ok) : (Block.chanLock c b).Ok := by
  unfold Block.chanLock
  with_reducible repeat' first
    | intro _ | assumption | apply Block.setChan_ok | apply Block.cond_ok

theorem Block.chanCoast_ok (c cn0 : Nat) (b : Block) (hOk : b.Ok) : (Block.chanCoast c cn0 b).Ok := by
  unfold Block.chanCoast
  try dsimp only
  repeat' first
    | intro _
    | with_reducible first
      | assumption | apply Block.setChan_ok
    | simp only [Block.ok_mk]
    | with_reducible apply Block.ok_of
    | split

theorem Block.chanResume_ok (c cn0 : Nat) (b : Block) (hOk : b.Ok) : (Block.chanResume c cn0 b).Ok := by
  unfold Block.chanResume
  try dsimp only
  repeat' first
    | intro _
    | with_reducible first
      | assumption | apply Block.setChan_ok | apply Block.ok_of
    | split

theorem Block.chanLost_ok (c : Nat) (b : Block) (hOk : b.Ok) : (Block.chanLost c b).Ok := by
  unfold Block.chanLost
  try dsimp only
  repeat' first
    | intro _
    | with_reducible first
      | assumption | apply Block.setChan_ok | apply Block.ok_of
    | split

theorem Block.gateAntB_ok (b : Block) (hOk : b.Ok) : (Block.gateAntB b).Ok := by
  unfold Block.gateAntB
  with_reducible repeat' first
    | intro _ | assumption | apply Block.setChan_ok | apply Block.each_ok | apply Block.wr_ok

theorem Block.ungateAntB_ok (b : Block) (hOk : b.Ok) : (Block.ungateAntB b).Ok := by
  unfold Block.ungateAntB
  with_reducible repeat' first
    | intro _ | assumption | apply Block.notchApply_ok | apply Block.each_ok

theorem Block.chanLatch_ok (obs : List ChanObs) (b : Block) (hOk : b.Ok) : (Block.chanLatch obs b).Ok := by
  unfold Block.chanLatch
  with_reducible repeat' first
    | intro _ | assumption | apply Block.irq_ok | apply Block.phase_ok | apply Block.setChan_ok | apply Block.cond_ok
    | apply Block.each_ok | apply Block.wr_ok

theorem Block.recordEdge_ok (b : Block) (hOk : b.Ok) : (Block.recordEdge b).Ok := by
  unfold Block.recordEdge
  try dsimp only
  repeat' first
    | intro _
    | with_reducible first
      | assumption
    | simp only [Block.ok_mk]
    | with_reducible apply Block.ok_of
    | split

theorem Block.epochLatch_ok (obs : List ChanObs) (b : Block) (hOk : b.Ok) : (Block.epochLatch obs b).Ok := by
  unfold Block.epochLatch
  try dsimp only
  repeat' first
    | intro _
    | with_reducible first
      | assumption | apply Block.chanLatch_ok | apply Block.recordEdge_ok | apply Block.cond_ok
    | simp only [Block.ok_mk]
    | with_reducible apply Block.ok_of
    | split

theorem Block.abandon_ok (b : Block) (hOk : b.Ok) : (Block.abandon b).Ok := by
  unfold Block.abandon
  try dsimp only
  repeat' first
    | intro _
    | with_reducible first
      | assumption | apply Block.overrun_ok | apply Block.wr_ok
    | simp only [Block.ok_mk]
    | with_reducible apply Block.ok_of
    | split

theorem Block.headingStep_ok (z : Option Nat) (b : Block) (hOk : b.Ok) : (Block.headingStep z b).Ok := by
  unfold Block.headingStep
  try dsimp only
  repeat' first
    | intro _
    | with_reducible first
      | assumption
    | simp only [Block.ok_mk]
    | with_reducible apply Block.ok_of
    | split

theorem Block.baselineStep_ok (f : NavFix) (b : Block) (hOk : b.Ok) : (Block.baselineStep f b).1.Ok := by
  unfold Block.baselineStep
  try dsimp only
  repeat' first
    | intro _
    | with_reducible first
      | assumption | apply Block.wrB_ok | apply Block.wrI_ok | apply Block.irq_ok | apply Block.sysEvent_ok
      | apply Block.verdict_ok | apply Block.cond_ok | apply Block.wr_ok
    | simp only [Block.ok_mk]
    | with_reducible apply Block.ok_of
    | split

theorem Block.recStage_ok (bs : List Byte) (b : Block) (hOk : b.Ok) : (Block.recStage bs b).Ok := by
  unfold Block.recStage
  with_reducible repeat' first
    | intro _ | assumption | apply Block.each_ok | apply Block.wr_ok

theorem Block.solveSnap_ok (f : NavFix) (a : Nat) (b : Block) (hOk : b.Ok) : (Block.solveSnap f a b).Ok := by
  unfold Block.solveSnap
  try dsimp only
  repeat' first
    | intro _
    | with_reducible first
      | assumption | apply Block.fetch_ok | apply Block.recStage_ok
    | simp only [Block.ok_mk]
    | with_reducible first
      | apply Block.ok_of | apply Block.ok_ite | apply Block.ok_ite_fst | apply Block.ok_ite_snd
      | refine Block.ok_fst (by assumption) ?_ | refine Block.ok_snd (by assumption) ?_
    | split

theorem Block.solve_ok (f : NavFix) (b : Block) (hOk : b.Ok) : (Block.solve f b).Ok := by
  unfold Block.solve
  try dsimp only
  repeat' first
    | intro _
    | with_reducible first
      | assumption | apply Block.headingStep_ok | apply Block.baselineStep_ok | apply Block.recStage_ok
      | apply Block.cond_ok | apply Block.wr_ok
    | simp only [Block.ok_mk]
    | with_reducible apply Block.ok_of
    | split

theorem Block.postRecord_ok (a : Actor) (b : Block) (hOk : b.Ok) : (Block.postRecord a b).Ok := by
  unfold Block.postRecord
  try dsimp only
  repeat' first
    | intro _
    | with_reducible first
      | assumption | apply Block.wrB_ok | apply Block.irq_ok | apply Block.gnssSample_ok | apply Block.store_ok
      | apply Block.mbxPost_ok | apply Block.overrun_ok | apply Block.recStage_ok | apply Block.wr_ok
    | simp only [Block.ok_mk]
    | with_reducible first
      | apply Block.ok_of | apply Block.ok_ite | apply Block.ok_ite_fst | apply Block.ok_ite_snd
      | refine Block.ok_fst (by assumption) ?_ | refine Block.ok_snd (by assumption) ?_
    | split

theorem Block.rtcmFrame_ok (m : Option (List Byte)) (b : Block) (hOk : b.Ok) : (Block.rtcmFrame m b).Ok := by
  unfold Block.rtcmFrame
  try dsimp only
  repeat' first
    | intro _
    | with_reducible first
      | assumption | apply Block.inc_ok | apply Block.sysEvent_ok
    | simp only [Block.ok_mk]
    | with_reducible apply Block.ok_of
    | split

theorem Block.rtcmReceive_ok (b : Block) (hOk : b.Ok) : (Block.rtcmReceive b).Ok := by
  unfold Block.rtcmReceive
  try dsimp only
  repeat' first
    | intro _
    | with_reducible first
      | assumption | apply Block.fetch_ok | apply Block.hold_ok | apply Block.rtcmFrame_ok | apply Block.each_ok
    | simp only [Block.ok_mk]
    | with_reducible first
      | apply Block.ok_of | apply Block.ok_ite | apply Block.ok_ite_fst | apply Block.ok_ite_snd
      | refine Block.ok_fst (by assumption) ?_ | refine Block.ok_snd (by assumption) ?_
    | split

theorem Block.setSnapSlot_ok (ant i v : Nat) (b : Block) (hOk : b.Ok) : (Block.setSnapSlot ant i v b).Ok := by
  unfold Block.setSnapSlot
  with_reducible repeat' first
    | intro _ | assumption | apply Block.wr_ok

theorem Block.snapStart_ok (ant len : Nat) (b : Block) (hOk : b.Ok) : (Block.snapStart ant len b).Ok := by
  unfold Block.snapStart
  try dsimp only
  repeat' first
    | intro _
    | with_reducible first
      | assumption | apply Block.request_ok | apply Block.wr_ok
    | simp only [Block.ok_mk]
    | with_reducible apply Block.ok_of
    | split

theorem Block.grabBegin_ok (ant ms : Nat) (cold : Bool) (b : Block) (hOk : b.Ok) : (Block.grabBegin ant ms cold b).Ok
  := by
  unfold Block.grabBegin
  try dsimp only
  repeat' first
    | intro _
    | with_reducible first
      | assumption | apply Block.setSnapSlot_ok | apply Block.wr_ok
    | simp only [Block.ok_mk]
    | with_reducible apply Block.ok_of
    | split

theorem Block.captureBegin_ok (b : Block) (hOk : b.Ok) : (Block.captureBegin b).Ok := by
  unfold Block.captureBegin
  try dsimp only
  repeat' first
    | intro _
    | with_reducible first
      | assumption | apply Block.showDomains_ok | apply Block.request_ok | apply Block.heldBegin_ok
      | apply Block.grabBegin_ok | apply Block.cond_ok | apply Block.wr_ok
    | simp only [Block.ok_mk]
    | with_reducible apply Block.ok_of
    | split

theorem Block.grabEnd_ok (g : Grab) (samples : Option (List Byte)) (count : Nat) (cut : Bool) (b : Block) (hOk : b.Ok)
  : (Block.grabEnd g samples count cut b).Ok := by
  unfold Block.grabEnd
  try dsimp only
  repeat' first
    | intro _
    | with_reducible first
      | assumption | apply Block.inc_ok | apply Block.irq_ok | apply Block.store_ok | apply Block.coldBegin_ok
      | apply Block.setSnapSlot_ok | apply Block.cond_ok | apply Block.scramble_ok | apply Block.wr_ok
    | simp only [Block.ok_mk]
    | with_reducible apply Block.ok_of
    | split

theorem Block.snapEnd_ok (sa sb : List Byte) (cut : Bool) (b : Block) (hOk : b.Ok) : (Block.snapEnd sa sb cut b).Ok :=
  by
  unfold Block.snapEnd
  try dsimp only
  repeat' first
    | intro _
    | with_reducible first
      | assumption | apply Block.grabEnd_ok | apply Block.each_ok
    | simp only [Block.ok_mk]
    | with_reducible apply Block.ok_of
    | split

theorem Block.snapStop_ok (sa sb : List Byte) (cut : Bool) (b : Block) (hOk : b.Ok) : (Block.snapStop sa sb cut b).Ok
  := by
  unfold Block.snapStop
  with_reducible repeat' first
    | intro _ | assumption | apply Block.showDomains_ok | apply Block.snapEnd_ok

theorem Block.snapGate_ok (b : Block) (hOk : b.Ok) : (Block.snapGate b).Ok := by
  unfold Block.snapGate
  try dsimp only
  repeat' first
    | intro _
    | with_reducible first
      | assumption | apply Block.request_ok | apply Block.grabEnd_ok | apply Block.each_ok
    | simp only [Block.ok_mk]
    | with_reducible apply Block.ok_of
    | split

theorem Block.snapInterval_ok (b : Block) (hOk : b.Ok) : (Block.snapInterval b).Ok := by
  unfold Block.snapInterval
  try dsimp only
  repeat' first
    | intro _
    | with_reducible first
      | assumption | apply Block.request_ok
    | simp only [Block.ok_mk]
    | with_reducible apply Block.ok_of
    | split

theorem Block.pushDone_ok (k : Nat) (b : Block) (hOk : b.Ok) : (Block.pushDone k b).Ok := by
  unfold Block.pushDone
  try dsimp only
  repeat' first
    | intro _
    | with_reducible first
      | assumption
    | simp only [Block.ok_mk]
    | with_reducible apply Block.ok_of
    | split

theorem Block.sectQueue_ok (b : Block) (hOk : b.Ok) : (Block.sectQueue b).Ok := by
  unfold Block.sectQueue
  try dsimp only
  repeat' first
    | intro _
    | with_reducible first
      | assumption | apply Block.inc_ok | apply Block.incWrap_ok | apply Block.overrun_ok | apply Block.enqueue_ok
      | apply Block.pushDone_ok | apply Block.cond_ok | apply Block.each_ok
    | simp only [Block.ok_mk]
    | with_reducible apply Block.ok_of
    | split

theorem Block.syncQueue_ok (b : Block) (hOk : b.Ok) : (Block.syncQueue b).Ok := by
  unfold Block.syncQueue
  try dsimp only
  repeat' first
    | intro _
    | with_reducible first
      | assumption | apply Block.inc_ok | apply Block.syncSlew_ok | apply Block.overrun_ok | apply Block.enqueue_ok
      | apply Block.pushDone_ok | apply Block.wr_ok | apply Block.ok_of
    | split

theorem Block.beatQueue_ok (b : Block) (hOk : b.Ok) : (Block.beatQueue b).Ok := by
  unfold Block.beatQueue
  try dsimp only
  repeat' first
    | intro _
    | with_reducible first
      | assumption | apply Block.inc_ok | apply Block.overrun_ok | apply Block.enqueue_ok | apply Block.pushDone_ok
      | apply Block.ok_of
    | split

theorem Block.partnerEvent_ok (uid addr what : Nat) (b : Block) (hOk : b.Ok) : (Block.partnerEvent uid addr what b).Ok
  := by
  unfold Block.partnerEvent
  with_reducible repeat' first
    | intro _ | assumption | apply Block.sysEvent_ok

theorem Block.clearNode_ok (a : Nat) (b : Block) (hOk : b.Ok) : (Block.clearNode a b).Ok := by
  unfold Block.clearNode
  with_reducible repeat' first
    | intro _ | assumption | apply Block.wr_ok

theorem Block.withdraw_ok (p : TxEntry → Bool) (b : Block) (hOk : b.Ok) : (Block.withdraw p b).Ok := by
  unfold Block.withdraw
  try dsimp only
  repeat' first
    | intro _
    | with_reducible first
      | assumption | apply Block.showTx_ok | apply Block.endEntry_ok | apply Block.endWhere_ok | apply Block.each_ok
    | simp only [Block.ok_mk]
    | with_reducible apply Block.ok_of
    | split

theorem Block.forget_ok (a : Nat) (b : Block) (hOk : b.Ok) : (Block.forget a b).Ok := by
  unfold Block.forget
  try dsimp only
  repeat' first
    | intro _
    | with_reducible first
      | assumption | apply Block.clearNode_ok | apply Block.withdraw_ok
    | simp only [Block.ok_mk]
    | with_reducible apply Block.ok_of
    | split

theorem Block.lose_ok (p : Partner) (release : Bool) (b : Block) (hOk : b.Ok) : (Block.lose p release b).Ok := by
  unfold Block.lose
  try dsimp only
  repeat' first
    | intro _
    | with_reducible first
      | assumption | apply Block.verdict_ok | apply Block.lipPost_ok | apply Block.partnerEvent_ok
      | apply Block.forget_ok | apply Block.cond_ok
    | simp only [Block.ok_mk]
    | with_reducible apply Block.ok_of
    | split

theorem Block.refuse_ok (uid reason : Nat) (b : Block) (hOk : b.Ok) : (Block.refuse uid reason b).Ok := by
  unfold Block.refuse
  with_reducible repeat' first
    | intro _ | assumption | apply Block.verdict_ok | apply Block.lipPost_ok | apply Block.partnerEvent_ok
    | apply Block.cond_ok

theorem Block.bindRead_ok (b : Block) (hOk : b.Ok) : (Block.bindRead b).Ok := by
  unfold Block.bindRead
  try dsimp only
  repeat' first
    | intro _
    | with_reducible first
      | assumption
    | simp only [Block.ok_mk]
    | with_reducible apply Block.ok_of
    | split

theorem Block.bindStore_ok (b : Block) (hOk : b.Ok) : (Block.bindStore b).Ok := by
  unfold Block.bindStore
  try dsimp only
  repeat' first
    | intro _
    | with_reducible first
      | assumption | apply Block.eraseFlash_ok | apply Block.setBytes_ok | apply Block.ok_of
    | split

theorem Block.bindWrite_ok (b : Block) (hOk : b.Ok) : (Block.bindWrite b).Ok := by
  unfold Block.bindWrite
  try dsimp only
  repeat' first
    | intro _
    | with_reducible first
      | assumption | apply Block.flashOwn_ok | apply Block.bindStore_ok | apply Block.ok_of
    | split

theorem Block.bindMove_ok (a uid : Nat) (b : Block) (hOk : b.Ok) : (Block.bindMove a uid b).Ok := by
  unfold Block.bindMove
  try dsimp only
  repeat' first
    | intro _
    | with_reducible first
      | assumption | apply Block.bindWrite_ok
    | simp only [Block.ok_mk]
    | with_reducible apply Block.ok_of
    | split

theorem Block.replaceOrder_ok (a : Nat) (b : Block) (hOk : b.Ok) : (Block.replaceOrder a b).Ok := by
  unfold Block.replaceOrder
  try dsimp only
  repeat' first
    | intro _
    | with_reducible first
      | assumption | apply Block.lipPost_ok | apply Block.partnerEvent_ok | apply Block.forget_ok
      | apply Block.bindMove_ok
    | simp only [Block.ok_mk]
    | with_reducible apply Block.ok_of
    | split

theorem Block.heldEvent_ok (uid : Nat) (b : Block) (hOk : b.Ok) : (Block.heldEvent uid b).Ok := by
  unfold Block.heldEvent
  try dsimp only
  repeat' first
    | intro _
    | with_reducible first
      | assumption | apply Block.sysEvent_ok | apply Block.draw_ok | apply Block.ok_of
    | split

theorem Block.announce_ok (uid kind : Nat) (image : Bool) (b : Block) (hOk : b.Ok) : (Block.announce uid kind image
  b).Ok := by
  unfold Block.announce
  try dsimp only
  repeat' first
    | intro _
    | with_reducible first
      | assumption | apply Block.lipPost_ok | apply Block.lipRun_ok | apply Block.heard_ok | apply Block.lose_ok
      | apply Block.refuse_ok | apply Block.bindMove_ok | apply Block.heldEvent_ok | apply Block.cond_ok
    | simp only [Block.ok_mk]
    | with_reducible apply Block.ok_of
    | split

theorem Block.partnerBeat_ok (a state : Nat) (b : Block) (hOk : b.Ok) : (Block.partnerBeat a state b).Ok := by
  unfold Block.partnerBeat
  try dsimp only
  repeat' first
    | intro _
    | with_reducible first
      | assumption | apply Block.setPartner_ok | apply Block.resendStart_ok | apply Block.lipRun_ok
      | apply Block.heard_ok | apply Block.partnerEvent_ok | apply Block.wr_ok | apply Block.ok_of
    | split

theorem Block.assignLapse_ok (a : Nat) (b : Block) (hOk : b.Ok) : (Block.assignLapse a b).Ok := by
  unfold Block.assignLapse
  try dsimp only
  repeat' first
    | intro _
    | with_reducible first
      | assumption | apply Block.forget_ok | apply Block.ok_of
    | split

theorem Block.partnerLoss_ok (a : Nat) (b : Block) (hOk : b.Ok) : (Block.partnerLoss a b).Ok := by
  unfold Block.partnerLoss
  try dsimp only
  repeat' first
    | intro _
    | with_reducible first
      | assumption | apply Block.lipRun_ok | apply Block.lose_ok | apply Block.ok_of
    | split

theorem Block.lipEpoch_ok (b : Block) (hOk : b.Ok) : (Block.lipEpoch b).Ok := by
  unfold Block.lipEpoch
  try dsimp only
  repeat' first
    | intro _
    | with_reducible first
      | assumption | apply Block.heard_ok
    | simp only [Block.ok_mk]
    | with_reducible apply Block.ok_of
    | split

theorem Block.discover_ok (b : Block) (hOk : b.Ok) : (Block.discover b).Ok := by
  unfold Block.discover
  try dsimp only
  repeat' first
    | intro _
    | with_reducible first
      | assumption | apply Block.lipPost_ok | apply Block.lipRun_ok
    | simp only [Block.ok_mk]
    | with_reducible apply Block.ok_of
    | split

theorem Block.releaseExcess_ok (n : Nat) (b : Block) (hOk : b.Ok) : (b.releaseExcess n).Ok := by
  induction n generalizing b with
  | zero => exact hOk
  | succ n ih =>
    unfold Block.releaseExcess
    dsimp only
    repeat' first
      | intro _ | with_reducible assumption
      | with_reducible apply ih
      | with_reducible apply Block.partnerEvent_ok
      | with_reducible apply Block.lipPost_ok
      | with_reducible apply Block.forget_ok
      | simp only [Block.ok_mk] | with_reducible apply Block.ok_of | with_reducible apply Block.ok_ite
      | with_reducible apply Block.ok_ite_fst | with_reducible refine Block.ok_fst (by assumption) ?_ | split

theorem Block.lipReport_ok (a : Nat) (pulse : Bool) (chan value ft : Nat) (b : Block) (hOk : b.Ok) : (Block.lipReport
  a pulse chan value ft b).Ok := by
  unfold Block.lipReport
  try dsimp only
  repeat' first
    | intro _
    | with_reducible first
      | assumption
    | simp only [Block.ok_mk]
    | with_reducible apply Block.ok_of
    | split

theorem Block.btBytes_ok (t : BtSend) (o n : Nat) (b : Block) (hOk : b.Ok) : (Block.btBytes t o n b).1.Ok := by
  unfold Block.btBytes
  try dsimp only
  repeat' first
    | intro _
    | with_reducible first
      | assumption | apply Block.fetch_ok
    | simp only [Block.ok_mk]
    | with_reducible first
      | apply Block.ok_of | apply Block.ok_ite | apply Block.ok_ite_fst | apply Block.ok_ite_snd
      | refine Block.ok_fst (by assumption) ?_ | refine Block.ok_snd (by assumption) ?_
    | split

theorem Block.setSend_ok (peer : Nat) (f : BtSend → BtSend) (b : Block) (hOk : b.Ok) : (Block.setSend peer f b).Ok :=
  by
  unfold Block.setSend
  try dsimp only
  repeat' first
    | intro _
    | with_reducible first
      | assumption
    | simp only [Block.ok_mk]
    | with_reducible apply Block.ok_of
    | split

theorem Block.dropSend_ok (peer : Nat) (b : Block) (hOk : b.Ok) : (Block.dropSend peer b).Ok := by
  unfold Block.dropSend
  try dsimp only
  repeat' first
    | intro _
    | with_reducible first
      | assumption
    | simp only [Block.ok_mk]
    | with_reducible apply Block.ok_of
    | split

theorem Block.sendOn_ok (peer : Nat) (f : BtSend → BtSend) (b : Block) (hOk : b.Ok) : (Block.sendOn peer f b).Ok := by
  unfold Block.sendOn
  try dsimp only
  repeat' first
    | intro _
    | with_reducible first
      | assumption | apply Block.setSend_ok
    | simp only [Block.ok_mk]
    | with_reducible apply Block.ok_of
    | split

theorem Block.postBlock_ok (t : BtSend) (from_ : Nat) (b : Block) (hOk : b.Ok) : (Block.postBlock t from_ b).Ok := by
  unfold Block.postBlock
  with_reducible repeat' first
    | intro _ | assumption | apply Block.lipPost_ok | apply Block.btBytes_ok | apply Block.each_ok

theorem Block.postEnd_ok (t : BtSend) (b : Block) (hOk : b.Ok) : (Block.postEnd t b).Ok := by
  unfold Block.postEnd
  with_reducible repeat' first
    | intro _ | assumption | apply Block.lipPost_ok | apply Block.btBytes_ok

theorem Block.btPost_ok (peer from_ : Nat) (b : Block) (hOk : b.Ok) : (Block.btPost peer from_ b).Ok := by
  unfold Block.btPost
  try dsimp only
  repeat' first
    | intro _
    | with_reducible first
      | assumption | apply Block.lipPost_ok | apply Block.lipRun_ok | apply Block.postBlock_ok
      | apply Block.postEnd_ok | apply Block.ok_of
    | split

theorem Block.btGoOn_ok (peer from_ : Nat) (again : Bool) (b : Block) (hOk : b.Ok) : (Block.btGoOn peer from_ again
  b).Ok := by
  unfold Block.btGoOn
  try dsimp only
  repeat' first
    | intro _
    | with_reducible first
      | assumption | apply Block.setSend_ok | apply Block.sendOn_ok | apply Block.btPost_ok | apply Block.ok_of
    | split

theorem Block.loadFailed_ok (peer : Nat) (again : Bool) (b : Block) (hOk : b.Ok) : (Block.loadFailed peer again b).Ok
  := by
  unfold Block.loadFailed
  try dsimp only
  repeat' first
    | intro _
    | with_reducible first
      | assumption | apply Block.verdict_ok | apply Block.setPartner_ok | apply Block.lipPost_ok
      | apply Block.lipRun_ok | apply Block.partnerEvent_ok | apply Block.forget_ok | apply Block.dropSend_ok
      | apply Block.sendOn_ok | apply Block.btPost_ok | apply Block.ok_of
    | split

theorem Block.sendStart_ok (t : BtSend) (b : Block) (hOk : b.Ok) : (Block.sendStart t b).Ok := by
  unfold Block.sendStart
  try dsimp only
  repeat' first
    | intro _
    | with_reducible first
      | assumption | apply Block.setSend_ok | apply Block.sendOn_ok | apply Block.btPost_ok
    | simp only [Block.ok_mk]
    | with_reducible apply Block.ok_of
    | split

theorem Block.imageLoad_ok (b : Block) (hOk : b.Ok) : (Block.imageLoad b).Ok := by
  unfold Block.imageLoad
  try dsimp only
  repeat' first
    | intro _
    | with_reducible first
      | assumption | apply Block.sendStart_ok
    | simp only [Block.ok_mk]
    | with_reducible apply Block.ok_of
    | split

theorem Block.btAck_ok (peer code block index : Nat) (b : Block) (hOk : b.Ok) : (Block.btAck peer code block index
  b).Ok := by
  unfold Block.btAck
  try dsimp only
  repeat' first
    | intro _
    | with_reducible first
      | assumption | apply Block.setPartner_ok | apply Block.setSend_ok | apply Block.dropSend_ok
      | apply Block.btGoOn_ok | apply Block.loadFailed_ok | apply Block.cond_ok | apply Block.ok_of
    | split

theorem Block.setRecv_ok (peer : Nat) (f : BtRecv → BtRecv) (b : Block) (hOk : b.Ok) : (Block.setRecv peer f b).Ok :=
  by
  unfold Block.setRecv
  try dsimp only
  repeat' first
    | intro _
    | with_reducible first
      | assumption
    | simp only [Block.ok_mk]
    | with_reducible apply Block.ok_of
    | split

theorem Block.recvNow_ok (peer : Nat) (b : Block) (hOk : b.Ok) : (Block.recvNow peer b).Ok := by
  unfold Block.recvNow
  with_reducible repeat' first
    | intro _ | assumption | apply Block.setRecv_ok

theorem Block.btOpen_ok (peer content len tag : Nat) (b : Block) (hOk : b.Ok) : (Block.btOpen peer content len tag
  b).Ok := by
  unfold Block.btOpen
  try dsimp only
  repeat' first
    | intro _
    | with_reducible first
      | assumption | apply Block.lipPost_ok | apply Block.lipRun_ok | apply Block.recvNow_ok
    | simp only [Block.ok_mk]
    | with_reducible apply Block.ok_of
    | split

theorem Block.btData_ok (peer head : Nat) (data : List Byte) (b : Block) (hOk : b.Ok) : (Block.btData peer head data
  b).Ok := by
  unfold Block.btData
  try dsimp only
  repeat' first
    | intro _
    | with_reducible first
      | assumption | apply Block.lipPost_ok | apply Block.lipRun_ok | apply Block.setRecv_ok | apply Block.recvNow_ok
      | apply Block.ok_of
    | split

theorem Block.btEnd_ok (peer crc len : Nat) (b : Block) (hOk : b.Ok) : (Block.btEnd peer crc len b).Ok := by
  unfold Block.btEnd
  try dsimp only
  repeat' first
    | intro _
    | with_reducible first
      | assumption | apply Block.lipPost_ok | apply Block.lipRun_ok
    | simp only [Block.ok_mk]
    | with_reducible apply Block.ok_of
    | split

theorem Block.btAbort_ok (peer : Nat) (b : Block) (hOk : b.Ok) : (Block.btAbort peer b).Ok := by
  unfold Block.btAbort
  try dsimp only
  repeat' first
    | intro _
    | with_reducible first
      | assumption | apply Block.loadFailed_ok
    | simp only [Block.ok_mk]
    | with_reducible apply Block.ok_of
    | split

theorem Block.btAckTimeout_ok (peer : Nat) (b : Block) (hOk : b.Ok) : (Block.btAckTimeout peer b).Ok := by
  unfold Block.btAckTimeout
  try dsimp only
  repeat' first
    | intro _
    | with_reducible first
      | assumption | apply Block.lipPost_ok | apply Block.lipRun_ok | apply Block.sendOn_ok | apply Block.btPost_ok
      | apply Block.loadFailed_ok | apply Block.ok_of
    | split

theorem Block.btRecvTimeout_ok (peer : Nat) (b : Block) (hOk : b.Ok) : (Block.btRecvTimeout peer b).Ok := by
  unfold Block.btRecvTimeout
  try dsimp only
  repeat' first
    | intro _
    | with_reducible first
      | assumption
    | simp only [Block.ok_mk]
    | with_reducible apply Block.ok_of
    | split

theorem Block.exportStart_ok (peer tag : Nat) (b : Block) (hOk : b.Ok) : (Block.exportStart peer tag b).Ok := by
  unfold Block.exportStart
  try dsimp only
  repeat' first
    | intro _
    | with_reducible first
      | assumption | apply Block.btBytes_ok | apply Block.sendStart_ok | apply Block.ok_of
    | split

theorem Block.btHold_ok (peer tag : Nat) (b : Block) (hOk : b.Ok) : (Block.btHold peer tag b).Ok := by
  unfold Block.btHold
  try dsimp only
  repeat' first
    | intro _
    | with_reducible first
      | assumption | apply Block.lipPost_ok | apply Block.lipRun_ok | apply Block.setSend_ok
    | simp only [Block.ok_mk]
    | with_reducible apply Block.ok_of
    | split

theorem Block.btResume_ok (b : Block) (hOk : b.Ok) : (Block.btResume b).Ok := by
  unfold Block.btResume
  try dsimp only
  repeat' first
    | intro _
    | with_reducible first
      | assumption | apply Block.sendOn_ok | apply Block.btPost_ok | apply Block.btGoOn_ok | apply Block.each_ok
      | apply Block.ok_of
    | split

theorem Block.configOrder_ok (a index value : Nat) (b : Block) (hOk : b.Ok) : (Block.configOrder a index value b).Ok
  := by
  unfold Block.configOrder
  try dsimp only
  repeat' first
    | intro _
    | with_reducible first
      | assumption | apply Block.lipPost_ok | apply Block.resendStart_ok | apply Block.lipRun_ok
    | simp only [Block.ok_mk]
    | with_reducible apply Block.ok_of
    | split

theorem Block.quietOrder_ok (a limit pools : Nat) (b : Block) (hOk : b.Ok) : (Block.quietOrder a limit pools b).Ok :=
  by
  unfold Block.quietOrder
  try dsimp only
  repeat' first
    | intro _
    | with_reducible first
      | assumption | apply Block.lipPost_ok | apply Block.lipRun_ok
    | simp only [Block.ok_mk]
    | with_reducible apply Block.ok_of
    | split

theorem Block.lipOrder_ok (o : LipOrder) (b : Block) (hOk : b.Ok) : (Block.lipOrder o b).Ok := by
  unfold Block.lipOrder
  try dsimp only
  repeat' first
    | intro _
    | with_reducible first
      | assumption | apply Block.lipRun_ok | apply Block.replaceOrder_ok | apply Block.exportStart_ok
      | apply Block.configOrder_ok | apply Block.quietOrder_ok | apply Block.cond_ok | apply Block.ok_of
    | split

theorem Block.putOff_ok (master bank kind : Nat) (b : Block) (hOk : b.Ok) : (Block.putOff master bank kind b).Ok := by
  unfold Block.putOff
  try dsimp only
  repeat' first
    | intro _
    | with_reducible first
      | assumption
    | simp only [Block.ok_mk]
    | with_reducible apply Block.ok_of
    | split

theorem Block.upsetWord_ok (a : Nat) (m : BitVec 39) (b : Block) (hOk : b.Ok) : (Block.upsetWord a m b).Ok := by
  unfold Block.upsetWord
  with_reducible repeat' first
    | intro _ | assumption | apply Block.setFlip_ok

theorem Block.accessData_ok (master a kind size v : Nat) (b : Block) (hOk : b.Ok) : (Block.accessData master a kind
  size v b).Ok := by
  unfold Block.accessData
  try dsimp only
  repeat' first
    | intro _
    | with_reducible first
      | assumption | apply Block.answer_ok | apply Block.answerErr_ok | apply Block.readWord_ok
      | apply Block.writeWord_ok | apply Block.writePart_ok
    | simp only [Block.ok_mk]
    | with_reducible first
      | apply Block.ok_of | apply Block.ok_ite | apply Block.ok_ite_fst | apply Block.ok_ite_snd
      | refine Block.ok_fst (by assumption) ?_ | refine Block.ok_snd (by assumption) ?_
    | split

theorem Block.accessGranted_ok (master a kind size v more : Nat) (b : Block) (hOk : b.Ok) : (Block.accessGranted
  master a kind size v more b).Ok := by
  unfold Block.accessGranted
  try dsimp only
  repeat' first
    | intro _
    | with_reducible first
      | assumption | apply Block.answerErr_ok | apply Block.violation_ok | apply Block.beat_ok
      | apply Block.accessData_ok
    | simp only [Block.ok_mk]
    | with_reducible first
      | apply Block.ok_of | apply Block.ok_ite | apply Block.ok_ite_fst | apply Block.ok_ite_snd
      | refine Block.ok_fst (by assumption) ?_ | refine Block.ok_snd (by assumption) ?_
    | split

theorem Block.lostAccess_ok (master a : Nat) (b : Block) (hOk : b.Ok) : (Block.lostAccess master a b).Ok := by
  unfold Block.lostAccess
  try dsimp only
  repeat' first
    | intro _
    | with_reducible first
      | assumption | apply Block.answer_ok | apply Block.answerErr_ok | apply Block.ok_of
    | split

theorem Block.burstBeat_ok (master a kind left v : Nat) (b : Block) (hOk : b.Ok) : (Block.burstBeat master a kind left
  v b).Ok := by
  unfold Block.burstBeat
  try dsimp only
  repeat' first
    | intro _
    | with_reducible first
      | assumption | apply Block.outside_ok | apply Block.beat_ok | apply Block.accessData_ok
      | apply Block.lostAccess_ok
    | simp only [Block.ok_mk]
    | with_reducible apply Block.ok_of
    | split

theorem Block.sramAccess_ok (master a kind size v : Nat) (phase : Option Nat) (rivals : List Nat) (late : Bool) (upset
  : BitVec 39) (b : Block) (hOk : b.Ok) : (Block.sramAccess master a kind size v phase rivals late upset b).Ok := by
  unfold Block.sramAccess
  try dsimp only
  repeat' first
    | intro _
    | with_reducible first
      | assumption | apply Block.phase_ok | apply Block.outside_ok | apply Block.postsDue_ok
      | apply Block.captureDue_ok | apply Block.putOff_ok | apply Block.upsetWord_ok | apply Block.accessGranted_ok
      | apply Block.lostAccess_ok | apply Block.burstBeat_ok | apply Block.cond_ok
    | simp only [Block.ok_mk]
    | with_reducible apply Block.ok_of
    | split

theorem Block.spare_ok (c : ErrClass) (b : Block) (hOk : b.Ok) : (Block.spare c b).Ok := by
  unfold Block.spare
  try dsimp only
  repeat' first
    | intro _
    | with_reducible first
      | assumption
    | simp only [Block.ok_mk]
    | with_reducible apply Block.ok_of
    | split

theorem Block.scrubLog_ok (n a : Nat) (b : Block) (hOk : b.Ok) : (Block.scrubLog n a b).Ok := by
  unfold Block.scrubLog
  try dsimp only
  repeat' first
    | intro _
    | with_reducible first
      | assumption | apply Block.err_ok | apply Block.logDed_ok | apply Block.spare_ok | apply Block.cond_ok
      | apply Block.ok_of
    | split

theorem Block.scrubRead_ok (bank : Nat) (late : Bool) (rivals : List Nat) (upset : BitVec 39) (overtaken : Bool) (b :
  Block) (hOk : b.Ok) : (Block.scrubRead bank late rivals upset overtaken b).Ok := by
  unfold Block.scrubRead
  try dsimp only
  repeat' first
    | intro _
    | with_reducible first
      | assumption | apply Block.inc_ok | apply Block.irq_ok | apply Block.charge_ok | apply Block.logDed_ok
      | apply Block.readWord_ok | apply Block.upsetWord_ok | apply Block.scrubLog_ok | apply Block.cond_ok
      | apply Block.wr_ok
    | simp only [Block.ok_mk]
    | with_reducible apply Block.ok_of
    | split

theorem Block.scrubRestart_ok (b : Block) (hOk : b.Ok) : (Block.scrubRestart b).Ok := by
  unfold Block.scrubRestart
  try dsimp only
  repeat' first
    | intro _
    | with_reducible first
      | assumption
    | simp only [Block.ok_mk]
    | with_reducible apply Block.ok_of
    | split

theorem Block.eccInject_ok (mask : Nat) (b : Block) (hOk : b.Ok) : (Block.eccInject mask b).Ok := by
  unfold Block.eccInject
  try dsimp only
  repeat' first
    | intro _
    | with_reducible first
      | assumption
    | simp only [Block.ok_mk]
    | with_reducible apply Block.ok_of
    | split

theorem Block.fenceCommit_ok (b : Block) (hOk : b.Ok) : (Block.fenceCommit b).Ok := by
  unfold Block.fenceCommit
  with_reducible repeat' first
    | intro _ | assumption | apply Block.wr_ok

theorem Block.fenceApply_ok (b : Block) (hOk : b.Ok) : (Block.fenceApply b).Ok := by
  unfold Block.fenceApply
  try dsimp only
  repeat' first
    | intro _
    | with_reducible first
      | assumption | apply Block.irq_ok | apply Block.wr_ok
    | simp only [Block.ok_mk]
    | with_reducible apply Block.ok_of
    | split

theorem Block.admitStep_ok (bank m : Nat) (b : Block) (hOk : b.Ok) : (Block.admitStep bank m b).Ok := by
  unfold Block.admitStep
  try dsimp only
  repeat' first
    | intro _
    | with_reducible first
      | assumption | apply Block.clamped_ok | apply Block.wr_ok | apply Block.ok_of
    | split

theorem Block.bwlWrite_ok (master bank v : Nat) (b : Block) (hOk : b.Ok) : (Block.bwlWrite master bank v b).Ok := by
  unfold Block.bwlWrite
  try dsimp only
  repeat' first
    | intro _
    | with_reducible first
      | assumption | apply Block.clamped_ok | apply Block.bumpGen_ok | apply Block.admitStep_ok | apply Block.cond_ok
      | apply Block.each_ok | apply Block.wr_ok | apply Block.ok_of
    | split

theorem Block.refill_ok (b : Block) (hOk : b.Ok) : (Block.refill b).Ok := by
  unfold Block.refill
  try dsimp only
  repeat' first
    | intro _
    | with_reducible first
      | assumption | apply Block.wrBit_ok | apply Block.irq_ok | apply Block.postsDue_ok | apply Block.each_ok
    | simp only [Block.ok_mk]
    | with_reducible apply Block.ok_of
    | split

theorem Block.hostAnswer_ok (status : Nat) (data : Option (List Byte)) (b : Block) (hOk : b.Ok) : (Block.hostAnswer
  status data b).Ok := by
  unfold Block.hostAnswer
  try dsimp only
  repeat' first
    | intro _
    | with_reducible first
      | assumption | apply Block.answerBytes_ok | apply Block.ok_of
    | split

theorem Block.hostResult_ok (r : Nat) (b : Block) (hOk : b.Ok) : (Block.hostResult r b).Ok := by
  unfold Block.hostResult
  with_reducible repeat' first
    | intro _ | assumption | apply Block.inc_ok | apply Block.cond_ok | apply Block.wr_ok

theorem Block.hostBegin_ok (early : Bool) (b : Block) (hOk : b.Ok) : (Block.hostBegin early b).Ok := by
  unfold Block.hostBegin
  with_reducible repeat' first
    | intro _ | assumption | apply Block.cond_ok | apply Block.wr_ok

theorem Block.hostFrame_ok (early status : Bool) (f : Block → Block × Option (List Byte) × Nat) (b : Block) (hOk : b.Ok)
    (hff : ∀ b, b.Ok → (f b).1.Ok) : (b.hostFrame early status f).Ok := by
  unfold Block.hostFrame
  dsimp only
  repeat' first
    | intro _ | with_reducible assumption
    | with_reducible apply hff
    | with_reducible apply Block.wr_ok
    | with_reducible apply Block.inc_ok
    | with_reducible apply Block.silent_ok
    | with_reducible apply Block.hostBegin_ok
    | with_reducible apply Block.mbxSweep_ok
    | with_reducible apply Block.hostResult_ok
    | with_reducible apply Block.hostAnswer_ok
    | simp only [Block.ok_mk] | with_reducible apply Block.ok_of | with_reducible apply Block.ok_ite
    | with_reducible apply Block.ok_ite_fst | with_reducible refine Block.ok_fst (by assumption) ?_ | split

theorem Block.hostRead_ok (a n : Nat) (b : Block) (hOk : b.Ok) : (Block.hostRead a n b).1.Ok := by
  unfold Block.hostRead
  try dsimp only
  repeat' first
    | intro _
    | with_reducible first
      | assumption | apply Block.fetch_ok
    | simp only [Block.ok_mk]
    | with_reducible first
      | apply Block.ok_of | apply Block.ok_ite | apply Block.ok_ite_fst | apply Block.ok_ite_snd
      | refine Block.ok_fst (by assumption) ?_ | refine Block.ok_snd (by assumption) ?_
    | split

theorem Block.hostWrite_ok (a : Nat) (ws : List Word) (b : Block) (hOk : b.Ok) : (Block.hostWrite a ws b).1.Ok := by
  unfold Block.hostWrite
  try dsimp only
  repeat' first
    | intro _
    | with_reducible first
      | assumption | apply Block.store_ok | apply Block.wr_ok
    | simp only [Block.ok_mk]
    | with_reducible first
      | apply Block.ok_of | apply Block.ok_ite | apply Block.ok_ite_fst | apply Block.ok_ite_snd
      | refine Block.ok_fst (by assumption) ?_ | refine Block.ok_snd (by assumption) ?_
    | split

theorem Block.hostStatus_ok (b : Block) (hOk : b.Ok) : (Block.hostStatus b).1.Ok := by
  unfold Block.hostStatus
  with_reducible repeat' first
    | intro _ | assumption

theorem Block.hostSend_ok (n ptr len tag : Nat) (b : Block) (hOk : b.Ok) : (Block.hostSend n ptr len tag b).1.Ok := by
  unfold Block.hostSend
  try dsimp only
  repeat' first
    | intro _
    | with_reducible first
      | assumption | apply Block.mbxPost_ok | apply Block.ok_of
    | split

theorem Block.hostTake_ok (n : Nat) (b : Block) (hOk : b.Ok) : (Block.hostTake n b).1.Ok := by
  unfold Block.hostTake
  try dsimp only
  repeat' first
    | intro _
    | with_reducible first
      | assumption | apply Block.hold_ok | apply Block.cond_ok | apply Block.ok_of
    | split

theorem Block.hostTagRead_ok (page n : Nat) (b : Block) (hOk : b.Ok) : (Block.hostTagRead page n b).1.Ok := by
  unfold Block.hostTagRead
  try dsimp only
  repeat' first
    | intro _
    | with_reducible first
      | assumption | apply Block.ok_of
    | split

theorem Block.hostTagWrite_ok (page : Nat) (ws : List Word) (b : Block) (hOk : b.Ok) : (Block.hostTagWrite page ws
  b).1.Ok := by
  unfold Block.hostTagWrite
  try dsimp only
  repeat' first
    | intro _
    | with_reducible first
      | assumption | apply Block.tagWindowWrite_ok | apply Block.each_ok | apply Block.ok_of
    | split

theorem Block.hostTagStat_ok (b : Block) (hOk : b.Ok) : (Block.hostTagStat b).1.Ok := by
  unfold Block.hostTagStat
  with_reducible repeat' first
    | intro _ | assumption

theorem Block.hostCommand_ok (m : List Byte) (x : Bool × (Block → Block × Option (List Byte) × Nat))
    (e : hostCommand m = some x) (b : Block) (hOk : b.Ok) : (x.2 b).1.Ok := by
  simp only [hostCommand, Option.ite_none_right_eq_some, Option.some.injEq] at e
  repeat' split at e
  all_goals first
    | (obtain ⟨_, rfl⟩ := e; first
        | exact hostRead_ok _ _ _ hOk | exact hostWrite_ok _ _ _ hOk | exact hostStatus_ok _ hOk
        | exact hostSend_ok _ _ _ _ _ hOk | exact hostTake_ok _ _ hOk | exact hostTagRead_ok _ _ _ hOk
        | exact hostTagWrite_ok _ _ _ hOk | exact hostTagStat_ok _ hOk)
    | cases e

theorem Block.hostRaw_ok (early : Bool) (mosi : List Byte) (b : Block) (hOk : b.Ok) : (b.hostRaw early mosi).Ok := by
  unfold Block.hostRaw
  dsimp only
  split
  · exact Block.silent_ok _ hOk
  · split
    · split
      · exact Block.hostFrame_ok _ _ _ _ hOk (Block.hostCommand_ok _ _ (by assumption))
      · exact Block.hostFrame_ok _ _ _ _ hOk fun _ h => h
    · apply Block.hostAnswer_ok
      apply Block.err_ok
      exact Block.inc_ok _ _ (Block.hostResult_ok _ _ (Block.hostBegin_ok _ _ hOk))

end Sys2Proof.Machine
end

