-- ==== Sys2Proof/Laws/KeepBus.lean ====
section
/-! SUPPORT. Ticks, supplies, register writes, soft resets, bus commands and the start keep the stores canonical. -/

namespace Sys2Proof.Machine

theorem Block.tickStart_ok (b : Block) (hOk : b.Ok) : (Block.tickStart b).Ok := by
  unfold Block.tickStart
  try dsimp only
  repeat' first
    | intro _
    | with_reducible first
      | assumption | apply Block.showDomains_ok | apply Block.mainReset_ok | apply Block.wr_ok
    | simp only [Block.ok_mk]
    | with_reducible apply Block.ok_of
    | split

theorem Block.gateCaptures_ok (b : Block) (hOk : b.Ok) : (Block.gateCaptures b).Ok := by
  unfold Block.gateCaptures
  with_reducible repeat' first
    | intro _ | assumption | apply Block.request_ok | apply Block.snapGate_ok | apply Block.cond_ok

theorem Block.fallbackEntry_ok (b : Block) (hOk : b.Ok) : (Block.fallbackEntry b).Ok := by
  unfold Block.fallbackEntry
  try dsimp only
  repeat' first
    | intro _
    | with_reducible first
      | assumption | apply Block.mbxSweep_ok | apply Block.showDomains_ok | apply Block.abortOff_ok
      | apply Block.gateCaptures_ok | apply Block.wr_ok
    | simp only [Block.ok_mk]
    | with_reducible apply Block.ok_of
    | split

theorem Block.pllTimeout_ok (b : Block) (hOk : b.Ok) : (Block.pllTimeout b).Ok := by
  unfold Block.pllTimeout
  try dsimp only
  repeat' first
    | intro _
    | with_reducible first
      | assumption | apply Block.pwmForce_ok | apply Block.fallbackEntry_ok | apply Block.wr_ok
    | simp only [Block.ok_mk]
    | with_reducible apply Block.ok_of
    | split

theorem Block.clockLost_ok (tcxo : Bool) (b : Block) (hOk : b.Ok) : (Block.clockLost tcxo b).Ok := by
  unfold Block.clockLost
  try dsimp only
  repeat' first
    | intro _
    | with_reducible first
      | assumption | apply Block.verdict_ok | apply Block.err_ok | apply Block.pwmForce_ok | apply Block.enterSafe_ok
      | apply Block.cond_ok | apply Block.wr_ok
    | simp only [Block.ok_mk]
    | with_reducible apply Block.ok_of
    | split

theorem Block.xt32mLost_ok (b : Block) (hOk : b.Ok) : (Block.xt32mLost b).Ok := by
  unfold Block.xt32mLost
  try dsimp only
  repeat' first
    | intro _
    | with_reducible first
      | assumption | apply Block.verdict_ok | apply Block.err_ok | apply Block.enterSafe_ok | apply Block.wr_ok
      | apply Block.ok_of
    | split

theorem Block.xt32kLost_ok (b : Block) (hOk : b.Ok) : (Block.xt32kLost b).Ok := by
  unfold Block.xt32kLost
  try dsimp only
  repeat' first
    | intro _
    | with_reducible first
      | assumption | apply Block.verdict_ok | apply Block.err_ok | apply Block.cond_ok | apply Block.wr_ok
      | apply Block.ok_of
    | split

theorem Block.tickIrq_ok (n : Nat) (b : Block) (hOk : b.Ok) : (Block.tickIrq n b).Ok := by
  unfold Block.tickIrq
  with_reducible repeat' first
    | intro _ | assumption | apply Block.irq_ok | apply Block.err_ok | apply Block.cond_ok

theorem Block.bringEdges_ok (pool epoch : Bool) (b : Block) (hOk : b.Ok) : (Block.bringEdges pool epoch b).Ok := by
  unfold Block.bringEdges
  try dsimp only
  repeat' first
    | intro _
    | with_reducible first
      | assumption
    | simp only [Block.ok_mk]
    | with_reducible apply Block.ok_of
    | split

theorem Block.advance_ok (b : Block) (hOk : b.Ok) : (Block.advance b).Ok := by
  unfold Block.advance
  try dsimp only
  repeat' first
    | intro _
    | with_reducible first
      | assumption | apply Block.incWrap_ok | apply Block.bringEdges_ok | apply Block.wr_ok
    | simp only [Block.ok_mk]
    | with_reducible apply Block.ok_of
    | split

theorem Block.edgeIrqs_ok (b : Block) (hOk : b.Ok) : (Block.edgeIrqs b).Ok := by
  unfold Block.edgeIrqs
  with_reducible repeat' first
    | intro _ | assumption | apply Block.tickIrq_ok | apply Block.cond_ok

theorem Block.safetyEdge_ok (levels : List Bool) (b : Block) (hOk : b.Ok) : (Block.safetyEdge levels b).Ok := by
  unfold Block.safetyEdge
  try dsimp only
  repeat' first
    | intro _
    | with_reducible first
      | assumption | apply Block.sampleSafety_ok | apply Block.safetyStep_ok
    | simp only [Block.ok_mk]
    | with_reducible apply Block.ok_of
    | split

theorem Block.showTimers_ok (b : Block) (hOk : b.Ok) : (Block.showTimers b).Ok := by
  unfold Block.showTimers
  try dsimp only
  repeat' first
    | intro _
    | with_reducible first
      | assumption | apply Block.wr_ok | apply Block.ok_of
    | split

theorem Block.leaveNow_ok (up : Block → Block) (b : Block) (hOk : b.Ok) (hfup : ∀ b, Block.Ok b → (up b).Ok) :
  (Block.leaveNow up b).Ok := by
  unfold Block.leaveNow
  try dsimp only
  repeat' first
    | intro _
    | with_reducible first
      | assumption | apply Block.galStop_ok | apply Block.descend_ok | apply Block.snapGate_ok | apply Block.cond_ok
      | apply Block.wr_ok | apply hfup
    | simp only [Block.ok_mk]
    | with_reducible apply Block.ok_of
    | split

theorem Block.limitEdge_ok (b : Block) (hOk : b.Ok) : (Block.limitEdge b).Ok := by
  unfold Block.limitEdge
  try dsimp only
  repeat' first
    | intro _
    | with_reducible first
      | assumption
    | simp only [Block.ok_mk]
    | with_reducible apply Block.ok_of
    | split

theorem Block.dueWork_ok (a0 : FlashDue) (b : Block) (hOk : b.Ok) : (Block.dueWork a0 b).Ok := by
  unfold Block.dueWork
  try dsimp only
  repeat' first
    | intro _
    | with_reducible first
      | assumption | apply Block.flush_ok | apply Block.foundClear_ok | apply Block.mapClear_ok
      | apply Block.openStage_ok | apply Block.bindStore_ok | apply Block.eraseFlash_ok | apply Block.ok_of
    | split

theorem Block.dripEdge_ok (levels : List Bool) (b : Block) (hOk : b.Ok) : (Block.dripEdge levels b).Ok := by
  unfold Block.dripEdge
  try dsimp only
  repeat' first
    | intro _
    | with_reducible first
      | assumption | apply Block.timeEdge_ok | apply Block.timePass_ok | apply Block.flashDueOf_ok
      | apply Block.pwmForce_ok | apply Block.latchRates_ok | apply Block.captureLate_ok | apply Block.startTests_ok
      | apply Block.adcEdge_ok | apply Block.lipRun_ok | apply Block.latchNodes_ok | apply Block.switchStep_ok
      | apply Block.observeSamples_ok | apply Block.powerUp_ok | apply Block.notchConverge_ok
      | apply Block.fenceApply_ok | apply Block.refill_ok | apply Block.gateCaptures_ok
      | apply Block.fallbackEntry_ok | apply Block.advance_ok | apply Block.edgeIrqs_ok | apply Block.safetyEdge_ok
      | apply Block.showTimers_ok | apply Block.leaveNow_ok | apply Block.limitEdge_ok | apply Block.dueWork_ok
      | apply Block.cond_ok | apply Block.each_ok | apply Block.wr_ok
    | simp only [Block.ok_mk]
    | with_reducible apply Block.ok_of
    | split

theorem Block.degradeStep_ok (b : Block) (hOk : b.Ok) : (Block.degradeStep b).Ok := by
  unfold Block.degradeStep
  try dsimp only
  repeat' first
    | intro _
    | with_reducible first
      | assumption | apply Block.cond_ok | apply Block.wr_ok
    | simp only [Block.ok_mk]
    | with_reducible apply Block.ok_of
    | split

theorem Block.poolWindows_ok (b : Block) (hOk : b.Ok) : (Block.poolWindows b).Ok := by
  unfold Block.poolWindows
  try dsimp only
  repeat' first
    | intro _
    | with_reducible first
      | assumption | apply Block.wr_ok
    | simp only [Block.ok_mk]
    | with_reducible apply Block.ok_of
    | split

theorem Block.shelfNow_ok (cause : Nat) (b : Block) (hOk : b.Ok) : (Block.shelfNow cause b).Ok := by
  unfold Block.shelfNow
  try dsimp only
  repeat' first
    | intro _
    | with_reducible first
      | assumption | apply Block.ckptForce_ok | apply Block.drain_ok | apply Block.descend_ok
      | apply Block.snapGate_ok
    | simp only [Block.ok_mk]
    | with_reducible apply Block.ok_of
    | split

theorem Block.takeMode_ok (m : Mode) (c : Nat) (b : Block) (hOk : b.Ok) : (Block.takeMode m c b).Ok := by
  unfold Block.takeMode
  try dsimp only
  repeat' first
    | intro _
    | with_reducible first
      | assumption | apply Block.decideLeave_ok | apply Block.applyMode_ok | apply Block.mapRestore_ok
      | apply Block.shelfNow_ok | apply Block.cond_ok
    | simp only [Block.ok_mk]
    | with_reducible apply Block.ok_of
    | split

theorem Block.takeModes_ok (m : Mode) (c : Nat) (b : Block) (hOk : b.Ok) : (Block.takeModes m c b).Ok := by
  unfold Block.takeModes
  try dsimp only
  repeat' first
    | intro _
    | with_reducible first
      | assumption | apply Block.takeMode_ok
    | simp only [Block.ok_mk]
    | with_reducible apply Block.ok_of
    | split

theorem Block.modeEdge_ok (b : Block) (hOk : b.Ok) : (Block.modeEdge b).Ok := by
  unfold Block.modeEdge
  try dsimp only
  repeat' first
    | intro _
    | with_reducible first
      | assumption | apply Block.applyMode_ok | apply Block.galStop_ok | apply Block.descend_ok
      | apply Block.snapGate_ok | apply Block.takeMode_ok | apply Block.takeModes_ok | apply Block.cond_ok
      | apply Block.wr_ok
    | simp only [Block.ok_mk]
    | with_reducible apply Block.ok_of
    | split

theorem Block.retryStep_ok (b : Block) (hOk : b.Ok) : (Block.retryStep b).Ok := by
  unfold Block.retryStep
  try dsimp only
  repeat' first
    | intro _
    | with_reducible first
      | assumption
    | simp only [Block.ok_mk]
    | with_reducible apply Block.ok_of
    | split

theorem Block.poolEdge_ok (front : Front) (b : Block) (hOk : b.Ok) : (Block.poolEdge front b).Ok := by
  unfold Block.poolEdge
  try dsimp only
  repeat' first
    | intro _
    | with_reducible first
      | assumption | apply Block.timePool_ok | apply Block.paintPool_ok | apply Block.radioPool_ok
      | apply Block.updPool_ok | apply Block.gnssPool_ok | apply Block.btResume_ok | apply Block.gateCaptures_ok
      | apply Block.degradeStep_ok | apply Block.poolWindows_ok | apply Block.modeEdge_ok | apply Block.retryStep_ok
      | apply Block.cond_ok | apply Block.ok_of
    | split

theorem Block.epochEdge_ok (obs : List ChanObs) (b : Block) (hOk : b.Ok) : (Block.epochEdge obs b).Ok := by
  unfold Block.epochEdge
  try dsimp only
  repeat' first
    | intro _
    | with_reducible first
      | assumption | apply Block.epochLatch_ok | apply Block.lipEpoch_ok
    | simp only [Block.ok_mk]
    | with_reducible apply Block.ok_of
    | split

theorem Block.ladderShed_ok (b : Block) (hOk : b.Ok) : (Block.ladderShed b).Ok := by
  unfold Block.ladderShed
  try dsimp only
  repeat' first
    | intro _
    | with_reducible first
      | assumption | apply Block.shed7_ok | apply Block.gateAntB_ok | apply Block.cond_ok | apply Block.wr_ok
    | simp only [Block.ok_mk]
    | with_reducible apply Block.ok_of
    | split

theorem Block.ladderRestore_ok (b : Block) (hOk : b.Ok) : (Block.ladderRestore b).Ok := by
  unfold Block.ladderRestore
  try dsimp only
  repeat' first
    | intro _
    | with_reducible first
      | assumption | apply Block.ungateAntB_ok | apply Block.cond_ok | apply Block.wr_ok
    | simp only [Block.ok_mk]
    | with_reducible apply Block.ok_of
    | split

theorem Block.valveClose_ok (b : Block) (hOk : b.Ok) : (Block.valveClose b).Ok := by
  unfold Block.valveClose
  try dsimp only
  repeat' first
    | intro _
    | with_reducible first
      | assumption | apply Block.ckptForce_ok | apply Block.cond_ok | apply Block.ok_of
    | split

theorem Block.blockOverrun_ok (o : OvrBlock) (b : Block) (hOk : b.Ok) : (Block.blockOverrun o b).Ok := by
  unfold Block.blockOverrun
  try dsimp only
  repeat' first
    | intro _
    | with_reducible first
      | assumption | apply Block.phase_ok | apply Block.overrun_ok | apply Block.pushDone_ok | apply Block.each_ok
      | apply Block.wr_ok
    | simp only [Block.ok_mk]
    | with_reducible apply Block.ok_of
    | split

theorem Block.degradeExit_ok (b : Block) (hOk : b.Ok) : (Block.degradeExit b).Ok := by
  unfold Block.degradeExit
  with_reducible repeat' first
    | intro _ | assumption | apply Block.irq_ok | apply Block.cond_ok | apply Block.wr_ok

theorem Block.tickFreeze_ok (b : Block) (hOk : b.Ok) : (Block.tickFreeze b).Ok := by
  unfold Block.tickFreeze
  try dsimp only
  repeat' first
    | intro _
    | with_reducible first
      | assumption | apply Block.abortPage_ok | apply Block.err_ok | apply Block.wr_ok
    | simp only [Block.ok_mk]
    | with_reducible apply Block.ok_of
    | split

theorem Block.tickUnfreeze_ok (b : Block) (hOk : b.Ok) : (Block.tickUnfreeze b).Ok := by
  unfold Block.tickUnfreeze
  try dsimp only
  repeat' first
    | intro _
    | with_reducible first
      | assumption | apply Block.wr_ok
    | simp only [Block.ok_mk]
    | with_reducible apply Block.ok_of
    | split

theorem Block.setTries_ok (a : Agent) (n : Nat) (b : Block) (hOk : b.Ok) : (Block.setTries a n b).Ok := by
  unfold Block.setTries
  try dsimp only
  repeat' first
    | intro _
    | with_reducible first
      | assumption
    | simp only [Block.ok_mk]
    | with_reducible apply Block.ok_of
    | split

theorem Block.putRam_wf {m : Memory} (bs : List Byte) (h : Store.wf ramDefault m = true) : Store.wf ramDefault (Block.putRam m bs) = true :=
  Store.wf_foldl _ _ _ _ h

theorem Block.putAgent_ok (a : Agent) (bs : List Byte) (b : Block) (hOk : b.Ok) : (b.putAgent a bs).Ok := by
  cases a with
  | loop => exact ⟨hOk.1, hOk.2.1, hOk.2.2.1, hOk.2.2.2.1, hOk.2.2.2.2.1, Block.putRam_wf _ rfl⟩
  | gnss => exact ⟨hOk.1, hOk.2.1, hOk.2.2.1, Block.putRam_wf _ rfl, hOk.2.2.2.2⟩
  | radio => exact ⟨hOk.1, hOk.2.1, hOk.2.2.1, hOk.2.2.2.1, Block.putRam_wf _ (Store.wf_filter _ _ hOk.2.2.2.2.1), hOk.2.2.2.2.2⟩

theorem Block.holdReset_ok (a : Agent) (b : Block) (hOk : b.Ok) : (Block.holdReset a b).Ok := by
  unfold Block.holdReset
  try dsimp only
  repeat' first
    | intro _
    | with_reducible first
      | assumption | apply Block.mbxSweep_ok | apply Block.radioReset_ok
    | simp only [Block.ok_mk]
    | with_reducible apply Block.ok_of
    | split

theorem Block.release_ok (a : Agent) (b : Block) (hOk : b.Ok) : (Block.release a b).Ok := by
  unfold Block.release
  try dsimp only
  repeat' first
    | intro _
    | with_reducible first
      | assumption | apply Block.mbxSweep_ok
    | simp only [Block.ok_mk]
    | with_reducible apply Block.ok_of
    | split

theorem Block.loadFail_ok (a : Agent) (b : Block) (hOk : b.Ok) : (Block.loadFail a b).Ok := by
  unfold Block.loadFail
  try dsimp only
  repeat' first
    | intro _
    | with_reducible first
      | assumption | apply Block.sysEvent_ok | apply Block.verdict_ok | apply Block.mbxSweep_ok
      | apply Block.enterSafe_ok
    | simp only [Block.ok_mk]
    | with_reducible apply Block.ok_of
    | split

theorem Block.loadOnce_ok (a : Agent) (upset : Bool) (b : Block) (hOk : b.Ok) : (Block.loadOnce a upset b).Ok := by
  unfold Block.loadOnce
  try dsimp only
  repeat' first
    | intro _
    | with_reducible first
      | assumption | apply Block.setTries_ok | apply Block.putAgent_ok | apply Block.holdReset_ok
      | apply Block.release_ok | apply Block.loadFail_ok | apply Block.cond_ok | apply Block.ok_of
    | split

theorem Block.agentLoad_ok (a : Agent) (upset : Bool) (b : Block) (hOk : b.Ok) : (Block.agentLoad a upset b).Ok := by
  unfold Block.agentLoad
  try dsimp only
  repeat' first
    | intro _
    | with_reducible first
      | assumption | apply Block.loadOnce_ok | apply Block.cond_ok | apply Block.ok_of
    | split

theorem Block.radioTimeout_ok (upset : Bool) (b : Block) (hOk : b.Ok) : (Block.radioTimeout upset b).Ok := by
  unfold Block.radioTimeout
  try dsimp only
  repeat' first
    | intro _
    | with_reducible first
      | assumption | apply Block.setRadio_ok | apply Block.loadOnce_ok | apply Block.cond_ok | apply Block.ok_of
    | split

theorem Block.wakeUp_ok (b : Block) (hOk : b.Ok) : (Block.wakeUp b).Ok := by
  unfold Block.wakeUp
  with_reducible repeat' first
    | intro _ | assumption | apply Block.powerUp_ok | apply Block.snapGate_ok | apply Block.cond_ok

theorem Block.vinEnter_ok (ldo vbat : Bool) (b : Block) (hOk : b.Ok) : (Block.vinEnter ldo vbat b).Ok := by
  unfold Block.vinEnter
  try dsimp only
  repeat' first
    | intro _
    | with_reducible first
      | assumption | apply Block.wrB_ok | apply Block.wr_ok
    | simp only [Block.ok_mk]
    | with_reducible apply Block.ok_of
    | split

theorem Block.v18Late_ok (b : Block) (hOk : b.Ok) : (Block.v18Late b).Ok := by
  unfold Block.v18Late
  try dsimp only
  repeat' first
    | intro _
    | with_reducible first
      | assumption | apply Block.wr_ok
    | simp only [Block.ok_mk]
    | with_reducible apply Block.ok_of
    | split

theorem Block.v18InRange_ok (b : Block) (hOk : b.Ok) : (Block.v18InRange b).Ok := by
  unfold Block.v18InRange
  try dsimp only
  repeat' first
    | intro _
    | with_reducible first
      | assumption | apply Block.wakeUp_ok | apply Block.wr_ok | apply Block.ok_of
    | split

theorem Block.vinLost_ok (vbat : Bool) (b : Block) (hOk : b.Ok) : (Block.vinLost vbat b).Ok := by
  unfold Block.vinLost
  try dsimp only
  repeat' first
    | intro _
    | with_reducible first
      | assumption | apply Block.wrB_ok | apply Block.descend_ok | apply Block.aonLoss_ok | apply Block.snapGate_ok
      | apply Block.cond_ok | apply Block.wr_ok
    | simp only [Block.ok_mk]
    | with_reducible apply Block.ok_of
    | split

theorem Block.pvAssert_ok (ball units : Nat) (b : Block) (hOk : b.Ok) : (Block.pvAssert ball units b).Ok := by
  unfold Block.pvAssert
  try dsimp only
  repeat' first
    | intro _
    | with_reducible first
      | assumption | apply Block.wakeUp_ok
    | simp only [Block.ok_mk]
    | with_reducible apply Block.ok_of
    | split

theorem Block.pvDeassert_ok (ball units : Nat) (b : Block) (hOk : b.Ok) : (Block.pvDeassert ball units b).Ok := by
  unfold Block.pvDeassert
  try dsimp only
  repeat' first
    | intro _
    | with_reducible first
      | assumption | apply Block.collapse_ok | apply Block.snapGate_ok | apply Block.cond_ok
    | simp only [Block.ok_mk]
    | with_reducible apply Block.ok_of
    | split

theorem Block.snapMinLost_ok (ball : Nat) (b : Block) (hOk : b.Ok) : (Block.snapMinLost ball b).Ok := by
  unfold Block.snapMinLost
  with_reducible repeat' first
    | intro _ | assumption | apply Block.descend_ok | apply Block.snapGate_ok | apply Block.cond_ok

theorem Block.vbatLow_ok (level : Nat) (b : Block) (hOk : b.Ok) : (Block.vbatLow level b).Ok := by
  unfold Block.vbatLow
  with_reducible repeat' first
    | intro _ | assumption | apply Block.verdict_ok | apply Block.err_ok | apply Block.descend_ok
    | apply Block.cond_ok | apply Block.wr_ok

theorem Block.vbatLost_ok (b : Block) (hOk : b.Ok) : (Block.vbatLost b).Ok := by
  unfold Block.vbatLost
  with_reducible repeat' first
    | intro _ | assumption | apply Block.aonLoss_ok | apply Block.cond_ok | apply Block.wr_ok

theorem Block.storeRwl_ok (page : Nat) (f : Fld) (w : Nat) (b : Block) (hOk : b.Ok) : (Block.storeRwl page f w b).Ok
  := by
  unfold Block.storeRwl
  try dsimp only
  repeat' first
    | intro _
    | with_reducible first
      | assumption | apply Block.clamped_ok | apply Block.cond_ok | apply Block.wr_ok | apply Block.ok_of
    | split

theorem Block.storeRwls_ok (page : Nat) (fs : List Fld) (w : Nat) (b : Block) (hOk : b.Ok) : (Block.storeRwls page fs
  w b).Ok := by
  unfold Block.storeRwls
  try dsimp only
  repeat' first
    | intro _
    | with_reducible first
      | assumption | apply Block.bumpGen_ok | apply Block.storeRwl_ok | apply Block.each_ok | apply Block.ok_of
    | split

theorem Block.softRegs_ok (p : Nat) (b : Block) (hOk : b.Ok) : (Block.softRegs p b).Ok := by
  unfold Block.softRegs
  with_reducible repeat' first
    | intro _ | assumption | apply Block.showTests_ok | apply Block.bumpGen_ok | apply Block.cond_ok
    | apply Block.each_ok | apply Block.wr_ok

theorem Block.softInner_ok (p : Nat) (b : Block) (hOk : b.Ok) : (Block.softInner p b).Ok := by
  unfold Block.softInner
  try dsimp only
  repeat' first
    | intro _
    | with_reducible first
      | assumption | apply Block.flashGiveUp_ok | apply Block.mbxSweep_ok | apply Block.mbxClear_ok
      | apply Block.setPwm_ok | apply Block.pwmForce_ok | apply Block.dtRestart_ok | apply Block.showDomains_ok
      | apply Block.request_ok | apply Block.showBitrate_ok | apply Block.showRx_ok | apply Block.showPred_ok
      | apply Block.forcedDone_ok | apply Block.setRadio_ok | apply Block.setTag_ok | apply Block.releaseExcess_ok
    | simp only [Block.ok_mk]
    | with_reducible apply Block.ok_of
    | split

theorem Block.softFlash_ok (b : Block) (hOk : b.Ok) : (Block.softFlash b).Ok := by
  unfold Block.softFlash
  try dsimp only
  repeat' first
    | intro _
    | with_reducible first
      | assumption
    | simp only [Block.ok_mk]
    | with_reducible apply Block.ok_of
    | split

theorem Block.canReset_ok (b : Block) (hOk : b.Ok) : (Block.canReset b).Ok := by
  unfold Block.canReset
  try dsimp only
  repeat' first
    | intro _
    | with_reducible first
      | assumption | apply Block.canJoin_ok | apply Block.softRegs_ok | apply Block.softInner_ok
      | apply Block.cond_ok
    | simp only [Block.ok_mk]
    | with_reducible apply Block.ok_of
    | split

theorem Block.afterBus_ok (f : Block → Block) (b : Block) (hOk : b.Ok) (hff : ∀ b, Block.Ok b → (f b).Ok) :
  (Block.afterBus f b).Ok := by
  unfold Block.afterBus
  with_reducible repeat' first
    | intro _ | assumption | apply Block.canReset_ok | apply Block.cond_ok | apply hff

theorem Block.softReset_ok (p : Nat) (b : Block) (hOk : b.Ok) : (Block.softReset p b).Ok := by
  unfold Block.softReset
  try dsimp only
  repeat' first
    | intro _
    | with_reducible first
      | assumption | apply Block.setSlot_ok | apply Block.disableSlot_ok | apply Block.canStop_ok
      | apply Block.canDisable_ok | apply Block.softRegs_ok | apply Block.softInner_ok | apply Block.softFlash_ok
      | apply Block.canReset_ok | apply Block.cond_ok | apply Block.each_ok
    | simp only [Block.ok_mk]
    | with_reducible apply Block.ok_of
    | split

theorem Block.enableWrite_ok (p : Nat) (en : Bool) (b : Block) (hOk : b.Ok) : (Block.enableWrite p en b).Ok := by
  unfold Block.enableWrite
  try dsimp only
  repeat' first
    | intro _
    | with_reducible first
      | assumption | apply Block.wrB_ok | apply Block.mbxSweep_ok | apply Block.pwmForce_ok
      | apply Block.counterRestart_ok | apply Block.adcEnable_ok | apply Block.canEnable_ok
      | apply Block.canDisable_ok | apply Block.cond_ok | apply Block.wr_ok
    | simp only [Block.ok_mk]
    | with_reducible apply Block.ok_of
    | split

theorem Block.freezeWrite_ok (p : Nat) (on : Bool) (b : Block) (hOk : b.Ok) : (Block.freezeWrite p on b).Ok := by
  unfold Block.freezeWrite
  try dsimp only
  repeat' first
    | intro _
    | with_reducible first
      | assumption | apply Block.wrB_ok | apply Block.pwmForce_ok | apply Block.counterRestart_ok
      | apply Block.abortPage_ok | apply Block.canSettle_ok | apply Block.tickFreeze_ok | apply Block.tickUnfreeze_ok
      | apply Block.cond_ok | apply Block.ok_of
    | split

theorem Block.lockWrite_ok (p : Nat) (b : Block) (hOk : b.Ok) : (Block.lockWrite p b).Ok := by
  unfold Block.lockWrite
  with_reducible repeat' first
    | intro _ | assumption | apply Block.wr_ok

theorem Block.pendWrite_ok (p w : Nat) (b : Block) (hOk : b.Ok) : (Block.pendWrite p w b).Ok := by
  unfold Block.pendWrite
  with_reducible repeat' first
    | intro _ | assumption | apply Block.showRx_ok | apply Block.cond_ok | apply Block.wr_ok

theorem Block.ctrlWrite_ok (a : Actor) (p w : Nat) (b : Block) (hOk : b.Ok) : (Block.ctrlWrite a p w b).Ok := by
  unfold Block.ctrlWrite
  with_reducible repeat' first
    | intro _ | assumption | apply Block.loadCommand_ok | apply Block.softReset_ok | apply Block.enableWrite_ok
    | apply Block.freezeWrite_ok | apply Block.cond_ok

theorem Block.countWord_ok (m : Nat) (b : Block) (hOk : b.Ok) : (Block.countWord m b).1.Ok := by
  unfold Block.countWord
  try dsimp only
  repeat' first
    | intro _
    | with_reducible first
      | assumption | apply Block.draw_ok | apply Block.ok_of
    | split

theorem Block.regWord_ok (p off : Nat) (b : Block) (hOk : b.Ok) : (Block.regWord p off b).1.Ok := by
  unfold Block.regWord
  try dsimp only
  repeat' first
    | intro _
    | with_reducible first
      | assumption | apply Block.countWord_ok | apply Block.wr_ok | apply Block.ok_of
    | split

theorem Block.clearRead_ok (p off : Nat) (b : Block) (hOk : b.Ok) : (Block.clearRead p off b).Ok := by
  unfold Block.clearRead
  try dsimp only
  repeat' first
    | intro _
    | with_reducible first
      | assumption | apply Block.each_ok | apply Block.wr_ok
    | simp only [Block.ok_mk]
    | with_reducible apply Block.ok_of
    | split

theorem Block.readReg_ok (a : Actor) (p off : Nat) (b : Block) (hOk : b.Ok) : (Block.readReg a p off b).Ok := by
  unfold Block.readReg
  try dsimp only
  repeat' first
    | intro _
    | with_reducible first
      | assumption | apply Block.answer_ok | apply Block.rxHdrTake_ok | apply Block.txDoneRead_ok
      | apply Block.w0Read_ok | apply Block.w3Read_ok | apply Block.trngRead_ok | apply Block.regWord_ok
      | apply Block.clearRead_ok | apply Block.cond_ok | apply Block.ok_of
    | split

theorem Block.wordRead_ok (a : Nat) (b : Block) (hOk : b.Ok) : (Block.wordRead a b).Ok := by
  unfold Block.wordRead
  try dsimp only
  repeat' first
    | intro _
    | with_reducible first
      | assumption | apply Block.answer_ok | apply Block.answerErr_ok | apply Block.fetch_ok | apply Block.draw_ok
    | simp only [Block.ok_mk]
    | with_reducible first
      | apply Block.ok_of | apply Block.ok_ite | apply Block.ok_ite_fst | apply Block.ok_ite_snd
      | refine Block.ok_fst (by assumption) ?_ | refine Block.ok_snd (by assumption) ?_
    | split

theorem Block.memRead_ok (who : Actor) (addr : Nat) (b : Block) (hOk : b.Ok) : (Block.memRead who addr b).Ok := by
  unfold Block.memRead
  try dsimp only
  repeat' first
    | intro _
    | with_reducible first
      | assumption | apply Block.answer_ok | apply Block.answerErr_ok | apply Block.accessEvent_ok
      | apply Block.wordRead_ok | apply Block.ok_of
    | split

theorem Block.regRead_ok (a : Actor) (addr : Nat) (b : Block) (hOk : b.Ok) : (Block.regRead a addr b).Ok := by
  unfold Block.regRead
  try dsimp only
  repeat' first
    | intro _
    | with_reducible first
      | assumption | apply Block.answer_ok | apply Block.accessEvent_ok | apply Block.readReg_ok
      | apply Block.memRead_ok | apply Block.cond_ok | apply Block.ok_of
    | split

theorem Block.storePlain_ok (f : Fld) (w : Nat) (b : Block) (hOk : b.Ok) : (Block.storePlain f w b).Ok := by
  unfold Block.storePlain
  try dsimp only
  repeat' first
    | intro _
    | with_reducible first
      | assumption | apply Block.wr_ok | apply Block.ok_of
    | split

theorem Block.storeCore_ok (a : Actor) (f : Fld) (w : Nat) (b : Block) (hOk : b.Ok) : (Block.storeCore a f w b).Ok :=
  by
  unfold Block.storeCore
  with_reducible repeat' first
    | intro _ | assumption | apply Block.cond_ok | apply Block.wr_ok

theorem Block.storeFields_ok (a : Actor) (p off w : Nat) (b : Block) (hOk : b.Ok) : (Block.storeFields a p off w b).Ok
  := by
  unfold Block.storeFields
  with_reducible repeat' first
    | intro _ | assumption | apply Block.storeRwls_ok | apply Block.storePlain_ok | apply Block.storeCore_ok
    | apply Block.each_ok

theorem Block.windowWrite_ok (s off w : Nat) (b : Block) (hOk : b.Ok) : (Block.windowWrite s off w b).Ok := by
  unfold Block.windowWrite
  try dsimp only
  repeat' first
    | intro _
    | with_reducible first
      | assumption | apply Block.err_ok | apply Block.storeRwls_ok | apply Block.ok_of
    | split

theorem Block.cfgWrite_ok (n w : Nat) (b : Block) (hOk : b.Ok) : (Block.cfgWrite n w b).Ok := by
  unfold Block.cfgWrite
  with_reducible repeat' first
    | intro _ | assumption | apply Block.mbxSweep_ok | apply Block.storeFields_ok

theorem Block.mstatWrite_ok (a : Actor) (n w : Nat) (b : Block) (hOk : b.Ok) : (Block.mstatWrite a n w b).Ok := by
  unfold Block.mstatWrite
  try dsimp only
  repeat' first
    | intro _
    | with_reducible first
      | assumption | apply Block.err_ok | apply Block.storeFields_ok | apply Block.ok_of
    | split

theorem Block.txPtrWrite_ok (a : Actor) (n w : Nat) (b : Block) (hOk : b.Ok) : (Block.txPtrWrite a n w b).Ok := by
  unfold Block.txPtrWrite
  try dsimp only
  repeat' first
    | intro _
    | with_reducible first
      | assumption | apply Block.err_ok | apply Block.wr_ok | apply Block.ok_of
    | split

theorem Block.mbxWrite_ok (a : Actor) (off w : Nat) (b : Block) (hOk : b.Ok) : (Block.mbxWrite a off w b).Ok := by
  unfold Block.mbxWrite
  try dsimp only
  repeat' first
    | intro _
    | with_reducible first
      | assumption | apply Block.mbxPost_ok | apply Block.cfgWrite_ok | apply Block.mstatWrite_ok
      | apply Block.txPtrWrite_ok | apply Block.ok_of
    | split

theorem Block.dutyWrite_ok (m l w : Nat) (b : Block) (hOk : b.Ok) : (Block.dutyWrite m l w b).Ok := by
  unfold Block.dutyWrite
  try dsimp only
  repeat' first
    | intro _
    | with_reducible first
      | assumption | apply Block.err_ok | apply Block.wr_ok | apply Block.ok_of
    | split

theorem Block.pwmWrite_ok (a : Actor) (m off w : Nat) (b : Block) (hOk : b.Ok) : (Block.pwmWrite a m off w b).Ok := by
  unfold Block.pwmWrite
  try dsimp only
  repeat' first
    | intro _
    | with_reducible first
      | assumption | apply Block.dtHold_ok | apply Block.faultClear_ok | apply Block.commWrite_ok
      | apply Block.storeFields_ok | apply Block.dutyWrite_ok | apply Block.cond_ok | apply Block.ok_of
    | split

theorem Block.loopPageWrite_ok (a : Actor) (p off w : Nat) (b : Block) (hOk : b.Ok) : (Block.loopPageWrite a p off w
  b).Ok := by
  unfold Block.loopPageWrite
  try dsimp only
  repeat' first
    | intro _
    | with_reducible first
      | assumption | apply Block.endInjection_ok | apply Block.endCapture_ok | apply Block.modeRequest_ok
      | apply Block.injectStart_ok | apply Block.captureStart_ok | apply Block.storeFields_ok
      | apply Block.windowWrite_ok | apply Block.cond_ok | apply Block.ok_of
    | split

theorem Block.snapCut_ok (b : Block) (hOk : b.Ok) : (Block.snapCut b).Ok := by
  unfold Block.snapCut
  try dsimp only
  repeat' first
    | intro _
    | with_reducible first
      | assumption | apply Block.grabEnd_ok | apply Block.each_ok
    | simp only [Block.ok_mk]
    | with_reducible apply Block.ok_of
    | split

theorem Block.gnssWrite_ok (a : Actor) (p off w : Nat) (b : Block) (hOk : b.Ok) : (Block.gnssWrite a p off w b).Ok :=
  by
  unfold Block.gnssWrite
  try dsimp only
  repeat' first
    | intro _
    | with_reducible first
      | assumption | apply Block.biasSwitch_ok | apply Block.notchApply_ok | apply Block.acqStart_ok
      | apply Block.acqAbort_ok | apply Block.fftStart_ok | apply Block.fftAbort_ok | apply Block.chanConf_ok
      | apply Block.postRecord_ok | apply Block.snapStart_ok | apply Block.storeFields_ok | apply Block.snapCut_ok
      | apply Block.cond_ok | apply Block.ok_of
    | split

theorem Block.canWrite_ok (a : Actor) (p off w : Nat) (b : Block) (hOk : b.Ok) : (Block.canWrite a p off w b).Ok := by
  unfold Block.canWrite
  try dsimp only
  repeat' first
    | intro _
    | with_reducible first
      | assumption | apply Block.showBitrate_ok | apply Block.canSettle_ok | apply Block.recover_ok
      | apply Block.txPush_ok | apply Block.txDmaGo_ok | apply Block.txAbort_ok | apply Block.showRx_ok
      | apply Block.releaseExcess_ok | apply Block.storeFields_ok | apply Block.cond_ok | apply Block.wr_ok
    | simp only [Block.ok_mk]
    | with_reducible apply Block.ok_of
    | split

theorem Block.systemWrite_ok (a : Actor) (p off w : Nat) (b : Block) (hOk : b.Ok) : (Block.systemWrite a p off w b).Ok
  := by
  unfold Block.systemWrite
  try dsimp only
  repeat' first
    | intro _
    | with_reducible first
      | assumption | apply Block.seed_ok | apply Block.flashTurn_ok | apply Block.mbxSweep_ok
      | apply Block.showDomains_ok | apply Block.abortOff_ok | apply Block.abortAll_ok | apply Block.request_ok
      | apply Block.retest_ok | apply Block.safetyClr_ok | apply Block.safetyRestart_ok | apply Block.repClr_ok
      | apply Block.wrGo_ok | apply Block.flushCmd_ok | apply Block.foundClr_ok | apply Block.clrKeyWrite_ok
      | apply Block.ledAck_ok | apply Block.lcKeyWrite_ok | apply Block.lcAdvance_ok | apply Block.keyOpStart_ok
      | apply Block.jobStart_ok | apply Block.jobAbort_ok | apply Block.dbgReq_ok | apply Block.calStart_ok
      | apply Block.flashStart_ok | apply Block.flashAbort_ok | apply Block.rxPop_ok | apply Block.txGo_ok
      | apply Block.bcnPost_ok | apply Block.authRst_ok | apply Block.tagCommit_ok | apply Block.tagAbort_ok
      | apply Block.updOpen_ok | apply Block.updCloseCmd_ok | apply Block.updAccept_ok | apply Block.updActivate_ok
      | apply Block.updDisarm_ok | apply Block.eccInject_ok | apply Block.fenceCommit_ok | apply Block.bwlWrite_ok
      | apply Block.gateCaptures_ok | apply Block.storeFields_ok | apply Block.cond_ok | apply Block.draw_ok
      | apply Block.wr_ok
    | simp only [Block.ok_mk]
    | with_reducible apply Block.ok_of
    | split

theorem Block.galWrite_ok (a : Actor) (p off w : Nat) (b : Block) (hOk : b.Ok) : (Block.galWrite a p off w b).Ok := by
  unfold Block.galWrite
  try dsimp only
  repeat' first
    | intro _
    | with_reducible first
      | assumption | apply Block.showPred_ok | apply Block.showEmax_ok | apply Block.boundaryLoad_ok
      | apply Block.ckptStart_ok | apply Block.clearCmd_ok | apply Block.storeFields_ok | apply Block.cond_ok
      | apply Block.ok_of
    | split

theorem Block.writeReg_ok (a : Actor) (p off w : Nat) (b : Block) (hOk : b.Ok) : (Block.writeReg a p off w b).Ok := by
  unfold Block.writeReg
  try dsimp only
  repeat' first
    | intro _
    | with_reducible first
      | assumption | apply Block.pwmForce_ok | apply Block.abortPage_ok | apply Block.testStart_ok
      | apply Block.lockWrite_ok | apply Block.pendWrite_ok | apply Block.ctrlWrite_ok | apply Block.storeFields_ok
      | apply Block.mbxWrite_ok | apply Block.pwmWrite_ok | apply Block.loopPageWrite_ok | apply Block.gnssWrite_ok
      | apply Block.canWrite_ok | apply Block.systemWrite_ok | apply Block.galWrite_ok | apply Block.cond_ok
      | apply Block.wr_ok
    | simp only [Block.ok_mk]
    | with_reducible first
      | apply Block.ok_of | apply Block.ok_ite | apply Block.ok_ite_fst | apply Block.ok_ite_snd
      | refine Block.ok_fst (by assumption) ?_ | refine Block.ok_snd (by assumption) ?_
    | split

theorem Block.wordWrite_ok (a w : Nat) (b : Block) (hOk : b.Ok) : (Block.wordWrite a w b).Ok := by
  unfold Block.wordWrite
  try dsimp only
  repeat' first
    | intro _
    | with_reducible first
      | assumption | apply Block.store_ok | apply Block.tagWindowWrite_ok | apply Block.ok_of
    | split

theorem Block.memWrite_ok (who : Actor) (addr w : Nat) (b : Block) (hOk : b.Ok) : (Block.memWrite who addr w b).Ok := by
  unfold Block.memWrite
  try dsimp only
  repeat' first
    | intro _
    | with_reducible first
      | assumption | apply Block.answerErr_ok | apply Block.accessEvent_ok | apply Block.wordWrite_ok
      | apply Block.ok_of
    | split

theorem Block.regWrite_ok (a : Actor) (addr w : Nat) (b : Block) (hOk : b.Ok) : (Block.regWrite a addr w b).Ok := by
  unfold Block.regWrite
  try dsimp only
  repeat' first
    | intro _
    | with_reducible first
      | assumption | apply Block.accessEvent_ok | apply Block.writeReg_ok | apply Block.memWrite_ok
      | apply Block.cond_ok | apply Block.ok_of
    | split

theorem Block.debugMem_ok (a : Nat) (b : Block) (hOk : b.Ok) : (Block.debugMem a b).Ok := by
  unfold Block.debugMem
  try dsimp only
  repeat' first
    | intro _
    | with_reducible first
      | assumption | apply Block.answer_ok | apply Block.accessEvent_ok | apply Block.wordRead_ok
    | simp only [Block.ok_mk]
    | with_reducible first
      | apply Block.ok_of | apply Block.ok_ite | apply Block.ok_ite_fst | apply Block.ok_ite_snd
      | refine Block.ok_fst (by assumption) ?_ | refine Block.ok_snd (by assumption) ?_
    | split

theorem Block.dread_ok (a : Nat) (b : Block) (hOk : b.Ok) : (Block.dread a b).Ok := by
  unfold Block.dread
  try dsimp only
  repeat' first
    | intro _
    | with_reducible first
      | assumption | apply Block.answer_ok | apply Block.accessEvent_ok | apply Block.setIr_ok
      | apply Block.regRead_ok | apply Block.debugMem_ok | apply Block.ok_of
    | split

theorem Block.dreadWrite_ok (a w : Nat) (b : Block) (hOk : b.Ok) : (Block.dreadWrite a w b).Ok := by
  unfold Block.dreadWrite
  try dsimp only
  repeat' first
    | intro _
    | with_reducible first
      | assumption | apply Block.accessEvent_ok | apply Block.setIr_ok | apply Block.regWrite_ok | apply Block.ok_of
    | split

theorem Block.dacc_ok (a : Nat) (b : Block) (hOk : b.Ok) : (Block.dacc a b).Ok := by
  unfold Block.dacc
  try dsimp only
  repeat' first
    | intro _
    | with_reducible first
      | assumption | apply Block.answer_ok | apply Block.setIr_ok | apply Block.regRead_ok | apply Block.debugMem_ok
      | apply Block.ok_of
    | split

theorem Block.daccWrite_ok (a w : Nat) (b : Block) (hOk : b.Ok) : (Block.daccWrite a w b).Ok := by
  unfold Block.daccWrite
  try dsimp only
  repeat' first
    | intro _
    | with_reducible first
      | assumption | apply Block.accessEvent_ok | apply Block.setIr_ok | apply Block.wordWrite_ok
      | apply Block.regWrite_ok | apply Block.ok_of
    | split

theorem Block.verdictRecords_ok (b : Block) (hOk : b.Ok) : (Block.verdictRecords b).1.Ok := by
  unfold Block.verdictRecords
  try dsimp only
  repeat' first
    | intro _
    | with_reducible first
      | assumption | apply Block.readRange_ok
    | simp only [Block.ok_mk]
    | with_reducible first
      | apply Block.ok_of | apply Block.ok_ite | apply Block.ok_ite_fst | apply Block.ok_ite_snd
      | refine Block.ok_fst (by assumption) ?_ | refine Block.ok_snd (by assumption) ?_
      | refine Block.ok_foldl _ _ ?_ ?_ | refine Block.ok_foldl_fst _ _ ?_ ?_
    | split

theorem Block.cardWrite_ok (b : Block) (hOk : b.Ok) : (Block.cardWrite b).Ok := by
  unfold Block.cardWrite
  with_reducible repeat' first
    | intro _ | assumption | apply Block.tagJob_ok | apply Block.tagAbort_ok | apply Block.verdictRecords_ok
    | apply Block.wr_ok

theorem Block.cardLine_ok (k : Nat) (text : List Byte) (b : Block) (hOk : b.Ok) : (Block.cardLine k text b).Ok := by
  unfold Block.cardLine
  with_reducible repeat' first
    | intro _ | assumption | apply Block.setBytes_ok

theorem Block.lifecycleRead_ok (b : Block) (hOk : b.Ok) : (Block.lifecycleRead b).Ok := by
  unfold Block.lifecycleRead
  try dsimp only
  repeat' first
    | intro _
    | with_reducible first
      | assumption | apply Block.verdict_ok | apply Block.err_ok | apply Block.zeroSlot_ok | apply Block.cond_ok
      | apply Block.each_ok | apply Block.wr_ok
    | simp only [Block.ok_mk]
    | with_reducible apply Block.ok_of
    | split

theorem Block.placeKey_ok (n : Nat) (key : Option (List Byte)) (b : Block) (hOk : b.Ok) : (Block.placeKey n key b).Ok
  := by
  unfold Block.placeKey
  try dsimp only
  repeat' first
    | intro _
    | with_reducible first
      | assumption | apply Block.showSlots_ok
    | simp only [Block.ok_mk]
    | with_reducible apply Block.ok_of
    | split

theorem Block.secretKeys_ok (b : Block) (hOk : b.Ok) : (Block.secretKeys b).Ok := by
  unfold Block.secretKeys
  with_reducible repeat' first
    | intro _ | assumption | apply Block.placeKey_ok

theorem Block.enterKey_ok (n : Nat) (key : List Byte) (b : Block) (hOk : b.Ok) : (Block.enterKey n key b).1.Ok := by
  unfold Block.enterKey
  try dsimp only
  repeat' first
    | intro _
    | with_reducible first
      | assumption | apply Block.err_ok | apply Block.placeKey_ok | apply Block.ok_of
    | split

theorem Block.showIdentity_ok (b : Block) (hOk : b.Ok) : (Block.showIdentity b).Ok := by
  unfold Block.showIdentity
  with_reducible repeat' first
    | intro _ | assumption | apply Block.showOtp_ok | apply Block.wr_ok

theorem Block.bootCheck_ok (b : Block) (hOk : b.Ok) : (Block.bootCheck b).1.Ok := by
  unfold Block.bootCheck
  try dsimp only
  repeat' first
    | intro _
    | with_reducible first
      | assumption | apply Block.enterKey_ok | apply Block.ok_of
    | split

theorem Block.confSkip_ok (page reason off n pos : Nat) (b : Block) (hOk : b.Ok) : (Block.confSkip page reason off n
  pos b).Ok := by
  unfold Block.confSkip
  with_reducible repeat' first
    | intro _ | assumption | apply Block.inc_ok | apply Block.irq_ok | apply Block.recordReport_ok

theorem Block.confApply_ok (pos page off n : Nat) (b : Block) (hOk : b.Ok) : (Block.confApply pos page off n b).Ok :=
  by
  unfold Block.confApply
  with_reducible repeat' first
    | intro _ | assumption | apply Block.inc_ok | apply Block.regWrite_ok | apply Block.each_ok

theorem Block.confFrom_ok (fuel pos : Nat) (b : Block) (hOk : b.Ok) : (b.confFrom fuel pos).Ok := by
  induction fuel generalizing pos b with
  | zero => exact hOk
  | succ n ih =>
    unfold Block.confFrom
    dsimp only
    repeat' first
      | intro _ | with_reducible assumption
      | with_reducible apply ih
      | with_reducible apply Block.wr_ok
      | with_reducible apply Block.irq_ok
      | with_reducible apply Block.recordReport_ok
      | with_reducible apply Block.confSkip_ok
      | with_reducible apply Block.confApply_ok
      | simp only [Block.ok_mk] | with_reducible apply Block.ok_of | with_reducible apply Block.ok_ite
      | with_reducible apply Block.ok_ite_fst | with_reducible refine Block.ok_fst (by assumption) ?_ | split

theorem Block.confReplay_ok (b : Block) (hOk : b.Ok) : (Block.confReplay b).Ok := by
  unfold Block.confReplay
  with_reducible repeat' first
    | intro _ | assumption | apply Block.verdict_ok | apply Block.confFrom_ok | apply Block.cond_ok

theorem Block.aonRebuild_ok (b : Block) (hOk : b.Ok) : (Block.aonRebuild b).Ok := by
  unfold Block.aonRebuild
  try dsimp only
  repeat' first
    | intro _
    | with_reducible first
      | assumption | apply Block.readRange_ok | apply Block.cond_ok | apply Block.wr_ok
    | simp only [Block.ok_mk]
    | with_reducible apply Block.ok_of
    | split

theorem Block.supplyVerdicts_ok (b : Block) (hOk : b.Ok) : (Block.supplyVerdicts b).Ok := by
  unfold Block.supplyVerdicts
  try dsimp only
  repeat' first
    | intro _
    | with_reducible first
      | assumption | apply Block.verdict_ok | apply Block.err_ok | apply Block.cond_ok
    | simp only [Block.ok_mk]
    | with_reducible apply Block.ok_of
    | split

theorem Block.startEvents_ok (b : Block) (hOk : b.Ok) : (Block.startEvents b).Ok := by
  unfold Block.startEvents
  with_reducible repeat' first
    | intro _ | assumption | apply Block.sysEvent_ok | apply Block.supplyVerdicts_ok | apply Block.cond_ok

theorem Block.rebuild_ok (b : Block) (hOk : b.Ok) : (Block.rebuild b).Ok := by
  unfold Block.rebuild
  with_reducible repeat' first
    | intro _ | assumption | apply Block.logRestore_ok | apply Block.lockoutCheck_ok | apply Block.tagPassword_ok
    | apply Block.updRebuild_ok | apply Block.aonRebuild_ok | apply Block.startEvents_ok

theorem Block.loaderFail_ok (b : Block) (hOk : b.Ok) : (Block.loaderFail b).Ok := by
  unfold Block.loaderFail
  with_reducible repeat' first
    | intro _ | assumption | apply Block.verdict_ok | apply Block.enterSafe_ok | apply Block.showTag_ok
    | apply Block.commitPage_ok | apply Block.cardLine_ok

theorem Block.startMode_ok (b : Block) (hOk : b.Ok) : (Block.startMode b).Ok := by
  unfold Block.startMode
  try dsimp only
  repeat' first
    | intro _
    | with_reducible first
      | assumption | apply Block.verdict_ok | apply Block.err_ok | apply Block.enterSafe_ok
      | apply Block.cardWrite_ok | apply Block.ok_of
    | split

theorem Block.updDone_ok (b : Block) (hOk : b.Ok) : (Block.updDone b).Ok := by
  unfold Block.updDone
  with_reducible repeat' first
    | intro _ | assumption | apply Block.sysEvent_ok | apply Block.updClose_ok | apply Block.cond_ok

theorem Block.imageUp_ok (b : Block) (hOk : b.Ok) : (Block.imageUp b).Ok := by
  unfold Block.imageUp
  try dsimp only
  repeat' first
    | intro _
    | with_reducible first
      | assumption | apply Block.showSource_ok | apply Block.mbxClear_ok | apply Block.pwmForce_ok
      | apply Block.mainReset_ok | apply Block.wr_ok
    | simp only [Block.ok_mk]
    | with_reducible apply Block.ok_of
    | split

theorem Block.stage0_ok (b : Block) (hOk : b.Ok) : (Block.stage0 b).Ok := by
  unfold Block.stage0
  try dsimp only
  repeat' first
    | intro _
    | with_reducible first
      | assumption | apply Block.relevel_ok | apply Block.endAuth_ok | apply Block.showDomains_ok
      | apply Block.calLoad_ok | apply Block.calCutCheck_ok | apply Block.mainReset_ok | apply Block.warmUp_ok
      | apply Block.tickStart_ok | apply Block.lifecycleRead_ok | apply Block.secretKeys_ok
      | apply Block.showIdentity_ok | apply Block.cond_ok | apply Block.wr_ok
    | simp only [Block.ok_mk]
    | with_reducible apply Block.ok_of
    | split

theorem Block.startImage_ok (ks06 : List Byte) (b : Block) (hOk : b.Ok) : (Block.startImage ks06 b).Ok := by
  unfold Block.startImage
  try dsimp only
  repeat' first
    | intro _
    | with_reducible first
      | assumption | apply Block.wrB_ok | apply Block.startCause_ok | apply Block.loaderCopy_ok
      | apply Block.bindRead_ok | apply Block.enterKey_ok | apply Block.bootCheck_ok | apply Block.confReplay_ok
      | apply Block.rebuild_ok | apply Block.startMode_ok | apply Block.updDone_ok | apply Block.imageUp_ok
      | apply Block.cond_ok | apply Block.wr_ok | apply Block.ok_of
    | split

theorem Block.start_ok (loaderOk : Bool) (ks06 : List Byte) (b : Block) (hOk : b.Ok) : (Block.start loaderOk ks06
  b).Ok := by
  unfold Block.start
  try dsimp only
  repeat' first
    | intro _
    | with_reducible first
      | assumption | apply Block.pwmForce_ok | apply Block.mainReset_ok | apply Block.wake_ok
      | apply Block.rebuild_ok | apply Block.loaderFail_ok | apply Block.stage0_ok | apply Block.startImage_ok
    | simp only [Block.ok_mk]
    | with_reducible apply Block.ok_of
    | split

end Sys2Proof.Machine
end

