-- ==== Sys2Proof/Laws/State.lean ====
section
/-! SUPPORT. Reading a state after an update: registers, bytes and the parts of the block that an update leaves alone. -/

namespace Sys2Proof.Machine
namespace Block

/-- A field written reads as the value cut to its width; a field of another place reads as before. -/
theorem rd_wr (f g : Fld) (v : Nat) (b : Block) (h : f.width ≤ 32) (hr : g.key = f.key → g.width = f.width ∧ g.reset = f.reset) :
    (b.wr f v).rd g = if g.key = f.key then v % 2 ^ f.width else b.rd g := by
  split
  · next e =>
    have : (b.regs.set f v).get g = (b.regs.set f v).get f := by simp [RegFile.get, e, (hr e).2]
    simp only [rd, wr, this, RegFile.get_set_same _ _ _ h]
  · next e => exact RegFile.get_set_ne _ _ _ _ e

theorem rd_wr_same (f : Fld) (v : Nat) (b : Block) (h : f.width ≤ 32) : (b.wr f v).rd f = v % 2 ^ f.width :=
  RegFile.get_set_same _ _ _ h

theorem rd_wr_ne (f g : Fld) (v : Nat) (b : Block) (h : g.key ≠ f.key) : (b.wr f v).rd g = b.rd g :=
  RegFile.get_set_ne _ _ _ _ h

theorem byte_setByte (a a' : Nat) (v : Byte) (b : Block) :
    (b.setByte a v).byte a' = if a' = a then v else b.byte a' := by
  split
  · next e => subst e; exact Store.find_put_same _ _ _ _
  · next e => exact Store.find_put_ne _ e _ _

/-! Field by field: an update leaves every other part of the block alone. -/

@[simp] theorem wr_mem (f : Fld) (v : Nat) (b : Block) : (b.wr f v).mem = b.mem := rfl
@[simp] theorem wr_flips (f : Fld) (v : Nat) (b : Block) : (b.wr f v).flips = b.flips := rfl
@[simp] theorem wr_ramGnss (f : Fld) (v : Nat) (b : Block) : (b.wr f v).ramGnss = b.ramGnss := rfl
@[simp] theorem wr_ramRadio (f : Fld) (v : Nat) (b : Block) : (b.wr f v).ramRadio = b.ramRadio := rfl
@[simp] theorem wr_ramLoop (f : Fld) (v : Nat) (b : Block) : (b.wr f v).ramLoop = b.ramLoop := rfl
@[simp] theorem wr_ft (f : Fld) (v : Nat) (b : Block) : (b.wr f v).ft = b.ft := rfl
@[simp] theorem wr_now (f : Fld) (v : Nat) (b : Block) : (b.wr f v).now = b.now := rfl
@[simp] theorem wr_edges (f : Fld) (v : Nat) (b : Block) : (b.wr f v).edges = b.edges := rfl
@[simp] theorem wr_free (f : Fld) (v : Nat) (b : Block) : (b.wr f v).free = b.free := rfl
@[simp] theorem wr_resp (f : Fld) (v : Nat) (b : Block) : (b.wr f v).resp = b.resp := rfl
@[simp] theorem wr_log (f : Fld) (v : Nat) (b : Block) : (b.wr f v).log = b.log := rfl
@[simp] theorem wr_test (f : Fld) (v : Nat) (b : Block) : (b.wr f v).test = b.test := rfl
@[simp] theorem wr_md (f : Fld) (v : Nat) (b : Block) : (b.wr f v).md = b.md := rfl
@[simp] theorem wr_tick (f : Fld) (v : Nat) (b : Block) : (b.wr f v).tick = b.tick := rfl
@[simp] theorem wr_sec (f : Fld) (v : Nat) (b : Block) : (b.wr f v).sec = b.sec := rfl
@[simp] theorem wr_dbg (f : Fld) (v : Nat) (b : Block) : (b.wr f v).dbg = b.dbg := rfl
@[simp] theorem wr_cal (f : Fld) (v : Nat) (b : Block) : (b.wr f v).cal = b.cal := rfl
@[simp] theorem wr_flash (f : Fld) (v : Nat) (b : Block) : (b.wr f v).flash = b.flash := rfl
@[simp] theorem wr_sram (f : Fld) (v : Nat) (b : Block) : (b.wr f v).sram = b.sram := rfl
@[simp] theorem wr_mbx (f : Fld) (v : Nat) (b : Block) : (b.wr f v).mbx = b.mbx := rfl
@[simp] theorem wr_host (f : Fld) (v : Nat) (b : Block) : (b.wr f v).host = b.host := rfl
@[simp] theorem wr_drive (f : Fld) (v : Nat) (b : Block) : (b.wr f v).drive = b.drive := rfl
@[simp] theorem wr_adc (f : Fld) (v : Nat) (b : Block) : (b.wr f v).adc = b.adc := rfl
@[simp] theorem wr_loop (f : Fld) (v : Nat) (b : Block) : (b.wr f v).loop = b.loop := rfl
@[simp] theorem wr_agents (f : Fld) (v : Nat) (b : Block) : (b.wr f v).agents = b.agents := rfl
@[simp] theorem wr_safe (f : Fld) (v : Nat) (b : Block) : (b.wr f v).safe = b.safe := rfl
@[simp] theorem wr_tag (f : Fld) (v : Nat) (b : Block) : (b.wr f v).tag = b.tag := rfl
@[simp] theorem wr_radio (f : Fld) (v : Nat) (b : Block) : (b.wr f v).radio = b.radio := rfl
@[simp] theorem wr_time (f : Fld) (v : Nat) (b : Block) : (b.wr f v).time = b.time := rfl
@[simp] theorem wr_can (f : Fld) (v : Nat) (b : Block) : (b.wr f v).can = b.can := rfl
@[simp] theorem wr_lip (f : Fld) (v : Nat) (b : Block) : (b.wr f v).lip = b.lip := rfl
@[simp] theorem wr_gal (f : Fld) (v : Nat) (b : Block) : (b.wr f v).gal = b.gal := rfl
@[simp] theorem wr_cap (f : Fld) (v : Nat) (b : Block) : (b.wr f v).cap = b.cap := rfl
@[simp] theorem wr_gnss (f : Fld) (v : Nat) (b : Block) : (b.wr f v).gnss = b.gnss := rfl
@[simp] theorem wr_upd (f : Fld) (v : Nat) (b : Block) : (b.wr f v).upd = b.upd := rfl
@[simp] theorem wr_clamps (f : Fld) (v : Nat) (b : Block) : (b.wr f v).clamps = b.clamps := rfl

@[simp] theorem setByte_regs (a : Nat) (v : Byte) (b : Block) : (b.setByte a v).regs = b.regs := rfl
@[simp] theorem setByte_flips (a : Nat) (v : Byte) (b : Block) : (b.setByte a v).flips = b.flips := rfl
@[simp] theorem setByte_ramGnss (a : Nat) (v : Byte) (b : Block) : (b.setByte a v).ramGnss = b.ramGnss := rfl
@[simp] theorem setByte_ramRadio (a : Nat) (v : Byte) (b : Block) : (b.setByte a v).ramRadio = b.ramRadio := rfl
@[simp] theorem setByte_ramLoop (a : Nat) (v : Byte) (b : Block) : (b.setByte a v).ramLoop = b.ramLoop := rfl
@[simp] theorem setByte_ft (a : Nat) (v : Byte) (b : Block) : (b.setByte a v).ft = b.ft := rfl
@[simp] theorem setByte_now (a : Nat) (v : Byte) (b : Block) : (b.setByte a v).now = b.now := rfl
@[simp] theorem setByte_edges (a : Nat) (v : Byte) (b : Block) : (b.setByte a v).edges = b.edges := rfl
@[simp] theorem setByte_free (a : Nat) (v : Byte) (b : Block) : (b.setByte a v).free = b.free := rfl
@[simp] theorem setByte_resp (a : Nat) (v : Byte) (b : Block) : (b.setByte a v).resp = b.resp := rfl
@[simp] theorem setByte_log (a : Nat) (v : Byte) (b : Block) : (b.setByte a v).log = b.log := rfl
@[simp] theorem setByte_test (a : Nat) (v : Byte) (b : Block) : (b.setByte a v).test = b.test := rfl
@[simp] theorem setByte_md (a : Nat) (v : Byte) (b : Block) : (b.setByte a v).md = b.md := rfl
@[simp] theorem setByte_tick (a : Nat) (v : Byte) (b : Block) : (b.setByte a v).tick = b.tick := rfl
@[simp] theorem setByte_sec (a : Nat) (v : Byte) (b : Block) : (b.setByte a v).sec = b.sec := rfl
@[simp] theorem setByte_dbg (a : Nat) (v : Byte) (b : Block) : (b.setByte a v).dbg = b.dbg := rfl
@[simp] theorem setByte_cal (a : Nat) (v : Byte) (b : Block) : (b.setByte a v).cal = b.cal := rfl
@[simp] theorem setByte_flash (a : Nat) (v : Byte) (b : Block) : (b.setByte a v).flash = b.flash := rfl
@[simp] theorem setByte_sram (a : Nat) (v : Byte) (b : Block) : (b.setByte a v).sram = b.sram := rfl
@[simp] theorem setByte_mbx (a : Nat) (v : Byte) (b : Block) : (b.setByte a v).mbx = b.mbx := rfl
@[simp] theorem setByte_host (a : Nat) (v : Byte) (b : Block) : (b.setByte a v).host = b.host := rfl
@[simp] theorem setByte_drive (a : Nat) (v : Byte) (b : Block) : (b.setByte a v).drive = b.drive := rfl
@[simp] theorem setByte_adc (a : Nat) (v : Byte) (b : Block) : (b.setByte a v).adc = b.adc := rfl
@[simp] theorem setByte_loop (a : Nat) (v : Byte) (b : Block) : (b.setByte a v).loop = b.loop := rfl
@[simp] theorem setByte_agents (a : Nat) (v : Byte) (b : Block) : (b.setByte a v).agents = b.agents := rfl
@[simp] theorem setByte_safe (a : Nat) (v : Byte) (b : Block) : (b.setByte a v).safe = b.safe := rfl
@[simp] theorem setByte_tag (a : Nat) (v : Byte) (b : Block) : (b.setByte a v).tag = b.tag := rfl
@[simp] theorem setByte_radio (a : Nat) (v : Byte) (b : Block) : (b.setByte a v).radio = b.radio := rfl
@[simp] theorem setByte_time (a : Nat) (v : Byte) (b : Block) : (b.setByte a v).time = b.time := rfl
@[simp] theorem setByte_can (a : Nat) (v : Byte) (b : Block) : (b.setByte a v).can = b.can := rfl
@[simp] theorem setByte_lip (a : Nat) (v : Byte) (b : Block) : (b.setByte a v).lip = b.lip := rfl
@[simp] theorem setByte_gal (a : Nat) (v : Byte) (b : Block) : (b.setByte a v).gal = b.gal := rfl
@[simp] theorem setByte_cap (a : Nat) (v : Byte) (b : Block) : (b.setByte a v).cap = b.cap := rfl
@[simp] theorem setByte_gnss (a : Nat) (v : Byte) (b : Block) : (b.setByte a v).gnss = b.gnss := rfl
@[simp] theorem setByte_upd (a : Nat) (v : Byte) (b : Block) : (b.setByte a v).upd = b.upd := rfl
@[simp] theorem setByte_clamps (a : Nat) (v : Byte) (b : Block) : (b.setByte a v).clamps = b.clamps := rfl

@[simp] theorem setFlip_regs (a : Nat) (m : BitVec 39) (b : Block) : (b.setFlip a m).regs = b.regs := rfl
@[simp] theorem setFlip_mem (a : Nat) (m : BitVec 39) (b : Block) : (b.setFlip a m).mem = b.mem := rfl
@[simp] theorem setFlip_ramGnss (a : Nat) (m : BitVec 39) (b : Block) : (b.setFlip a m).ramGnss = b.ramGnss := rfl
@[simp] theorem setFlip_ramRadio (a : Nat) (m : BitVec 39) (b : Block) : (b.setFlip a m).ramRadio = b.ramRadio := rfl
@[simp] theorem setFlip_ramLoop (a : Nat) (m : BitVec 39) (b : Block) : (b.setFlip a m).ramLoop = b.ramLoop := rfl
@[simp] theorem setFlip_ft (a : Nat) (m : BitVec 39) (b : Block) : (b.setFlip a m).ft = b.ft := rfl
@[simp] theorem setFlip_now (a : Nat) (m : BitVec 39) (b : Block) : (b.setFlip a m).now = b.now := rfl
@[simp] theorem setFlip_edges (a : Nat) (m : BitVec 39) (b : Block) : (b.setFlip a m).edges = b.edges := rfl
@[simp] theorem setFlip_free (a : Nat) (m : BitVec 39) (b : Block) : (b.setFlip a m).free = b.free := rfl
@[simp] theorem setFlip_resp (a : Nat) (m : BitVec 39) (b : Block) : (b.setFlip a m).resp = b.resp := rfl
@[simp] theorem setFlip_log (a : Nat) (m : BitVec 39) (b : Block) : (b.setFlip a m).log = b.log := rfl
@[simp] theorem setFlip_test (a : Nat) (m : BitVec 39) (b : Block) : (b.setFlip a m).test = b.test := rfl
@[simp] theorem setFlip_md (a : Nat) (m : BitVec 39) (b : Block) : (b.setFlip a m).md = b.md := rfl
@[simp] theorem setFlip_tick (a : Nat) (m : BitVec 39) (b : Block) : (b.setFlip a m).tick = b.tick := rfl
@[simp] theorem setFlip_sec (a : Nat) (m : BitVec 39) (b : Block) : (b.setFlip a m).sec = b.sec := rfl
@[simp] theorem setFlip_dbg (a : Nat) (m : BitVec 39) (b : Block) : (b.setFlip a m).dbg = b.dbg := rfl
@[simp] theorem setFlip_cal (a : Nat) (m : BitVec 39) (b : Block) : (b.setFlip a m).cal = b.cal := rfl
@[simp] theorem setFlip_flash (a : Nat) (m : BitVec 39) (b : Block) : (b.setFlip a m).flash = b.flash := rfl
@[simp] theorem setFlip_sram (a : Nat) (m : BitVec 39) (b : Block) : (b.setFlip a m).sram = b.sram := rfl
@[simp] theorem setFlip_mbx (a : Nat) (m : BitVec 39) (b : Block) : (b.setFlip a m).mbx = b.mbx := rfl
@[simp] theorem setFlip_host (a : Nat) (m : BitVec 39) (b : Block) : (b.setFlip a m).host = b.host := rfl
@[simp] theorem setFlip_drive (a : Nat) (m : BitVec 39) (b : Block) : (b.setFlip a m).drive = b.drive := rfl
@[simp] theorem setFlip_adc (a : Nat) (m : BitVec 39) (b : Block) : (b.setFlip a m).adc = b.adc := rfl
@[simp] theorem setFlip_loop (a : Nat) (m : BitVec 39) (b : Block) : (b.setFlip a m).loop = b.loop := rfl
@[simp] theorem setFlip_agents (a : Nat) (m : BitVec 39) (b : Block) : (b.setFlip a m).agents = b.agents := rfl
@[simp] theorem setFlip_safe (a : Nat) (m : BitVec 39) (b : Block) : (b.setFlip a m).safe = b.safe := rfl
@[simp] theorem setFlip_tag (a : Nat) (m : BitVec 39) (b : Block) : (b.setFlip a m).tag = b.tag := rfl
@[simp] theorem setFlip_radio (a : Nat) (m : BitVec 39) (b : Block) : (b.setFlip a m).radio = b.radio := rfl
@[simp] theorem setFlip_time (a : Nat) (m : BitVec 39) (b : Block) : (b.setFlip a m).time = b.time := rfl
@[simp] theorem setFlip_can (a : Nat) (m : BitVec 39) (b : Block) : (b.setFlip a m).can = b.can := rfl
@[simp] theorem setFlip_lip (a : Nat) (m : BitVec 39) (b : Block) : (b.setFlip a m).lip = b.lip := rfl
@[simp] theorem setFlip_gal (a : Nat) (m : BitVec 39) (b : Block) : (b.setFlip a m).gal = b.gal := rfl
@[simp] theorem setFlip_cap (a : Nat) (m : BitVec 39) (b : Block) : (b.setFlip a m).cap = b.cap := rfl
@[simp] theorem setFlip_gnss (a : Nat) (m : BitVec 39) (b : Block) : (b.setFlip a m).gnss = b.gnss := rfl
@[simp] theorem setFlip_upd (a : Nat) (m : BitVec 39) (b : Block) : (b.setFlip a m).upd = b.upd := rfl
@[simp] theorem setFlip_clamps (a : Nat) (m : BitVec 39) (b : Block) : (b.setFlip a m).clamps = b.clamps := rfl

@[simp] theorem draw_regs (n : Nat) (b : Block) : (b.draw n).regs = b.regs := rfl
@[simp] theorem draw_mem (n : Nat) (b : Block) : (b.draw n).mem = b.mem := rfl
@[simp] theorem draw_flips (n : Nat) (b : Block) : (b.draw n).flips = b.flips := rfl
@[simp] theorem draw_ramGnss (n : Nat) (b : Block) : (b.draw n).ramGnss = b.ramGnss := rfl
@[simp] theorem draw_ramRadio (n : Nat) (b : Block) : (b.draw n).ramRadio = b.ramRadio := rfl
@[simp] theorem draw_ramLoop (n : Nat) (b : Block) : (b.draw n).ramLoop = b.ramLoop := rfl
@[simp] theorem draw_ft (n : Nat) (b : Block) : (b.draw n).ft = b.ft := rfl
@[simp] theorem draw_now (n : Nat) (b : Block) : (b.draw n).now = b.now := rfl
@[simp] theorem draw_edges (n : Nat) (b : Block) : (b.draw n).edges = b.edges := rfl
@[simp] theorem draw_resp (n : Nat) (b : Block) : (b.draw n).resp = b.resp := rfl
@[simp] theorem draw_log (n : Nat) (b : Block) : (b.draw n).log = b.log := rfl
@[simp] theorem draw_test (n : Nat) (b : Block) : (b.draw n).test = b.test := rfl
@[simp] theorem draw_md (n : Nat) (b : Block) : (b.draw n).md = b.md := rfl
@[simp] theorem draw_tick (n : Nat) (b : Block) : (b.draw n).tick = b.tick := rfl
@[simp] theorem draw_sec (n : Nat) (b : Block) : (b.draw n).sec = b.sec := rfl
@[simp] theorem draw_dbg (n : Nat) (b : Block) : (b.draw n).dbg = b.dbg := rfl
@[simp] theorem draw_cal (n : Nat) (b : Block) : (b.draw n).cal = b.cal := rfl
@[simp] theorem draw_flash (n : Nat) (b : Block) : (b.draw n).flash = b.flash := rfl
@[simp] theorem draw_sram (n : Nat) (b : Block) : (b.draw n).sram = b.sram := rfl
@[simp] theorem draw_mbx (n : Nat) (b : Block) : (b.draw n).mbx = b.mbx := rfl
@[simp] theorem draw_host (n : Nat) (b : Block) : (b.draw n).host = b.host := rfl
@[simp] theorem draw_drive (n : Nat) (b : Block) : (b.draw n).drive = b.drive := rfl
@[simp] theorem draw_adc (n : Nat) (b : Block) : (b.draw n).adc = b.adc := rfl
@[simp] theorem draw_loop (n : Nat) (b : Block) : (b.draw n).loop = b.loop := rfl
@[simp] theorem draw_agents (n : Nat) (b : Block) : (b.draw n).agents = b.agents := rfl
@[simp] theorem draw_safe (n : Nat) (b : Block) : (b.draw n).safe = b.safe := rfl
@[simp] theorem draw_tag (n : Nat) (b : Block) : (b.draw n).tag = b.tag := rfl
@[simp] theorem draw_radio (n : Nat) (b : Block) : (b.draw n).radio = b.radio := rfl
@[simp] theorem draw_time (n : Nat) (b : Block) : (b.draw n).time = b.time := rfl
@[simp] theorem draw_can (n : Nat) (b : Block) : (b.draw n).can = b.can := rfl
@[simp] theorem draw_lip (n : Nat) (b : Block) : (b.draw n).lip = b.lip := rfl
@[simp] theorem draw_gal (n : Nat) (b : Block) : (b.draw n).gal = b.gal := rfl
@[simp] theorem draw_cap (n : Nat) (b : Block) : (b.draw n).cap = b.cap := rfl
@[simp] theorem draw_gnss (n : Nat) (b : Block) : (b.draw n).gnss = b.gnss := rfl
@[simp] theorem draw_upd (n : Nat) (b : Block) : (b.draw n).upd = b.upd := rfl
@[simp] theorem draw_clamps (n : Nat) (b : Block) : (b.draw n).clamps = b.clamps := rfl

@[simp] theorem answer_regs (w : Nat) (b : Block) : (b.answer w).regs = b.regs := rfl
@[simp] theorem answer_mem (w : Nat) (b : Block) : (b.answer w).mem = b.mem := rfl
@[simp] theorem answer_flips (w : Nat) (b : Block) : (b.answer w).flips = b.flips := rfl
@[simp] theorem answer_ramGnss (w : Nat) (b : Block) : (b.answer w).ramGnss = b.ramGnss := rfl
@[simp] theorem answer_ramRadio (w : Nat) (b : Block) : (b.answer w).ramRadio = b.ramRadio := rfl
@[simp] theorem answer_ramLoop (w : Nat) (b : Block) : (b.answer w).ramLoop = b.ramLoop := rfl
@[simp] theorem answer_ft (w : Nat) (b : Block) : (b.answer w).ft = b.ft := rfl
@[simp] theorem answer_now (w : Nat) (b : Block) : (b.answer w).now = b.now := rfl
@[simp] theorem answer_edges (w : Nat) (b : Block) : (b.answer w).edges = b.edges := rfl
@[simp] theorem answer_free (w : Nat) (b : Block) : (b.answer w).free = b.free := rfl
@[simp] theorem answer_log (w : Nat) (b : Block) : (b.answer w).log = b.log := rfl
@[simp] theorem answer_test (w : Nat) (b : Block) : (b.answer w).test = b.test := rfl
@[simp] theorem answer_md (w : Nat) (b : Block) : (b.answer w).md = b.md := rfl
@[simp] theorem answer_tick (w : Nat) (b : Block) : (b.answer w).tick = b.tick := rfl
@[simp] theorem answer_sec (w : Nat) (b : Block) : (b.answer w).sec = b.sec := rfl
@[simp] theorem answer_dbg (w : Nat) (b : Block) : (b.answer w).dbg = b.dbg := rfl
@[simp] theorem answer_cal (w : Nat) (b : Block) : (b.answer w).cal = b.cal := rfl
@[simp] theorem answer_flash (w : Nat) (b : Block) : (b.answer w).flash = b.flash := rfl
@[simp] theorem answer_sram (w : Nat) (b : Block) : (b.answer w).sram = b.sram := rfl
@[simp] theorem answer_mbx (w : Nat) (b : Block) : (b.answer w).mbx = b.mbx := rfl
@[simp] theorem answer_host (w : Nat) (b : Block) : (b.answer w).host = b.host := rfl
@[simp] theorem answer_drive (w : Nat) (b : Block) : (b.answer w).drive = b.drive := rfl
@[simp] theorem answer_adc (w : Nat) (b : Block) : (b.answer w).adc = b.adc := rfl
@[simp] theorem answer_loop (w : Nat) (b : Block) : (b.answer w).loop = b.loop := rfl
@[simp] theorem answer_agents (w : Nat) (b : Block) : (b.answer w).agents = b.agents := rfl
@[simp] theorem answer_safe (w : Nat) (b : Block) : (b.answer w).safe = b.safe := rfl
@[simp] theorem answer_tag (w : Nat) (b : Block) : (b.answer w).tag = b.tag := rfl
@[simp] theorem answer_radio (w : Nat) (b : Block) : (b.answer w).radio = b.radio := rfl
@[simp] theorem answer_time (w : Nat) (b : Block) : (b.answer w).time = b.time := rfl
@[simp] theorem answer_can (w : Nat) (b : Block) : (b.answer w).can = b.can := rfl
@[simp] theorem answer_lip (w : Nat) (b : Block) : (b.answer w).lip = b.lip := rfl
@[simp] theorem answer_gal (w : Nat) (b : Block) : (b.answer w).gal = b.gal := rfl
@[simp] theorem answer_cap (w : Nat) (b : Block) : (b.answer w).cap = b.cap := rfl
@[simp] theorem answer_gnss (w : Nat) (b : Block) : (b.answer w).gnss = b.gnss := rfl
@[simp] theorem answer_upd (w : Nat) (b : Block) : (b.answer w).upd = b.upd := rfl
@[simp] theorem answer_clamps (w : Nat) (b : Block) : (b.answer w).clamps = b.clamps := rfl

@[simp] theorem answerBytes_regs (bs : List Byte) (b : Block) : (b.answerBytes bs).regs = b.regs := rfl
@[simp] theorem answerBytes_mem (bs : List Byte) (b : Block) : (b.answerBytes bs).mem = b.mem := rfl
@[simp] theorem answerBytes_flips (bs : List Byte) (b : Block) : (b.answerBytes bs).flips = b.flips := rfl
@[simp] theorem answerBytes_ramGnss (bs : List Byte) (b : Block) : (b.answerBytes bs).ramGnss = b.ramGnss := rfl
@[simp] theorem answerBytes_ramRadio (bs : List Byte) (b : Block) : (b.answerBytes bs).ramRadio = b.ramRadio := rfl
@[simp] theorem answerBytes_ramLoop (bs : List Byte) (b : Block) : (b.answerBytes bs).ramLoop = b.ramLoop := rfl
@[simp] theorem answerBytes_ft (bs : List Byte) (b : Block) : (b.answerBytes bs).ft = b.ft := rfl
@[simp] theorem answerBytes_now (bs : List Byte) (b : Block) : (b.answerBytes bs).now = b.now := rfl
@[simp] theorem answerBytes_edges (bs : List Byte) (b : Block) : (b.answerBytes bs).edges = b.edges := rfl
@[simp] theorem answerBytes_free (bs : List Byte) (b : Block) : (b.answerBytes bs).free = b.free := rfl
@[simp] theorem answerBytes_log (bs : List Byte) (b : Block) : (b.answerBytes bs).log = b.log := rfl
@[simp] theorem answerBytes_test (bs : List Byte) (b : Block) : (b.answerBytes bs).test = b.test := rfl
@[simp] theorem answerBytes_md (bs : List Byte) (b : Block) : (b.answerBytes bs).md = b.md := rfl
@[simp] theorem answerBytes_tick (bs : List Byte) (b : Block) : (b.answerBytes bs).tick = b.tick := rfl
@[simp] theorem answerBytes_sec (bs : List Byte) (b : Block) : (b.answerBytes bs).sec = b.sec := rfl
@[simp] theorem answerBytes_dbg (bs : List Byte) (b : Block) : (b.answerBytes bs).dbg = b.dbg := rfl
@[simp] theorem answerBytes_cal (bs : List Byte) (b : Block) : (b.answerBytes bs).cal = b.cal := rfl
@[simp] theorem answerBytes_flash (bs : List Byte) (b : Block) : (b.answerBytes bs).flash = b.flash := rfl
@[simp] theorem answerBytes_sram (bs : List Byte) (b : Block) : (b.answerBytes bs).sram = b.sram := rfl
@[simp] theorem answerBytes_mbx (bs : List Byte) (b : Block) : (b.answerBytes bs).mbx = b.mbx := rfl
@[simp] theorem answerBytes_host (bs : List Byte) (b : Block) : (b.answerBytes bs).host = b.host := rfl
@[simp] theorem answerBytes_drive (bs : List Byte) (b : Block) : (b.answerBytes bs).drive = b.drive := rfl
@[simp] theorem answerBytes_adc (bs : List Byte) (b : Block) : (b.answerBytes bs).adc = b.adc := rfl
@[simp] theorem answerBytes_loop (bs : List Byte) (b : Block) : (b.answerBytes bs).loop = b.loop := rfl
@[simp] theorem answerBytes_agents (bs : List Byte) (b : Block) : (b.answerBytes bs).agents = b.agents := rfl
@[simp] theorem answerBytes_safe (bs : List Byte) (b : Block) : (b.answerBytes bs).safe = b.safe := rfl
@[simp] theorem answerBytes_tag (bs : List Byte) (b : Block) : (b.answerBytes bs).tag = b.tag := rfl
@[simp] theorem answerBytes_radio (bs : List Byte) (b : Block) : (b.answerBytes bs).radio = b.radio := rfl
@[simp] theorem answerBytes_time (bs : List Byte) (b : Block) : (b.answerBytes bs).time = b.time := rfl
@[simp] theorem answerBytes_can (bs : List Byte) (b : Block) : (b.answerBytes bs).can = b.can := rfl
@[simp] theorem answerBytes_lip (bs : List Byte) (b : Block) : (b.answerBytes bs).lip = b.lip := rfl
@[simp] theorem answerBytes_gal (bs : List Byte) (b : Block) : (b.answerBytes bs).gal = b.gal := rfl
@[simp] theorem answerBytes_cap (bs : List Byte) (b : Block) : (b.answerBytes bs).cap = b.cap := rfl
@[simp] theorem answerBytes_gnss (bs : List Byte) (b : Block) : (b.answerBytes bs).gnss = b.gnss := rfl
@[simp] theorem answerBytes_upd (bs : List Byte) (b : Block) : (b.answerBytes bs).upd = b.upd := rfl
@[simp] theorem answerBytes_clamps (bs : List Byte) (b : Block) : (b.answerBytes bs).clamps = b.clamps := rfl

@[simp] theorem draw_free (n : Nat) (b : Block) : (b.draw n).free = b.free + n := rfl
@[simp] theorem rd_draw (n : Nat) (f : Fld) (b : Block) : (b.draw n).rd f = b.rd f := rfl
@[simp] theorem rd_setByte (a : Nat) (v : Byte) (f : Fld) (b : Block) : (b.setByte a v).rd f = b.rd f := rfl
@[simp] theorem byte_wr (f : Fld) (v a : Nat) (b : Block) : (b.wr f v).byte a = b.byte a := rfl
@[simp] theorem answer_resp (w : Nat) (b : Block) : (b.answer w).resp = { word := w % 2 ^ 32 } := rfl
@[simp] theorem answerBytes_resp (bs : List Byte) (b : Block) : (b.answerBytes bs).resp = { bytes := bs } := rfl

end Block

/-- A command that runs answers a next state, with the queue as it was. -/
@[simp] theorem State.run_eq (s : State) (f : Block → Block) : s.run f = .next { blk := f s.blk, pending := s.pending } := rfl

end Sys2Proof.Machine
end

