-- ==== Sys2Proof/Laws/Ops.lean ====
section
/-! SUPPORT. What the shared operations change, in a form that composes: each leaves alone every register but those it
names, all memory, and every part of the block but registers, recorder and tests. -/

namespace Sys2Proof.Machine
namespace Block

variable {l : List Fld} {b c : Block}

theorem SameRegs.refl (l : List Fld) (b : Block) : b.SameRegs l b := fun _ _ => rfl

theorem SameRegs.wr {f : Fld} (h : b.SameRegs l c) (v : Nat) (hf : f ∈ l) : b.SameRegs l (c.wr f v) :=
  fun g hg => (rd_wr_ne f g v c (hg f hf)).trans (h g hg)

theorem SameRegs.of_regs {d : Block} (h : b.SameRegs l c) (e : d.regs = c.regs) : b.SameRegs l d :=
  fun g hg => (by unfold Block.rd; rw [e] : d.rd g = c.rd g).trans (h g hg)

theorem SameRegs.mono {l' : List Fld} (h : b.SameRegs l c) (hl : ∀ f ∈ l, f ∈ l') : b.SameRegs l' c :=
  fun g hg => h g fun f hf => hg f (hl f hf)

theorem SameRegs.trans {d : Block} (h : b.SameRegs l c) (h' : c.SameRegs l d) : b.SameRegs l d :=
  fun g hg => (h' g hg).trans (h g hg)

theorem SameRegs.cond {k : Bool} {f : Block → Block} (h : b.SameRegs l c) (hf : b.SameRegs l (f c)) :
    b.SameRegs l (c.cond k f) := by
  unfold Block.cond
  split
  · exact hf
  · exact h

theorem SamePages.of_sameRegs {ps : List Nat} (h : b.SameRegs l c) (hl : ∀ f ∈ l, f.key / 32768 ∈ ps) : b.SamePages ps c :=
  fun g hg => h g fun f hf e => hg (by rw [e]; exact hl f hf)

theorem SamePages.wr {ps : List Nat} {f : Fld} (h : b.SamePages ps c) (v : Nat) (hf : f.key / 32768 ∈ ps) :
    b.SamePages ps (c.wr f v) :=
  fun g hg => (rd_wr_ne f g v c fun e => hg (by rw [e]; exact hf)).trans (h g hg)

theorem SamePages.of_regs {ps : List Nat} {d : Block} (h : b.SamePages ps c) (e : d.regs = c.regs) : b.SamePages ps d :=
  fun g hg => (by unfold Block.rd; rw [e] : d.rd g = c.rd g).trans (h g hg)

theorem SamePages.trans {ps : List Nat} {d : Block} (h : b.SamePages ps c) (h' : c.SamePages ps d) : b.SamePages ps d :=
  fun g hg => (h' g hg).trans (h g hg)

theorem SameMem.refl (b : Block) : b.SameMem b := fun _ => ⟨rfl, rfl, rfl, rfl⟩

theorem SameMem.of_eq {d : Block} (h : b.SameMem c) (h1 : d.mem = c.mem := by rfl) (h2 : d.ramGnss = c.ramGnss := by rfl)
    (h3 : d.ramRadio = c.ramRadio := by rfl) (h4 : d.ramLoop = c.ramLoop := by rfl) : b.SameMem d := by
  intro a
  unfold Block.byte
  rw [h1, h2, h3, h4]
  exact h a

/-- Recording an event touches the recorder, the count of lost events and its interrupt, and nothing else. -/
theorem raise_sameRegs (e : Event) (h : b.SameRegs l c) (hl : ∀ f ∈ evFlds, f ∈ l) : b.SameRegs l (c.raise e) := by
  have h1 : Reg.LOG.LOST_COUNT ∈ l := hl _ (.head _)
  have h2 : Reg.HDR.IRQ_RAW 0x0B ∈ l := hl _ (.tail _ (.head _))
  unfold raise
  dsimp only
  split
  · split
    · exact h
    · exact ((h.of_regs rfl).wr _ h1).wr _ h2
  · split
    · exact h
    · exact (h.of_regs rfl).wr _ h1

theorem raise_rest (e : Event) (b : Block) : b.raise e = { b with regs := (b.raise e).regs, log := (b.raise e).log } := by
  unfold raise inc irq wrBit wr
  dsimp only
  repeat' split
  all_goals rfl

theorem rd_raise (e : Event) (b : Block) (g : Fld) (h1 : g.key ≠ Reg.LOG.LOST_COUNT.key)
    (h2 : g.key ≠ (Reg.HDR.IRQ_RAW 0x0B).key) : (b.raise e).rd g = b.rd g :=
  raise_sameRegs (l := evFlds) e (SameRegs.refl _ _) (fun _ h => h) g
    (by simp only [evFlds, List.mem_cons, List.not_mem_nil, or_false]; rintro f (rfl | rfl) <;> assumption)

theorem irq_sameRegs (page n : Nat) (h : b.SameRegs l c) (hl : Reg.HDR.IRQ_RAW page ∈ l) : b.SameRegs l (c.irq page n) :=
  h.wr _ hl

/-- An interrupt line raised: its bit of `IRQ_RAW` is set (R122). -/
theorem rd_irq (page n : Nat) (b : Block) : (b.irq page n).rd (Reg.HDR.IRQ_RAW page) = (b.rd (Reg.HDR.IRQ_RAW page) ||| 2 ^ n) % 2 ^ 32 :=
  rd_wr_same _ _ _ (show 32 ≤ 32 by decide)

theorem askTest_sameRegs (page bit sub : Nat) (h : b.SameRegs l c) (hl : ∀ f ∈ errFlds page, f ∈ l) :
    b.SameRegs l (c.askTest page bit sub) := by
  have h1 : Reg.STEST.PEND_PAGES (page / 32) ∈ l := hl _ (.tail _ (.tail _ (.head _)))
  have h2 : Reg.STEST.RUN_PAGES (page / 32) ∈ l := hl _ (.tail _ (.tail _ (.tail _ (.head _))))
  have h3 : Reg.HDR.TEST_BUSY page ∈ l := hl _ (.tail _ (.tail _ (.tail _ (.tail _ (.head _)))))
  have s : ∀ c : Block, b.SameRegs l c → b.SameRegs l (c.showTests page) := fun c h => ((h.wr _ h1).wr _ h2).wr _ h3
  unfold askTest
  dsimp only
  split
  · exact s _ h
  · split
    · exact s _ h
    · exact s _ h

theorem askTest_rest (page bit sub : Nat) (b : Block) :
    b.askTest page bit sub = { b with regs := (b.askTest page bit sub).regs, test := (b.askTest page bit sub).test } := by
  unfold askTest
  dsimp only
  split
  · rfl
  · split
    · rfl
    · rfl

theorem err_sameRegs (page n : Nat) (arg1 sub : Nat) (h : b.SameRegs l c) (hl : ∀ f ∈ errFlds page, f ∈ l) :
    b.SameRegs l (c.err page n arg1 sub) := by
  have h1 : Reg.HDR.ERR page ∈ l := hl _ (.head _)
  have h2 : Reg.HDR.ERR_CNT page ∈ l := hl _ (.tail _ (.head _))
  have h3 : ∀ f ∈ evFlds, f ∈ l := fun f hf => hl f (.tail _ (.tail _ (.tail _ (.tail _ (.tail _ hf)))))
  unfold err
  dsimp only
  split
  · exact askTest_sameRegs _ _ _ (raise_sameRegs _ ((h.wr _ h1).wr _ h2) h3) hl
  · exact raise_sameRegs _ ((h.wr _ h1).wr _ h2) h3

theorem err_rest (page n : Nat) (arg1 sub : Nat) (b : Block) : b.err page n arg1 sub =
    { b with regs := (b.err page n arg1 sub).regs, log := (b.err page n arg1 sub).log,
             test := (b.err page n arg1 sub).test } := by
  unfold err
  dsimp only
  split
  · rw [askTest_rest, raise_rest]; rfl
  · rw [raise_rest]; rfl

end Block
end Sys2Proof.Machine
end

