-- ==== Sys2Proof/Tests/Slice0.lean ====
section
/-! SUPPORT. The model's own tests: an ill-formed command for each check of well-formedness, and for the clauses of the
statements a small state that reaches them, with the values the rules give. Each is one step. -/

namespace Sys2Proof.Tests

open Sys2Proof Sys2Proof.Machine

/-- The block after one command. -/
def after (i : Instr) (b : Block) : Block :=
  match exec i { blk := b, pending := [] } with
  | .next t => t.blk
  | _ => b

/-- A block with some fields written. -/
def mk (l : List (Fld × Nat)) (b : Block := {}) : Block := l.foldl (fun b x => b.wr x.1 x.2) b

/-- A block in a mode, with every clock domain running. -/
def at' (m : Mode) (b : Block := {}) : Block := mk [(Reg.SYS.MODE_CUR, m.code), (Reg.CLK.CSTAT_RUN, 127)] b

set_option maxRecDepth 40000

/-! Well-formedness refuses what is too short, too long or named twice. -/

def front : Front := { ma := [20, 20], power := [0, 0], floor := [0, 0], agc := [0, 0] }
def fix : NavFix :=
  { slot := none, seen := [(0, 40), (1, 40), (2, 40), (3, 40), (4, 40)], doppler := 4, pdop := 20, week := 2300, tow := 100, ns := 0, lat := 0, lon := 0, height := 0,
    hacc := 100, vacc := 100, ve := 0, vn := 0, vu := 0, drift := 0, corrected := 0, dist := 0, ratio := 0, blE := 0, blN := 0,
    blU := 0, blRatio := 0, lineBias := 0 }
def obs (c : Fin 48) : ChanObs :=
  { chan := c, cn0 := 40, dopp := 0, phase := 0, ms := 0, carr := 0, bitsync := true, half := true, fll := true }

theorem test_wf_front : front.wf = true ∧ ({ front with ma := [20] } : Front).wf = false
    ∧ ({ front with power := [] } : Front).wf = false ∧ ({ front with floor := [0] } : Front).wf = false
    ∧ ({ front with agc := [0, 0, 0] } : Front).wf = false := by decide
theorem test_wf_fix : fix.wf = true ∧ ({ fix with seen := [(1, 40), (1, 50)] } : NavFix).wf = false
    ∧ ({ fix with doppler := 6 } : NavFix).wf = false ∧ ({ fix with corrected := 6 } : NavFix).wf = false := by decide
theorem test_wf_power : (Instr.start true [0]).wf = false ∧ (Instr.dripEdge [true]).wf = false
    ∧ (Instr.poolEdge { front with ma := [] }).wf = false ∧ (Instr.epochEdge [obs 1, obs 1]).wf = false
    ∧ (Instr.adcGroupComplete [0]).wf = false ∧ (Instr.galleryEvaluation 0 [3, 3]).wf = false
    ∧ (Instr.chalSignature true 0 []).wf = false ∧ (Instr.tpPulseCheck 0 [true]).wf = false := by decide
theorem test_wf_memory : (Instr.sramAccess 1 0 0 0 0 (some 0) [1] false 0).wf = false
      ∧ (Instr.sramAccess 1 0 0 0 0 (some 0) [2, 2] false 0).wf = false
    ∧ (Instr.sramAccess 1 0 0 0 0 (some 0) [2] false 0).wf = true ∧ (Instr.tagWrite false 0 (List.replicate 256 0)).wf = false
    ∧ (Instr.anticollision false 41 0).wf = false ∧ (Instr.anticollision false 1 2).wf = false
    ∧ (Instr.select false []).wf = false := by decide
theorem test_wf_hostWrite : (Instr.hostWrite false 0 (List.replicate 65536 0)).wf = false := by
  show decide ((List.replicate 65536 (0 : Word)).length ≤ 65535) = false
  rw [List.length_replicate]; decide
theorem test_wf_links : (Instr.gnssStart { front with agc := [] } []).wf = false
      ∧ (Instr.gnssStart front [(0, true), (0, false)]).wf = false
    ∧ (Instr.gacqSearchEnd (List.replicate 33 (0, 0))).wf = false
    ∧ (Instr.gfftJobEnd (List.replicate 33 (0, 0, 0, 0))).wf = false
    ∧ (Instr.pvtSolution { fix with doppler := 9 }).wf = false ∧ (Instr.canFrameReceive 0 9 [] 0).wf = false
    ∧ (Instr.btData 0 0 (List.replicate 8 0)).wf = false
      ∧ (Instr.radioFrameReceive 0 false false [] 0 0).wf = false := by decide
theorem test_wf_radioFrame : (Instr.radioFrameReceive 0 false false (List.replicate 2048 0) 0 0).wf = false := by
  show (decide (1 ≤ (List.replicate 2048 (0 : Byte)).length) && decide ((List.replicate 2048 (0 : Byte)).length ≤ 2047)) = false
  rw [List.length_replicate]; decide

/-! The hypotheses of the statements that have them. -/

theorem test_reset_ok : State.reset.Ok := by
  unfold State.Ok Block.Ok StoresOk; decide
/-- A step that changes registers and memory, from a state with canonical stores. -/
theorem test_step_ok :
    let s : State := { blk := mk [(Reg.DBG.LEVEL_PORT_PWR, 1), (Reg.DBG.LEVEL_EFF, 2)] (at' .service), pending := [.dacc 0x20000000#32 (some 7#32)] }
    s.Ok ∧ ∃ t, step s = .next t ∧ t.blk.val 0x20000000 4 = 7 := by
  refine ⟨?_, _, rfl, by decide⟩
  unfold State.Ok Block.Ok StoresOk; decide
/-- A part whose record of KS01 is programmed (its mark stands 32 bytes into the record). -/
def keyed : Block := ({} : Block).setByte (otpBase + 0x120) 1
theorem test_otp_refused : keyed.recorded 1 0 = true ∧ keyed.is Reg.KEY.OP_STAT_BUSY = false
    ∧ (after (.progOtp 1) keyed).rd Reg.KEY.OP_STAT_RES = 2 := by decide
theorem test_otp_refused_5 : let b := ({} : Block).setByte (otpBase + 0x160) 0x80
    b.recorded 5 0 = true ∧ (after (.progOtp 5) b).rd Reg.KEY.OP_STAT_RES = 2 := by decide

/-! Queue, reset and mailboxes. -/

theorem test_step_front : step { blk := {}, pending := [.ldall 0, .repClr] }
    = exec (.ldall 0) { blk := {}, pending := [.repClr] } := by rfl
theorem test_idle : step State.reset = .next State.reset := by rfl
/-- Check value of the CRC-16 with these parameters (CRC-16/CCITT-FALSE). -/
theorem test_crc16 : crc16 [0x31, 0x32, 0x33, 0x34, 0x35, 0x36, 0x37, 0x38, 0x39] = 0x29B1 := by decide

/-- Mailbox 1 (GNSS core to MAIN) holds a notice. -/
def posted : Block := after (.mbxPost .gnss 1 0x00200064#32) (mk [(Reg.MBX.TX_PTR_PTR 1, 0x20000008)])
theorem test_mbxPost : posted.rd (Reg.MBX.MSTAT_FULL 1) = 1 ∧ posted.rd (Reg.MBX.RX_PTR_PTR 1) = 0x20000008
    ∧ posted.rd (Reg.MBX.RX_HDR_LEN 1) = 0x64 ∧ posted.rd (Reg.MBX.RX_HDR_TAG 1) = 0x20
    ∧ posted.rd (Reg.MBX.RX_HDR_SENDER 1) = 1 := by decide
theorem test_mbxPost_other : ((after (.mbxPost .radio 1 0) {}).rd (Reg.HDR.ERR 0x09)).testBit 0 = true
    ∧ (after (.mbxPost .gnss 1 0) posted).rd (Reg.MBX.MSTAT_COLL 1) = 1
    ∧ (after (.mbxPost .main 0 0) {}).rd (Reg.MBX.MSTAT_DROP 0) = 1
    ∧ after (.mbxPost .main 0 0) (at' .dark) = at' .dark := by decide
/-- A notice waits for the beats that its sender's write burst still has to store (R170). -/
theorem test_mbxPost_waits : let b : Block := { sram := { bursts := [(2, 0x20000000, 1, 1)] } }
    (after (.mbxPost .gnss 1 0x00200064#32) b).rd (Reg.MBX.MSTAT_FULL 1) = 0
      ∧ (after (.mbxPost .gnss 1 0x00200064#32) b).sram.posts.map (·.waits) = [[2]]
      ∧ (after (.mbxPost .host 1 0) {}).rd (Reg.HDR.ERR 0x09) = 0 := by decide
theorem test_rxHdrTake : (after (.rxHdrTake .main 1) posted).rd (Reg.MBX.MSTAT_FULL 1) = 0
    ∧ (after (.rxHdrTake .main 1) posted).resp.word = 0x01200064
    ∧ (after (.rxHdrTake .debug 1) posted).rd (Reg.MBX.MSTAT_FULL 1) = 1 := by decide
theorem test_mbxTimeout : (after (.mbxTimeout 1) { posted with edges := posted.edges + 65536 }).rd (Reg.MBX.MSTAT_TMO 1) = 1
    ∧ (after (.mbxReceiverOff 0) {}).rd (Reg.MBX.MSTAT_RX_OFF 0) = 1 := by decide
theorem test_mbxReaddress : (after (.mbxReaddress 1 4) {}).mbxReceiver 1 = 4
    ∧ (after (.mbxReaddress 1 4) (mk [(Reg.HDR.LOCKED 0x09, 1)])).mbxReceiver 1 = 0 := by decide

/-! Drive outputs. -/

/-- PWM0 counts, nothing forces it, and a transfer is asked for. -/
def turning : Block := mk [(Reg.HDR.EN 0x1C, 1), (Reg.HDR.PWM_LD_PEND 0, 1), (Reg.PWM.DTCFG_ADAPT 0, 1), (Reg.PWM.BOOT_EN 0, 1),
  (Reg.PWM.BOOT_BOOT_MAX 0, 3)] (at' .field { drive := { mods := [{ noOff := [3, 0, 0], periods := [64, 0, 0] }, {}, {}, {}] } })
theorem test_pwmTransfer : turning.transferDue 0 = true
    ∧ (after (.pwmTransfer 0) turning).rd (Reg.HDR.PWM_LD_PEND 0) = 0 := by decide
theorem test_pwmCounter : turning.pwmCounts 0 = true
      ∧ (after (.pwmCounterEvent 0 1) turning).rd (Reg.PWM.CNT_DOWN 0) = 1
    ∧ (after (.ldall 2) {}).rd (Reg.HDR.PWM_LD_PEND 2) = 1 := by decide
/-- R272: a tick-locked counter that was stopped restarts at the next drip edge, another at once. -/
theorem test_counterRestart :
    let b := mk [(Reg.PWM.CFG_TLOCK 0, 1)] turning
    (b.counterRestart 0).pwmCounts 0 = false ∧ ({ b.counterRestart 0 with now := b.now + 1 } : Block).pwmCounts 0 = true
    ∧ ((mk [(Reg.PWM.CFG_TLOCK 0, 0)] turning).counterRestart 0).pwmCounts 0 = true := by decide
/-- R310: a slot of a transform pair runs in every drip, whatever its RATE. -/
theorem test_slotPeriod : (mk [(Reg.LW.CFG_XFORM 2, 1), (Reg.LW.CFG_RATE 3, 4)] {}).latchRates.slotPeriod 3 = 1
    ∧ (mk [(Reg.LW.CFG_XFORM 2, 0), (Reg.LW.CFG_RATE 3, 4)] {}).latchRates.slotPeriod 3 = 100
    ∧ (mk [(Reg.LW.CFG_RATE 3, 4)] {}).slotPeriod 3 = 1 := by decide
/-- FLT0 is enabled for PWM1 at its reset polarity, active high, while both balls are high (log entry 12). -/
def guarded : Block := mk [(Reg.PWM.CFG_FLT0_EN 1, 1), (Reg.PWM.CFG_FLT0_POL 1, 1)] (at' .field)
theorem test_faultInput : guarded.fltEnabled 1 0 = true ∧ guarded.fltActive 1 0 true = true
    ∧ (after (.faultInput 0 true 20 true) guarded).rd (Reg.HDR.PWM_FLT_LAT 1 0) = 1
    ∧ (after (.faultInput 0 true 20 true) guarded).rd (Reg.HDR.PWM_FORCED 1) = 1
    ∧ (after (.faultInput 0 true 4 true) guarded).rd (Reg.HDR.PWM_FLT_LAT 1 0) = 0 := by decide
theorem test_fltclr : (after (.fltclr 1 0) (after (.faultInput 0 true 20 false) guarded)).rd (Reg.HDR.PWM_FLT_LAT 1 0) = 0
    ∧ ((after (.fltclr 1 0) (after (.faultInput 0 true 20 true) guarded)).rd (Reg.HDR.ERR 0x1D)).testBit 2 = true := by decide
theorem test_deadTimeUpdate :
    let b := mk [(Reg.HDR.PWM_FORCED 0, 0), (Reg.PWM.DT_DT_MIN 0, 10), (Reg.PWM.DT_DT_MAX 0, 100)] turning
    b.pwmCounts 0 = true ∧ (after (.deadTimeUpdate 0 0 (some 1600) none) b).rd (Reg.PWM.DT_STAT_RISE 0 0)
      = (Block.dtMove 320 3200 (b.rd (Reg.PWM.DTCFG_MARGIN 0) * 32) 5248 (some 1600)).1 / 32 := by decide
theorem test_dtConvTimeout : ((after (.dtConvTimeout 0 0) turning).rd (Reg.HDR.ERR 0x1C)).testBit 4 = true := by decide
theorem test_bootstrapRefresh :
    ((after (.bootstrapRefresh 0 0) (turning.wr (Reg.HDR.PWM_FORCED 0) 0)).rd (Reg.HDR.IRQ_RAW 0x1C)).testBit 7 = true := by decide

/-- Six-step runs in ZC mode; at step 0 one leg is off. -/
def stepping : Block := mk [(Reg.PWM.COMM_MODE 0, 2), (Reg.PWM.COMM_T_TMR 0, 100)] turning
theorem test_commModeWrite : (after (.commModeWrite 0x32) turning).rd (Reg.PWM.COMM_STAT_STEP 0) = 3
    ∧ (after (.commModeWrite 0x32) turning).rd (Reg.HDR.PWM_COMM_ON 0) = 1 := by decide
theorem test_commTimer : (after (.commTimer 100) stepping).drive.misses = 1
    ∧ (after (.commTimer 100) (stepping.wr (Reg.PWM.COMM_MODE 0) 1)).rd (Reg.PWM.COMM_STAT_STEP 0) = 1
    ∧ (after (.commTimer 99) stepping).drive.misses = 0 := by decide
theorem test_zcEdge : stepping.offLeg.isSome = true ∧ ∀ k ∈ stepping.offLeg, k < 3
    ∧ (after (.zcEdge (Fin.ofNat 3 k) true 200) (stepping.wr (Reg.PWM.COMM_T_BLANK 0) 200)).drive.zcEdge = some 200
    ∧ (after (.zcEdge (Fin.ofNat 3 k) true 199) (stepping.wr (Reg.PWM.COMM_T_BLANK 0) 200)).drive.zcEdge = none := by decide
theorem test_commStepAdvance :
    (after (.commStepAdvance 800) { stepping with drive := { stepping.drive with zcEdge := some 500 } }).rd
      (Reg.PWM.COMM_STAT_STEP 0) = 1 := by decide

/-! LOOP, ADC, supervision. -/

/-- LOOP runs in FIELD; slot 0 is in AUTO. -/
def looping : Block := mk [(ofSlot Reg.LOOP.LSTAT_CUR 0, 2)] (at' .field { agents := { loop := true }, adc := { done := true }, now := 5 })
theorem test_loopRun : (after .loopRun looping).rd Reg.TICK.CYC_CYC = 655
      ∧ (after .loopRun looping).loop.ranAt = some 5 := by decide
theorem test_loopOutputWrite :
    let b := { looping with loop := { looping.loop with ranAt := some 5, duties := [(1, 2, 0x4000)] } }
    (after .loopOutputWrite b).rd (Reg.PWM.DUTY_DUTY 1 2) = 0x4000
      ∧ (after .loopOutputWrite b).rd (Reg.HDR.PWM_LD_PEND 1) = 1
      ∧ (after .loopOutputWrite b).rd Reg.TICK.CYC_CYC = 3274 := by decide
theorem test_loopModeRequest : (after (.loopModeRequest 0 0) looping).slotCur 0 = 0
    ∧ (after (.loopModeRequest 3 1) looping).rd (ofSlot Reg.LOOP.MODE_MODE 3) = (if looping.refuseCause 3 1 = 0 then 1 else 0)
    ∧ (after (.loopModeRequest 0 1) (looping.wr (Reg.HDR.FREEZE 0x20) 1)).rd (Reg.HDR.ERR 0x20) / 4 % 2 = 1 := by decide
theorem test_faultSlotMan :
    let b := { looping.wr (Reg.LW.SEL_TGT 0) 6 with drive := { looping.drive with latched := [false, false, true, false] } }
    (after .faultSlotMan b).slotCur 0 = 1
      ∧ (after .faultSlotMan b).drive.latched = [false, false, false, false] := by decide
theorem test_injection : (after .injectionStart (looping.wr Reg.SYS.MODE_CUR 6)).rd Reg.LOOP0.INJ_STAT_RES = 1
    ∧ (after .injectionStart looping).rd Reg.LOOP0.INJ_STAT_RES = 4
    ∧ (after .injectionStop (after .injectionStart (looping.wr Reg.SYS.MODE_CUR 6))).rd Reg.LOOP0.INJ_STAT_RES = 2 := by decide
theorem test_capture : (after .capCtrlStart looping).rd Reg.LOOP0.CAP_STAT_RES = 1
    ∧ (after .capCtrlAbort (after .capCtrlStart looping)).rd Reg.LOOP0.CAP_STAT_RES = 4 := by decide
theorem test_supervisionFail :
    let b := { looping with loop := { looping.loop with slots := looping.loop.slots.set 0 { bad := 255 } } }
    (after (.supervisionFail 0) b).slotCur 0 = 1
      ∧ (after (.supervisionFail 0) b).rd (ofSlot Reg.LOOP.LSTAT_SUPV_FAIL 0) = 1 := by decide
theorem test_supervisionRecover :
    let b := { looping.wr (ofSlot Reg.LOOP.LSTAT_SUPV_FAIL 0) 1 with
      loop := { looping.loop with slots := looping.loop.slots.set 0 { good := 255 } } }
    (after (.supervisionRecover 0) b).rd (ofSlot Reg.LOOP.LSTAT_SUPV_FAIL 0) = 0 := by decide
theorem test_adcGroup :
    (after (.adcGroupComplete ((List.range 16).map fun n => BitVec.ofNat 12 (100 + n))) (mk [(Reg.HDR.EN 0x24, 1)] (at' .field))).rd
      (Reg.ADC.RESN_RAW 7) = 107 := by decide
theorem test_adcFail : (after (.adcConversionFail true) (mk [(Reg.HDR.EN 0x24, 1)] (at' .field))).rd (Reg.ADC.RESN_STALE 3) = 1
    ∧ (after (.adcConversionFail true) (mk [(Reg.HDR.EN 0x24, 1)] (at' .field))).rd (Reg.ADC.RESN_STALE 2) = 0
    ∧ (after .adcDisable (mk [(Reg.HDR.EN 0x24, 1)] (at' .service))).rd (Reg.ADC.RESN_STALE 2) = 1
    ∧ (after .adcDisable (mk [(Reg.HDR.EN 0x24, 1)] (at' .field))).rd (Reg.HDR.EN 0x24) = 1 := by decide

/-! Supplies, clocks, starts and modes. -/

theorem test_vin : (after (.vin3v3RangeEntry true true) {}).rd Reg.PWR.SUPPLY_VIN_OK = 1
    ∧ (after (.vin3v3RangeEntry false true) {}).md.external18 = true
    ∧ (after (.vin3v3RangeLoss false) (mk [(Reg.PWR.SUPPLY_VIN_OK, 1)] (at' .field { ft := 9 }))).mode = .dark
    ∧ (after (.vin3v3RangeLoss false) (mk [(Reg.PWR.SUPPLY_VIN_OK, 1)] (at' .field { ft := 9 }))).ft = 0 := by decide
/-- VIN_3V3 is in its range and VDD_1V8 comes from outside. -/
def supplied : Block := mk [(Reg.PWR.SUPPLY_VIN_OK, 1)] (at' .dark { md := { external18 := true } })
theorem test_vdd1v8 : (after .vdd1v8Late supplied).resetHeld = true
    ∧ (after .vdd1v8InRange (after (.pvGoodAssert 255 255) (after .vdd1v8Late supplied))).mode = .wake := by decide
theorem test_pvGood : (after (.pvGoodAssert 255 255) supplied).mode = .wake
      ∧ (after (.pvGoodAssert 255 255) supplied).rd Reg.SYS.MODE_CAUSE = 1
    ∧ (after (.pvGoodAssert 255 255) supplied).rd (Reg.HDR.PWM_FORCED 3) = 1
    ∧ (after (.pvGoodAssert 255 255) (after .vdd1v8Late supplied)).mode = .dark := by decide
theorem test_pvGoodLoss : (after (.pvGoodDeassert 0x45 255) (at' .wake { md := { pvGood := true } })).mode = .dark
    ∧ (after (.pvGoodDeassert 0x46 255) (at' .wake { md := { pvGood := true } })).mode = .wake
    ∧ (after (.pvGoodDeassert 0x28 255) (mk [(Reg.PWR.SNAP_EN, 1), (Reg.PWR.SUPPLY_VIN_OK, 1)] (at' .wake { md := { pvGood := true } }))).mode = .snapshot := by decide
theorem test_snapMin : (after (.snapMinLoss 0) (at' .snapshot)).mode = .dark
      ∧ (after (.snapMinLoss 0) (at' .snapshot)).rd Reg.SYS.MODE_CAUSE = 3
    ∧ (after (.vbatLowTimeout 0) (at' .dark)).mode = .shelf
      ∧ (after (.vbatLowTimeout 0) (at' .dark)).rd Reg.SYS.MODE_CAUSE = 4 := by decide
theorem test_vbatAon : let b := at' .shelf { sec := { slots := List.replicate 16 (some []) }, ft := 7 }
    (after .vbatAonLoss b).ft = 0 ∧ (after .vbatAonLoss b).keySlot 3 = none
      ∧ (after .vbatAonLoss b).keySlot 1 = some [] := by decide
theorem test_tickStart : (after .tickStart (at' .wake)).rd Reg.CLK.CSTAT_PLL_LOCK = 1
    ∧ (after .pllLockTimeout (at' .wake)).rd Reg.HDR.TICK_FALLBACK = 1
    ∧ (after .pllLockTimeout (at' .wake)).running 2 = false := by decide
/-- The tick runs from the PLL in FIELD. -/
def ticking : Block := mk [(Reg.CLK.CSTAT_PLL_LOCK, 1), (Reg.CLK.CSTAT_XT32M_OK, 1)] (at' .field { md := { running := true } })
theorem test_tcxo : (after (.tcxoOrPllLoss true) ticking).mode = .safe
      ∧ (after (.tcxoOrPllLoss true) ticking).rd (Reg.HDR.ERR 0x01) = 1
    ∧ (after (.tcxoOrPllLoss false) ticking).rd (Reg.HDR.ERR 0x01) = 8
    ∧ (after .xt32mLoss ticking).mode = .safe ∧ (after .xt32kLoss ticking).mode = .field := by decide
/-- A start can run from reset: the conditions of its effect. -/
theorem test_start : ({} : Block).mode = .wake ∧ ({} : Block).md.running = false ∧ ({} : Block).resetHeld = false
    ∧ (after (.start true []) (at' .field)).md.running = false := by decide
theorem test_mainReset : (after (.mainReset .sw) ticking).mode = .wake
      ∧ (after (.mainReset .sw) ticking).rd Reg.SYS.MODE_CAUSE = 0x0B
    ∧ (after (.mainReset .sw) ticking).rd Reg.SYS.RESET_CAUSE_SW = 1 := by decide
theorem test_dripEdge : (after (.dripEdge [true, true, true, true]) (mk [(Reg.TICK.POS_DRIP, 98)] { ticking with tick := { started := true } })).drip = 99
    ∧ (after (.dripEdge [true, true, true, true]) (mk [(Reg.TICK.POS_DRIP, 99)] { ticking with tick := { started := true } })).pool = 1 := by decide
theorem test_dripEdge_epoch : let b := mk [(Reg.TICK.POS_DRIP, 99), (Reg.TICK.POS_POOL, 9)] { ticking with tick := { started := true } }
    (after (.dripEdge [true, true, true, true]) b).rd Reg.TICK.POS_EPOCH = 1
      ∧ (after (.dripEdge [true, true, true, true]) b).tick.epochDue = true := by decide
theorem test_poolEdge : let b := { at' .wake with tick := { poolDue := true }, md := { running := true, next := some (.pump, 9) } }
    (after (.poolEdge { ma := [], power := [], floor := [], agc := [] }) { b with md := { b.md with leaving := none } }).mode = .pump := by
  decide
theorem test_epochEdge : (after (.epochEdge []) { ticking with tick := { epochDue := true } }).tick.epochDue = false := by decide
theorem test_requests : (after .serviceRequest ticking).md.request = 1 ∧ (after .leaveService ticking).md.request = 2
    ∧ (after .safeClr ticking).md.request = 4
      ∧ (after .shelfRequest (at' .dark)).rd Reg.SYS.REQ_STAT_RES = 2 := by decide
theorem test_safeRequest : (after .safeRequest ticking).mode = .safe
      ∧ (after .safeRequest ticking).rd (Reg.HDR.PWM_FORCED 0) = 1
    ∧ (after .readySet ticking).rd Reg.SYS.STANDING_READY = 1 := by decide
theorem test_modeEvaluation : let b := mk [(Reg.TICK.POS_DRIP, 99)] (at' .wake { md := { running := true, request := 1 } })
    (after .modeEvaluation b).md.next = some (.service, 9)
      ∧ (after .modeEvaluation b).rd Reg.SYS.REQ_STAT_RES = 1 := by decide
theorem test_ladder : (after .ladderShed { ticking with md := { ticking.md with step := some true } }).ladder = 1
    ∧ (after .ladderRestore (mk [(Reg.PWR.PPV_LEVEL, 3)] { ticking with md := { ticking.md with step := some false } })).ladder = 2 := by decide
theorem test_fieldExit : let l : Leave := { stage := 2, closeAt := 0, goal := some (.pump, 9) }
    (after .fieldExitValveClose { ticking with md := { ticking.md with leaving := some l } }).md.leaving.map (·.stage) = some 4 := by decide
theorem test_overrun : (after (.blockOverrun .adc) ticking).is (Block.ovrField .adc) = true
    ∧ (after (.blockOverrun .adc) ticking).rd (Reg.ADC.RESN_STALE 5) = 1
    ∧ (after .galleryDegradeExit (mk [(Reg.HDR.TICK_DEGRADE 1, 1)] { ticking with tick := { degPools := 1000 } })).rd (Reg.HDR.TICK_DEGRADE 1) = 0
    ∧ (after .gpvtRecordAbandon { ticking with gnss := { unposted := some false } }).rd (Reg.HDR.TICK_DEGRADE 4) = 1 := by decide
theorem test_tickFreeze : (after .tickFreeze (mk [(Reg.DBG.LEVEL_EFF, 2)] (at' .service))).tick.freezePending = true
    ∧ ((after .tickFreeze ticking).rd (Reg.HDR.ERR 0x03)).testBit 2 = true
    ∧ (after .tickUnfreeze (mk [(Reg.HDR.TICK_FROZEN, 1)] ticking)).rd Reg.HDR.TICK_RUN = 1
    ∧ (after (.dripEdge [true, true, true, true]) (mk [(Reg.HDR.TICK_FROZEN, 1)] ticking)).ft = 65536
    ∧ (after (.dripEdge [true, true, true, true]) (mk [(Reg.HDR.TICK_FROZEN, 1)] ticking)).edges = 0
    ∧ (after (.tickHoldWrite .main 5) ticking).rd Reg.TICK.HOLD_HOLD = 10 := by decide
theorem test_agentLoad : (after (.agentLoad .loop true) { ticking with agents := { tries := [1, 0, 0] } }).mode = .safe
    ∧ (after (.agentLoad .loop true) ticking).agents.loop = false := by decide
theorem test_radioIdle : let b := mk [(Reg.SYS.MODE_PREV, 1)] (at' .wake { agents := { radio := true, tries := [3, 3, 0] }, radio := { taken := some { psdu := [], link := [], src := 0, rssi := 0, sfd := 0 } }, md := { running := true }, now := 500 })
    (after (.radioIdleTimeout true) b).radio.taken = none
      ∧ (after (.radioIdleTimeout true) { b with now := 499 }).radio.taken.isSome = true := by decide

/-! Lifecycle, keys, crypto, the debug port, tests and the safety pairs. -/

theorem test_lcKey : (after (.lcKeyWrite 0x4C432560) { ({} : Block) with now := 7 }).sec.armed = some 7
    ∧ (after (.lcKeyWrite 1) { ({} : Block) with sec := { armed := some 7 } }).sec.armed = none
    ∧ (after .lcArmExpire { ({} : Block) with sec := { armed := some 7 }, now := 1007 }).sec.armed = none := by decide
theorem test_lcAdvance : (after (.lcAdvance 1) {}).rd Reg.SEC.LC_ADV_RES = 2
    ∧ (after (.lcAdvance 2) { ({} : Block) with sec := { armed := some 0 } }).rd Reg.SEC.LC_ADV_RES = 3
    ∧ (after (.lcAdvance 1) { ({} : Block) with sec := { armed := some 0 } }).rd Reg.SEC.LC_ADV_RES
        = (if ({} : Block).lcCondition 1 then 5 else 4) := by decide
theorem test_lcAdvanceDone : let b := after .lcAdvanceDone { ({} : Block) with sec := { programming := some (1, 0) } }
    b.rd Reg.SEC.LC_NEXT = 1 ∧ b.rd Reg.SEC.LC_ADV_RES = 1 ∧ b.val otpBase 4 = 0x5A5AA5A5 := by decide
theorem test_load : (after (.load 8) {}).rd Reg.KEY.OP_STAT_BUSY = 1 ∧ (after (.load 0) {}).rd Reg.KEY.OP_STAT_RES
      = (({} : Block).keyOpRefusal 1 0 0).getD 0
    ∧ (after (.zeroize 8) (after (.load 8) {})).rd (Reg.HDR.ERR 0x05) = 1 := by decide
theorem test_load_end : let b := after .keyOpEnd (after (.load 8) (mk [(Reg.KEY.DATA_DATA 0, 0x11223344)]))
    b.rd Reg.KEY.OP_STAT_BUSY = 0 ∧ b.rd (Reg.KEY.DATA_DATA 0) = 0
      ∧ b.keySlot 8 = some (leBytes 32 0x11223344) := by decide
theorem test_zeroize_end : let b := { ({} : Block) with sec := { slots := List.replicate 16 (some []) } }
    (after .keyOpEnd (after (.zeroize 8) b)).keySlot 8 = none := by decide
theorem test_pendingInstall : let b := { ({} : Block) with sec := { pending := [(8, [1, 2])] } }
    (after (.keyPendingInstall 8) b).keySlot 8 = some [1, 2]
      ∧ (after (.keyPendingInstall 8) b).sec.pending = [] := by decide
theorem test_jobs : (after .gcmEnc (mk [(Reg.SEC.JOB_OP_SLOT, 8)])).rd Reg.SEC.JOB_STAT_RES = 5
    ∧ (after .gcmEnc (mk [(Reg.SEC.JOB_OP_SLOT, 7)])).rd Reg.SEC.JOB_STAT_RES = 6
    ∧ (after .edVerify {}).rd Reg.SEC.JOB_OP_OP = 7 ∧ (after .sha256 {}).rd Reg.SEC.JOB_OP_OP = 6 := by decide
/-- A SHA-256 job of no bytes runs. -/
def hashing : Block :=
  let j : Job := { op := 6, slot := 0, src := 0x20000000, dst := 0x20000100, len := 0, aad := 0, aadLen := 0, iv := 0, tag := 0, key := [] }
  { ({} : Block) with sec := { job := some j } }
theorem test_job_running : (after .xtsDec hashing).rd (Reg.HDR.ERR 0x04) = 2
    ∧ (after (.jobAbort false) hashing).sec.job.map (·.abort) = some true
      ∧ (after (.jobAbort true) hashing).sec = hashing.sec := by decide
theorem test_trng : (after .trngRead {}).free = 1 ∧ (after .trngHealthFail {}).trngFailed = true
    ∧ (after .trngRead (after .trngHealthFail {})).resp.word = 0 := by decide
/-- The debug port has power. -/
def ported (level : Nat) : Block := mk [(Reg.DBG.LEVEL_PORT_PWR, 1), (Reg.DBG.LEVEL_EFF, level)] (at' .field { now := 50 })
theorem test_tap : (after .idcode (ported 0)).resp.word = 0x125600B7 ∧ (after (.bypass [true, false]) (ported 0)).dbg.ir = 0x1F
    ∧ (after .tapReset (after (.bypass [true, false]) (ported 0))).dbg.ir = 1 := by decide
theorem test_nonce : let b := after .chalNonceRequest (ported 0)
    b.resp.bytes.length = 24 ∧ b.dbg.nonce.isSome = true
      ∧ (after .chalNonceExpire { b with now := 50 + 600000 }).dbg.nonce = none
      ∧ (after (.chalSignature true 60 (List.replicate 64 0)) b).rd Reg.DBG.CHAL_STAT_RES = 6 := by decide
theorem test_lockout : let b := { ported 0 with dbg := { lockEnd := some 9, wonEnd := some 50, won := 2 } }
    (after (.chalSignature true 60 []) b).rd Reg.DBG.CHAL_STAT_RES = 5 ∧ (after .chalLockoutEnd b).dbg.lockEnd = none
      ∧ (after .debugAuthExpire b).dbg.won = 0
      ∧ (after (.dbgReqWrite 0) (ported 2)).rd Reg.DBG.LEVEL_CEIL = 0 := by decide
theorem test_dhalt : (after (.dhalt 0 true none) (ported 2)).rd Reg.DBG.HALT_MAIN = 1
    ∧ (after (.dhalt 0 true none) (ported 2)).rd (Reg.HDR.PWM_FORCED 2) = 1
    ∧ (after (.dhalt 0 true none) (ported 1)).rd Reg.DBG.HALT_MAIN = 0 := by decide
theorem test_debugAccess : (after (.dacc 0x20000010 (some 0xAABBCCDD)) (ported 2)).val 0x20000010 4 = 0xAABBCCDD
    ∧ (after (.dacc 0x20000010 (some 1)) (ported 1)).val 0x20000010 4 = 0
    ∧ (after (.dread 0x40000C10 none) (mk [(Reg.HDR.IRQ_EN 0x03, 5)] (ported 1))).resp.word = 5 := by decide
theorem test_testStart : (after (.testStart 0x24) (at' .field)).rd (Reg.STEST.PEND_PAGES 1) = 16
    ∧ (after (.retest 0x24) (at' .field)).rd Reg.STEST.RETEST_RES_RES = 5
    ∧ (after (.retest 0x24) (at' .service)).rd Reg.STEST.RETEST_RES_RES = 1
    ∧ (after (.retest 0x06) (at' .service)).rd Reg.STEST.RETEST_RES_RES = 6 := by decide
/-- The test of page 0x29 runs. -/
def testing : Block := Block.startTest 0x29 false (after (.testStart 0x29) (at' .service))
theorem test_freezeAborts :
    let b := mk [(Reg.DBG.LEVEL_PORT_PWR, 1), (Reg.DBG.LEVEL_EFF, 2)] testing
    (after (.blockFreeze 0x29 true) b).rd (Reg.HDR.TEST_RES 0x29) = 3
      ∧ (after (.blockFreeze 0x29 true) b).test.running = [] := by decide
theorem test_testing : (after (.targetedTestStart 0x29 false) (after (.testStart 0x29) (at' .service))).rd (Reg.HDR.TEST_BUSY 0x29) = 1
    ∧ testing.test.running.length = 1
    ∧ (after (.targetedTestEnd 0x29 false true 0) { testing with edges := testing.edges + 100000 }).rd Reg.STEST.LAST_RES = 1
    ∧ (after (.targetedTestEnd 0x29 false true 0) testing).rd Reg.STEST.LAST_RES = 0
    ∧ (after (.testAbort 0x29) testing).rd (Reg.HDR.TEST_RES 0x29) = 3
      ∧ (after .abortAll testing).test.running = [] := by decide
/-- Pair 0 monitors a machine in FIELD, and both its channels run. -/
def paired : Block := mk [(Reg.SAFE.CFG_DISC_T 0, 20), (Reg.SAFE.PSTAT_RUN 0, 500), (Reg.SAFE.PSTAT_ACT 0, 1)]
  (at' .field { safe := { agree := [3, 0, 0, 0], disc := [20, 0] } })
theorem test_safetyPair : paired.pairEnabled 0 = true
    ∧ (after (.safetyFilterChange 0 0) paired).chanRun 0 0 = !paired.chanRun 0 0
    ∧ (after (.safetyClr 0) paired).rd (Reg.SAFE.CMD_RES 0) = 4
    ∧ (after (.safetyRestart 0) paired).rd (Reg.SAFE.PSTAT_ACT 0) = 0 := by decide
theorem test_discTimeout : let b := after (.safetyFilterChange 0 0) paired
    (after (.discTimeout 0) { b with safe := { b.safe with disc := [20, 0] } }).rd (Reg.SAFE.PSTAT_DISC 0) = 1 := by decide
theorem test_pulse : (after (.tpPulseCheck 0 [true, true, true, true]) paired).rd (Reg.SAFE.PSTAT_PULSE 0) = bit (paired.chanRun 0 0)
    ∧ (after .buckFault paired).rd Reg.PWR.SUPPLY_VCORE_OK = 0
      ∧ (after .buckFault paired).rd (Reg.HDR.ERR 0x02) = 8 := by decide

/-! Events, the recorder, the tag and the host port. -/

theorem test_eventRaise : (after (.eventRaise 0x30 5 1 0 7 8) (at' .field)).log.queue.length = 1
    ∧ (after (.eventRaise 0x30 5 1 0 7 8) (at' .dark)).log.aon.length = 1 := by decide
theorem test_wrGo : ((after .wrGo (mk [(Reg.LOG.WR_CODE_CODE, 5)] (at' .field))).log.queue.map (·.code)) = [0x6005]
    ∧ (after (.eventPortWrite true 9) {}).log.portRadio = [9]
    ∧ (after (.eventPortWrite true 9) { ({} : Block) with log := { portRadio := [1, 2] } }).log.queue.length = 1 := by decide
/-- One event waits for the recorder. -/
def recording : Block :=
  mk [(Reg.LOG.HELD_FOUND, 1)] (at' .field { log := { queue := [{ code := 0x30, source := 5, verdict := 0x1001, severity := 2 }] } })
theorem test_recordWrite : recording.recorderUp = true ∧ (after .recordWrite recording).rd Reg.LOG.HELD_FOUND = 2
    ∧ (after .recordWrite recording).log.queue = []
      ∧ (after .recordWrite recording).log.verdicts = [⟨0x1001, 2⟩] := by decide
theorem test_logAppend : let b := { recording with log := { recording.log with pending := [⟨1, 0, true⟩] }, now := 60000000 }
    (b.log.pending.find? b.mayAppend).isSome = true ∧ (after (.logAppend true) b).log.pending = []
      ∧ (after (.logAppend false) b).log.pending = b.log.pending ∧ (after .flush b).log.pending = [] := by decide
theorem test_foundClr : (after (.clrKeyWrite 0x46434C52) {}).log.clrKey = some 0
    ∧ (after .foundClr (mk [(Reg.LOG.HELD_FOUND, 9)] (at' .service { log := { clrKey := some 0 } }))).rd Reg.LOG.HELD_FOUND = 9 := by decide
theorem test_led : let b := at' .field { log := { verdicts := [⟨0x1001, 2⟩] } }
    (after .ledCycleStart b).rd Reg.GPIO.LED_STAT_SHOWN = 0x1001
      ∧ (after .ledCycleStart b).rd Reg.GPIO.LED_STAT_PATTERN = 2
      ∧ (after .ledAck (after .ledCycleStart b)).log.verdicts = [] := by decide

/-- NFC is clocked, as it is in a reader's field. -/
def near : Block := mk [(Reg.CLK.CSTAT_RUN, 511)] { md := { running := true } }
/-- A reader has selected the tag, and opened a session. -/
def selected : Block := mk [(Reg.TAG.FSTAT_AUTH, 1), (Reg.TAG.FSTAT_ACTIVE, 1), (Reg.TAG.CFG_FIELD_WR, 1)]
  { near with tag := { state := .active, password := some [1, 2, 3, 4] } }
theorem test_nfcField : (after .nfcFieldOn {}).tag.state = .idle ∧ (after .nfcFieldOff selected).tag.state = .off
    ∧ (after .reqa { near with tag := { state := .idle } }).resp.bytes = [0x44, 0x00]
    ∧ (after .wupa { near with tag := { state := .halted } }).tag.state = .ready1
    ∧ (after .hlta selected).tag.state = .halted := by decide
theorem test_nfcSelect : let b := { near with tag := { state := .ready1 } }
    (after (.anticollision false 0 0) b).resp.bytes = b.cascade false
      ∧ (after (.select false (b.cascade false)) b).tag.state = .ready2
      ∧ (after (.select false (b.cascade false)) b).resp.bytes.head? = some 0x04
      ∧ (after (.select true (b.cascade true)) { b with tag := { state := .ready2 } }).tag.state = .active := by decide
theorem test_nfcPages : (after (.nfcRead 4) selected).resp.bytes.length = 18 ∧ (after (.nfcRead 4) {}).resp.bytes = []
    ∧ (after (.nfcWrite 208 0x04030201) selected).val (tagBase + 4 * 208) 4 = 0x04030201
    ∧ (after (.nfcWrite 207 1) selected).resp.bytes = [0]
      ∧ (after (.sectorSelect 1) selected).tag.sector = 1 := by decide
theorem test_auth : (after (.auth 0x04030201) selected).rd Reg.TAG.FSTAT_AUTH = 1
    ∧ (after (.auth 0x04030202) selected).rd Reg.TAG.AUTH_FAIL_CNT = 1
      ∧ (after (.auth 0x04030202) selected).tag.state = .idle
    ∧ (after .authRst (after (.auth 0x04030202) selected)).rd Reg.TAG.AUTH_FAIL_CNT = 0
    ∧ (after (.tagBadFrame true) selected).resp.bytes = [1] := by decide
theorem test_tagWindow : (after (.tagWindowWrite 208 5) {}).rd Reg.TAG.FSTAT_BUSY = 1
    ∧ (after (.tagPageCommit true) (after (.tagWindowWrite 208 5) {})).val (tagBase + 4 * 208) 4 = 5
    ∧ (after (.tagPageCommit false) (after (.tagWindowWrite 208 5) {})).tag.bad = [208] := by decide
theorem test_tagJob : let b := { near with tag := { job := some 0, queue := [⟨.jobEnd, 4, [0, 0, 0, 0]⟩] }, now := 20000 }
    (after .tagJobTimeout b).rd Reg.TAG.JRES_RES = 3 ∧ (after .tagCommitAbort b).rd Reg.TAG.JRES_RES = 6
      ∧ (after .tagCommit b).rd (Reg.HDR.ERR 0x2A) = 4
      ∧ (after (.tagPageCommit true) b).tag.job = none := by decide
theorem test_statusArea : let b := at' .field { now := 1 }
    b.statusDue ≠ [] ∧ (after (.tagPageCommit true) (after .statusAreaCommit b)).val (tagBase + 4 * 201) 4 = leValue (b.statusPage 0 0) := by decide
theorem test_summaryCopy : let b := { near with tag := { sumQueue := [3] } }
    b.sumReady 3 = true ∧ (after .summaryCopy b).tag.sumQueue = [] := by decide

/-- HOST is on, and SRAM is open to all. -/
def hosted : Block := mk [(Reg.HDR.EN 0x2B, 1), (Reg.HOST.CFG_IDLE, 10)] (at' .field
  { sram := { rules := [(0x20000000, 0x201FFFFF, 0xFFFFFFF)] }, now := 3000 })
theorem test_hostWrite : (after (.hostWrite false 0x20000000 [7, 8]) hosted).val 0x20000004 4 = 8
    ∧ (after (.hostWrite false 0x20000000 [7, 8]) hosted).rd Reg.HOST.HSTAT_LAST = 0
    ∧ (after (.hostWrite false 0x20000000 []) hosted).rd Reg.HOST.HSTAT_LAST = 3
    ∧ (after (.hostWrite false 0x10000000 [7]) hosted).rd Reg.HOST.HSTAT_LAST = 1 := by decide
theorem test_hostRead : let b := after (.hostWrite false 0x20000000 [7]) hosted
    ((after (.hostRead false 0x20000000 1) b).resp.bytes.drop 2).take 4 = [7, 0, 0, 0]
      ∧ (after (.hostRead true 0x20000000 1) b).rd Reg.HOST.HSTAT_LAST = 7
      ∧ (after (.hostRead false 0x20000000 0) b).rd Reg.HOST.HSTAT_LAST = 3 := by decide
theorem test_hostMailbox : (after (.mbxSend false 9 0x20000000 4 1) hosted).rd (Reg.MBX.MSTAT_FULL 9) = 1
    ∧ (after (.mbxSend false 0 0x20000000 4 1) hosted).rd Reg.HOST.HSTAT_LAST = 6
    ∧ (after (.mbxTake false 8) hosted).resp.bytes.length = 13
      ∧ (after (.hostStatus false) hosted).resp.bytes.length = 12
    ∧ (after (.tagStat false) hosted).resp.bytes.length = 8 := by decide
/-- HOST_IRQ is driven while a mailbox whose receiver is HOST is FULL (R178). -/
theorem test_hostIrq : let b := mk [(Reg.HOST.HSTAT_ALIVE, 1), (Reg.MBX.TX_PTR_PTR 8, 0x20000000)] hosted
    b.hostIrq = false ∧ (after (.mbxPost .main 8 0x00500004#32) b).hostIrq = true
      ∧ (after (.mbxTake false 8) (after (.mbxPost .main 8 0x00500004#32) b)).hostIrq = false := by decide
theorem test_hostTag : (after (.tagRead false 4 1) hosted).rd Reg.HOST.HSTAT_LAST = 0
    ∧ (after (.tagRead false 256 1) hosted).rd Reg.HOST.HSTAT_LAST = 1
    ∧ (after (.tagWrite false 208 [1, 2]) hosted).tag.queue.length = 2
    ∧ (after (.tagWrite false 208 []) hosted).rd Reg.HOST.HSTAT_LAST = 3 := by decide
theorem test_hostBad : (after (.hostBadFrame true [3, 0, 0]) hosted).rd Reg.HOST.HSTAT_LAST = 2
    ∧ (after (.hostBadFrame false [3, 0, 0]) hosted).rd Reg.HOST.CRC_ERRS_COUNT = 1
    ∧ (after (.hostBadFrame false ([0x77] ++ leBytes 2 (crc16 [0x77]))) hosted).rd Reg.HOST.HSTAT_LAST = 3
    ∧ (after (.hostBadFrame false ([3] ++ leBytes 2 (crc16 [3]))) hosted).resp.bytes.length = 12
      ∧ (after (.hostFrameAbandon false) hosted).rd Reg.HOST.HSTAT_LAST = 5
    ∧ (after .hostIdleTimeout (hosted.wr Reg.HOST.HSTAT_ALIVE 1)).rd (Reg.HDR.ERR 0x2B) = 2 := by decide

/-! Calibration, flash, shared memory and the pages. -/

/-- SRAM is open to all in SERVICE. -/
def opened : Block := at' .service { sram := { rules := [(0x20000000, 0x201FFFFF, 0xFFFFFFF)] } }
theorem test_calRewrite : (after .calRewriteStart (at' .field)).rd Reg.CAL.RES_RES = 3
    ∧ (after .calRewriteStart (mk [(Reg.CAL.BUF_ADDR, 2)] opened)).rd Reg.CAL.RES_RES = 5
    ∧ (after (.calRewriteEnd true) (mk [(Reg.FLASH.OWNER_OWNER, 4)] { opened with cal := { job := some [1, 2, 3] } })).bytes calBase 3 = [1, 2, 3]
    ∧ (after (.calRewriteEnd false) (mk [(Reg.FLASH.OWNER_OWNER, 4)] { opened with cal := { job := some [1, 2, 3] } })).rd Reg.CAL.RES_RES = 6 := by decide
theorem test_calReload : let b := after .calReload { opened with cal := { reload := true, gain := [] } }
    b.cal.reload = false ∧ b.cal.gain = List.replicate 16 32768 := by decide
theorem test_flash : (after .erase (mk [(Reg.FLASH.ADDR_ADDR, 0x10300000)] opened)).rd Reg.FLASH.RES_RES
      = (if opened.flashRefused 0x10300000 then 5 else 2)
    ∧ (after .erase { opened with flash := { op := some ⟨1, 0x10300000, 0⟩ } }).rd (Reg.HDR.ERR 0x0E) = 1
    ∧ (after .program { opened with flash := { op := some ⟨1, 0x10300000, 0⟩ } }).rd (Reg.HDR.ERR 0x0E) = 1
    ∧ (after .flashAbort { opened with flash := { op := some ⟨1, 0x10300000, 0⟩ } }).rd Reg.FLASH.RES_RES = 4
    ∧ (after (.flashCacheMissSuspend 0x10000000) opened).resp.word = 0xFFFFFFFF := by decide
theorem test_flashOpEnd : (after (.flashOpEnd false) { opened with flash := { op := some ⟨1, 0x10300000, 0⟩ } }).flash.op.isSome = true
    ∧ (after (.flashOpEnd true) opened).flash = {} := by decide
/-- The loader comes before the recorder mirror and the gallery at a busy controller (R146). -/
theorem test_flashTurn : let b := mk [(Reg.FLASH.OWNER_OWNER, 5)] { opened with flash := { waiting := [3, 1, 2] } }
    (b.flashFree).rd Reg.FLASH.OWNER_OWNER = 1
      ∧ ((b.flashFree).flashGiveUp 1).rd Reg.FLASH.OWNER_OWNER = 2 := by decide
/-- MAIN's operation runs; what the part would do with flash meanwhile waits (R146, log entries 140 and 159). -/
def flashBusy : Block := mk [(Reg.FLASH.OWNER_OWNER, 5), (Reg.SEC.LC_STATE, 3)] opened
theorem test_flashWaits : (after .flush flashBusy).flash.due = [.flush] ∧ (after .clear flashBusy).flash.waiting = [3]
    ∧ (after (.checkpointRecordWrite true) flashBusy).flash.waiting = [3]
    ∧ (after .manifestCheck flashBusy).flash.waiting = [1]
    ∧ (after .updOpen flashBusy).flash.due = [.open_ 0] ∧ (after .updOpen flashBusy).rd Reg.UPD.USTAT_STATE = 0
    ∧ (after .updClose (flashBusy.wr Reg.UPD.USTAT_STATE 2)).flash.due = [.head]
    ∧ (after .activationCheckEnd (flashBusy.wr Reg.UPD.USTAT_STATE 6)).flash.waiting = [1] := by decide
theorem test_sramWrite : let b := after (.sramAccess 0 0x20000010 1 0 0x01020304 (some 0) [] false 0) opened
    b.val 0x20000010 4 = 0x01020304 ∧ (after (.sramAccess 0 0x20000010 0 0 0 (some 0) [] false 0) b).resp.word = 0x01020304
      ∧ (after (.sramAccess 0 0x20000010 0 0 0 (some 0) [] false 1) b).resp.word = 0x01020304
      ∧ (after (.sramAccess 0 0x20000010 0 0 0 (some 0) [] false 0x4000000000) b).resp.word = 0x01020304
      ∧ (after (.sramAccess 0 0x20000010 0 0 0 (some 0) [] false 5) b).resp.err = true
      ∧ (after (.sramAccess 0 0x30000010 0 0 0 (some 0) [] false 0) b).resp.err = true := by decide
/-- A burst is checked at its address phase; a next beat goes on, and without a burst it does nothing (R161). -/
theorem test_sramBurst : let b := after (.sramAccess 0 0x20000010 1 0 1 (some 1) [] false 0) opened
    opened.burstOf 0 = none ∧ b.burstOf 0 = some (0, 0x20000014, 1, 1)
      ∧ (after (.sramAccess 0 0 1 0 2 none [] false 0) { b with sram := { b.sram with rules := [] } }).val 0x20000014 4 = 2
      ∧ (after (.sramAccess 0 0 1 0 2 none [] false 0) b).burstOf 0 = none
      ∧ after (.sramAccess 0 0 1 0 2 none [] false 0) opened = { opened with resp := {} } := by decide
theorem test_sramDenied : let b := { opened with sram := { rules := [] } }
    (after (.sramAccess 2 0x20000010 1 0 5 (some 0) [] false 0) b).resp.err = true
      ∧ (after (.sramAccess 2 0x20000010 1 0 5 (some 0) [] false 0) b).val 0x20000010 4 = 0
      ∧ (after (.sramAccess 2 0x20000010 1 0 5 (some 0) [] false 0) b).rd Reg.FENCE.VIOL_ADDR_ADDR = 0x20000010 := by decide
theorem test_scrub : let b := mk [(Reg.ECC.SCRUB_RATE, 2)] opened
    Store.find (fun _ => 0) (after (.scrubRead 3 false [] 0 false) b).sram.scrubbed 3 = 1
      ∧ (after (.eccInject 3) (b.wr Reg.ECC.INJ_ADDR_ADDR 0x20000000)).sram.inject.isSome = true
      ∧ (after (.eccInject 7) (b.wr Reg.ECC.INJ_ADDR_ADDR 0x20000000)).sram.inject = none := by decide
/-- The tick runs. -/
def clocked : Block := mk [(Reg.CLK.CSTAT_PLL_LOCK, 1)] opened
theorem test_fences : (after .fenceCommit opened).rd Reg.HDR.FENCE_PENDING = 1
    ∧ (after (.fenceApply [true, true, true, true]) (after .fenceCommit clocked)).rd Reg.HDR.FENCE_PENDING = 0
    ∧ (after (.fenceApply [true, true, true, true]) (after .fenceCommit clocked)).sram.rules = opened.pendingRules
    ∧ (after (.bwlResWrite 1 2 100) {}).resOf 1 2 = 100
    ∧ (after (.bwlResWrite 1 2 100) {}).rd (Reg.BWL.TOTAL_SUM 2) = (after (.bwlResWrite 1 2 100) {}).bankSum 2 := by decide
/-- `IRQ_EN` of page 0x03 has bits 4:0 (Table TICK-8); a write by LOOP or with SYS off does nothing. -/
theorem test_registerWrite : (after (.registerWrite .main 0x40000C10 0x99) opened).rd (Reg.HDR.IRQ_EN 0x03) = 0x19
    ∧ (after (.registerWrite .loop 0x40000C10 0x99) opened).rd (Reg.HDR.IRQ_EN 0x03) = 0
    ∧ (after (.registerWrite .main 0x40000C10 0x99) (at' .dark)).rd (Reg.HDR.IRQ_EN 0x03) = 0 := by decide
theorem test_readClear : (after (.readClear .main 0x40000C10) (mk [(Reg.HDR.IRQ_EN 0x03, 5)] opened)).resp.word = 5
    ∧ (after (.blkSummaryRead .main) (mk [(Reg.HDR.CLAMP_COUNT 3, 5)] opened)).rd (Reg.HDR.CLAMP_COUNT 3) = 0
    ∧ (after (.subwordRegisterAccess .main 0x40000C10) opened).resp.word = 0
    ∧ (after (.unmappedAccess .main 0x50000000) opened).resp.err = true
    ∧ (after (.pageAccessDenied true 0x10 true) opened).log.queue.map (·.code) = [0x0C] := by decide
theorem test_pageControls : (after (.lockWrite 5) opened).rd (Reg.HDR.LOCKED 5) = 1
    ∧ (after (.blockFreeze 0x24 true) (mk [(Reg.DBG.LEVEL_EFF, 2)] opened)).rd (Reg.HDR.FREEZE 0x24) = 1
    ∧ (after (.irqPendClear 0x03 4) (mk [(Reg.HDR.IRQ_RAW 0x03, 6)] opened)).rd (Reg.HDR.IRQ_RAW 0x03) = 2
    ∧ (after .repClr { opened with clamps := [⟨1, 1, 0, 0, 0, 0, 0⟩] }).clamps = [] := by decide
theorem test_softReset : let b := mk [(Reg.ADC.SYNC_MASK, 77)] opened
    (after (.softReset 0x24) b).rd Reg.ADC.SYNC_MASK = 0xFF
      ∧ (after (.softReset 0x24) (b.wr (Reg.HDR.LOCKED 0x24) 1)).rd Reg.ADC.SYNC_MASK = 77
      ∧ (after (.softReset 0x25) (mk [(Reg.SAFE.CFG_DISC_T 0, 777)] opened)).rd (Reg.SAFE.CFG_DISC_T 0) = 777 := by decide
theorem test_windowWrite : (after (.windowWrite 3 0x048 0x06000000) opened).rd (Reg.LW.SEL_TGT 3) = 6
    ∧ (after (.windowWrite 3 0x048 0x06000000) (mk [(ofSlot Reg.LOOP.LSTAT_CUR 3, 2)] opened)).rd (Reg.HDR.ERR 0x20) = 1 := by decide

/-! The CAN controller and the implement protocol. -/

/-- The controller runs, with one frame queued. -/
def frame : TxEntry := { id := 5, dlc := 8, limit := 2, tag := 0x10, d0 := 1, d1 := 2 }
def canned : Block := mk [(Reg.HDR.EN 0x26, 1), (Reg.HDR.EN 0x27, 1), (Reg.HDR.CAN_RUN, 1)] (at' .field
  { can := { queue := [frame] }, sram := { rules := [(0x20000000, 0x201FFFFF, 0xFFFFFFF)] } })
theorem test_canEnable : (after .canEnable (at' .field)).rd Reg.HDR.CAN_RUN = 1
    ∧ (after (.canDisable .own) canned).can.stopping = true
      ∧ (after (.canDisable .idle) canned).can.queue = [] := by decide
theorem test_txPush : (after .txPush (mk [(Reg.CAN.TX_CTL_TAG, 3)] canned)).can.queue.length = 2
    ∧ (after .txPush (mk [(Reg.CAN.TX_CTL_TAG, 0xF0)] canned)).rd Reg.CAN.TX_STAT_PUSH_RES = 3
    ∧ (after .txPush (mk [] { canned with can := { queue := List.replicate 32 frame } })).rd Reg.CAN.TX_STAT_PUSH_RES = 2
    ∧ (after .txdmaGo (mk [(Reg.CAN.TXDMA_ADDR_ADDR, 0x20000000), (Reg.CAN.TXDMA_N_N, 1)] canned)).rd Reg.CAN.TXDMA_STAT_RES = 2 := by decide
theorem test_txAttempt : (after (.canTxAttemptEnd .sent 0 false) canned).can.queue = []
    ∧ (after (.canTxAttemptEnd (.error 3) 0 false) canned).tec = 8
    ∧ (after (.canTxAttemptEnd (.error 3) 0 false) canned).can.queue.map (·.attempts) = [1]
    ∧ (after (.canTxAttemptEnd .lost 0 false) canned).can = { canned.can with other := true } := by decide
theorem test_txAbort : (after (.txAbort 0x10 false true) canned).can.queue.map (·.abort) = [true]
    ∧ (after (.txAbort 0 true false) canned).can.queue = [] ∧ (after (.canBusError 2 false 0) canned).rec' = 1
    ∧ (after (.canBusError 2 true 0) canned).tec = 8 := by decide
theorem test_recover : let b := mk [(Reg.CAN.ERRC_STATE, 2), (Reg.CAN.ERRC_REC, 9)] canned
    (after .recover b).rd Reg.CAN.ERRC_STATE = 3 ∧ (after .recoveryEnd (after .recover b)).rd Reg.CAN.ERRC_STATE = 0
      ∧ (after .recoveryEnd (after .recover b)).rec' = 0 := by decide
theorem test_canReceive : let b := after (.canFrameReceive 5 2 [0xA, 0xB] 0) canned
    b.can.fifo.length = 1 ∧ b.rd Reg.CANRX.FIFO_STAT_NEXT_SEQ = 1
      ∧ (after (.w0Read .main) b).rd Reg.CANRX.FIFO_STAT_LOCKED = 1
      ∧ (after (.w3Read .main) (after (.w0Read .main) b)).can.fifo = []
      ∧ (after (.txDoneRead .main) { canned with can := { done := [(0x110, 0)] } }).resp.word = 0x910 := by decide
theorem test_ringWrite : let b := mk [(Reg.CANRX.RING_CFG_EN, 1)] { canned with can := { fifo := [⟨5, 6, 7, 8, 9⟩], ringBase := 0x20000000 } }
    (after .ringWrite b).can.fifo = [] ∧ (after .ringWrite b).val 0x2000000C 4 = 8 := by decide
theorem test_tickFrames : (after .syncQueue (mk [(Reg.TICK.POS_DRIP, 95)] canned)).can.queue.map (·.tag) = [0x10, 0xF1]
    ∧ (after .heartbeatQueue (mk [(Reg.TICK.POS_DRIP, 97), (Reg.TICK.POS_POOL, 5)] canned)).can.queue.map (·.tag) = [0x10, 0xF2]
    ∧ (after .sectCmdQueue (mk [(Reg.TICK.POS_DRIP, 92), (Reg.CAN.NODE_READY 0, 1)] canned)).tick.pushed = [0] := by decide

/-- A confirmed partner at address 0x10. -/
def partnered : Block := { canned with lip := { partners := [{ addr := 0x10, uid := 7, kind := 0, image := true, seq0 := 0, confirmed := true, missed := 3 }] } }
theorem test_announce : (after (.announce 9 1 false) canned).lip.partners.map (·.uid) = [9]
    ∧ (after (.announce 9 7 false) canned).lip.partners = []
    ∧ (after (.partnerHeartbeat 0 1 none) partnered).lip.partners.map (fun p => (p.missed, p.state)) = [(0, 1)]
    ∧ (after (.partnerLoss 0) partnered).lip.partners = [] := by decide
theorem test_assignLapse :
    let b := { canned with lip := { partners := [{ addr := 0x10, uid := 7, kind := 0, image := false, seq0 := 0 }] }, now := 3000 }
    (after (.assignLapse 0) b).lip.partners = []
      ∧ (after .discover { canned with lip := { discover := true } }).lip.discover = false
      ∧ (after .nodeImageLoad partnered).lip.send.map (·.content) = [1]
      ∧ (after (.report 0 true 2 9 50) partnered).lip.pulse.head? = some (0x10 * 4 + 2, 9, 50) := by decide
def receiving : Block := after (.btData 0 0 [1, 2, 3, 4, 5, 6, 7]) (after (.btOpen 0 0x80 7 1) partnered)
theorem test_btReceive : let c := receiving
    c.lip.recv.map (·.block) = [1]
      ∧ (after (.btEnd 0 (BitVec.ofNat 32 (crc32 [1, 2, 3, 4, 5, 6, 7])) 7) c).lip.delivered = some (0x80, 1, [1, 2, 3, 4, 5, 6, 7])
      ∧ (after (.btReceiveTimeout 0) { c with md := { pools := 400 } }).lip.recv = [] := by decide
/-- A transfer of content 2 waits for the answer to its block. -/
def sending : Block :=
  { partnered with lip := { partnered.lip with
    send := [{ peer := 0x10, content := 2, tag := 1, addr := 0x20000000, len := 900, stage := 1, since := 0, gone := true }] }, md := { pools := 20 } }
theorem test_btSend : (after (.btAck 0 0 1 0) sending).lip.send.map (·.block) = [1]
    ∧ (after (.btAckTimeout 0) sending).lip.send.map (·.timeouts) = [1] ∧ (after (.btAbort 0) sending).lip.send = []
    ∧ (after (.btHold 0 1) (mk [(Reg.PWR.PPV_LEVEL, 1)] { sending with lip := { sending.lip with
        send := sending.lip.send.map fun t => { t with stage := 3 } } })).lip.send.map (·.holdSent) = [true] := by decide

/-! The gallery. -/

/-- FIELD, with the map restored, at drip `d`. -/
def plot (d : Nat) : Block := mk [(Reg.TICK.POS_DRIP, d), (Reg.GAL0.MAPSTAT_RESTORED, 1)] (at' .field { now := 30000 })
theorem test_galleryLatch : (after .galleryInputLatch (plot 9)).gal.latched = true
    ∧ (after .galleryInputLatch (plot 9)).rd (Reg.HDR.IRQ_RAW 0x10) = 1
      ∧ (after .galleryInputLatch (plot 8)).gal.latched = false := by decide
theorem test_galleryEvaluation : let b := { plot 50 with gal := { latched := true } }
    (after (.galleryEvaluation 7 []) b).gal.evaluated = true
      ∧ (after (.galleryEvaluation 7 []) b).rd Reg.TICK.GAL_PEAK_PEAK = 7 := by decide
theorem test_sectionLatch : let b := mk [(Reg.CAN.NODE_READY 2, 1)] (plot 90)
    (after .sectionCommandLatch b).gal.cmds.map (·.1) = ((List.range 64).map (· + 0x10)).filter b.nodeReady := by decide
theorem test_boundaryLoad : (after (.boundaryLoad 0) (plot 0)).rd Reg.GAL0.BND_NPOLY = 0
    ∧ (after (.boundaryLoad 0) (plot 0)).rd Reg.TICK.GAL_PRED_PRED
        = (plot 0).galPredWith ((plot 0).rd Reg.GAL0.GRID_CELL) ((plot 0).rd Reg.GAL0.EVAL_BISECT) 0 := by decide
theorem test_holdExpiry : (after .holdExpiry { plot 0 with gal := { holdAt := some 0 }, ft := 10000000 * 65536 }).rd Reg.GAL0.STATUS_HOLD_EXP = 1 := by decide
theorem test_observationEnd : let o : Obs := { cls := 1, sec := 3, opening := true, sw := 5000 }
    (after (.delayObservationEnd 1) { plot 0 with gal := { obs := [o] } }).gal.obs = [] := by decide
theorem test_capEdge : let b := mk [(Reg.CAP.CFG_EN 2, 1), (Reg.CAP.CFG_EDGE 2, 1), (Reg.CAP.CFG_FILT 2, 3)] (plot 0)
    (after (.capEdge 2 true 3 100) b).rd (Reg.CAP.COUNT_COUNT 2) = 1
      ∧ (after (.capEdge 2 true 2 100) b).rd (Reg.HDR.ERR 0x2F) = 4
      ∧ (after (.capEdge 2 true 3 100) b).rd (Reg.CAP.LAST_CYC_CYC 2) = 100 := by decide
theorem test_checkpoint : let b := { plot 0 with gal := { dirty := [7], ckptPools := 1000 } }
    (after .checkpointStart b).gal.ckpt.map (·.tiles) = some [7] ∧ (after .ckpt b).rd Reg.GAL0.MAPSTAT_BUSY = 1
      ∧ (after (.checkpointRecordWrite true) { plot 0 with gal := { ckpt := some { tiles := [], num := 4 } } }).rd Reg.GAL0.CKPT_NUM_NUM = 4 := by decide
theorem test_clear : after .clear { plot 0 with gal := { dirty := [1] } } = { plot 0 with gal := { dirty := [1] } }
    ∧ (after .journalFold (mk [(Reg.GAL0.MAPSTAT_SUSP, 1)] (plot 0))).gal = (plot 0).gal
    ∧ (Block.emptyMap { plot 0 with mem := [(Block.coverBase, 5)], sram := { rules := [(0x20000000, 0x201FFFFF, 1)] } }).mem
        = [(Block.coverBase, 5)] := by decide

/-! The receiver. -/

/-- The GNSS core runs in FIELD. -/
def tracking : Block := at' .field { agents := { gnss := true, radio := true }, sram := { rules := [(0x20000000, 0x201FFFFF, 0xFFFFFFF)] }, now := 200000 }
theorem test_gnssStart : (after (.gnssStart front []) { tracking with gnss := { startDue := true } }).gnss.startDue = false
    ∧ (after (.gnssStart front []) { tracking with gnss := { startDue := true } }).antDet 0 = tracking.antClass 0 20 := by decide
theorem test_antShort : let b := after (.antBiasShort 0) (mk [(Reg.GFE.ANT_STAT_BIAS_ON 0, 1), (Reg.GFE.ANT_CFG_BIAS_EN 0, 1)] tracking)
    b.antDet 0 = 3 ∧ b.rd (Reg.HDR.ERR 0x14) = 1
      ∧ (after (.antBiasRetry 0 20) { b with now := b.now + 100000 }).rd (Reg.GFE.ANT_STAT_BIAS_ON 0) = 1
      ∧ (after (.antBiasRetry 0 61) { b with now := b.now + 100000 }).antDet 0 = 3 := by decide
theorem test_antReclassify : let b := mk [(Reg.GFE.ANT_STAT_DET 1, 2)] { tracking with gnss := { goodPools := [0, 10], jamPools := [100, 0] } }
    (after (.antReclassify 1) b).antDet 1 = 1 ∧ (after (.jamStay 0) b).rd (Reg.HDR.ERR 0x14) = 32 := by decide
theorem test_notch : let b := mk [(Reg.GNOTCH.CFG_MODE 0, 1), (Reg.GNOTCH.THR_THR, 12)] tracking
    (after (.notchEngage 0 [(5000, 12)]) b).rd (Reg.GNOTCH.NSTAT_ACTIVE 0) = 1
      ∧ (after (.notchEngage 0 [(5000, 11)]) b).rd (Reg.GNOTCH.NSTAT_ACTIVE 0) = 0
      ∧ (after (.notchRelease 0) { after (.notchEngage 0 []) (after (.notchEngage 0 [(5000, 12)]) b) with now := 210000 }).rd (Reg.GNOTCH.NSTAT_ACTIVE 0) = 0
      ∧ (after (.notchRelease 0) { after (.notchEngage 0 [(5000, 12)]) b with now := 210000 }).rd (Reg.GNOTCH.NSTAT_ACTIVE 0) = 1 := by decide
theorem test_gacq : let b := after (.gacqStart .gnss none) (mk [(Reg.GACQ.LANE_EN 3, 1)] tracking)
    b.rd Reg.GACQ.SSTAT_BUSY = 1 ∧ (after (.gacqAbort .gnss) b).rd Reg.GACQ.SSTAT_RES = 2
      ∧ (after (.gacqSearchEnd [(0, 0), (0, 0), (0, 0), (77, 9)]) { b with now := 900000 }).rd (Reg.GACQ.RES_CODE 3) = 77
      ∧ (after (.gacqStart .radio none) tracking).rd Reg.GACQ.SSTAT_BUSY = 0 := by decide
theorem test_gfft : let j : FftJob := { src := 0x20000000, dst := 0x20000400, mask := 1, k := 0, blocks := 0, thr := 5 }
    (after (.gfftStart .gnss) { tracking with gnss := { fft := some j } }).rd (Reg.HDR.ERR 0x17) = 1
      ∧ (after (.gfftAbort .gnss) { tracking with gnss := { fft := some j } }).rd Reg.GFFT.JSTAT_RES = 3
      ∧ (after (.gfftJobEnd []) { tracking with gnss := { fft := some j } }).gnss.fft = none := by decide
theorem test_channel : let b := after (.channelEnable .gnss 5 7 3 100) tracking
    (b.chan 5).state = 1 ∧ b.rd (Reg.GTRK.CFG_PRN 5) = 7 ∧ ((after (.channelPllLock 5) b).chan 5).state = 3
      ∧ ((after (.channelCoast 5 0) (after (.channelPllLock 5) (b.wr Reg.GTRK.COAST_CN0_LOSS 20))).chan 5).state = 4 := by decide
theorem test_coasting :
    let c : Chan := { state := 4, slip := true, coastAt := 100 }
    let b := mk [(Reg.GTRK.COAST_MAX, 10)] { tracking with gnss := { chans := List.replicate 48 c } }
    ((after (.channelLost 5) b).chan 5).state = 5
      ∧ ((after (.channelCoastResume 5 200) { b with now := 1100 }).chan 5).state = 3
      ∧ ((after (.channelCoastResume 5 200) { b with now := 1101 }).chan 5).state = 4 := by decide
theorem test_assistance : let b := after (.mbxPost .main 0 0x0012001C#32) (mk [(Reg.MBX.TX_PTR_PTR 0, 0x20000000)] tracking)
    (after .assistanceNotice b).heldNotice 0 = none
      ∧ (after .assistanceNotice b).gnss.apos = List.replicate 28 0 := by decide
theorem test_navData : let b := mk [(Reg.TICK.POS_POOL, 5)] tracking
    (after (.navDataPost true 0x20000000 []) b).heldNotice 1 ≠ none
      ∧ (after (.navDataPost true 0x20000000 []) tracking).heldNotice 1 = none := by decide
theorem test_pvt : let b := { tracking with gnss := { edged := true, epochFt := 99 } }
    (after (.pvtSolution fix) b).rd (Reg.GPVT.REC_WORD 0) % 2 ^ 16 = 0x5650
      ∧ (after (.pvtSolution fix) b).rd (Reg.GPVT.REC_WORD 2) = 99 := by decide
theorem test_post :
    let b := mk [(Reg.GPVT.REC_WORD 0, 0x02015650), (Reg.GPVT.REC_WORD 2, 99), (Reg.GPVT.RING_ADDR, 0x20000000)]
      { tracking with gnss := { edged := true, epochFt := 99, epochAt := 199900 } };
    (after (.post .gnss) b).rd Reg.GPVT.PSTAT_SEQ = 1 ∧ (after (.post .gnss) b).gnss.recPosted = true
      ∧ (after (.post .gnss) (b.wr (Reg.GPVT.REC_WORD 2) 98)).rd Reg.GPVT.PSTAT_STALE = 1 := by decide
theorem test_rtcm : let b := after (.mbxPost .main 4 0x00300006#32) (mk [(Reg.MBX.TX_PTR_PTR 4, 0x20000000), (Reg.MBX.CFG_SENDER 4, 0)] tracking)
    (after .rtcmReceive b).heldNotice 4 = none := by decide
theorem test_gsnap : (after (.gsnapStart 1 0) tracking).gnss.request = some (1, 0)
      ∧ (after (.gsnapStart 0 0) tracking).rd Reg.GSNAP.SSTAT_RES = 3
    ∧ (after .captureBegin (after (.gsnapStart 1 0) tracking)).rd Reg.GSNAP.SSTAT_BUSY = 1
    ∧ (after (.snapshotInterval 10000000) (at' .snapshot)).gnss.request
        = some ((at' .snapshot).rd Reg.PWR.SNAP_ANT, (at' .snapshot).rd Reg.PWR.SNAP_LEN) := by decide
theorem test_snapEnds : (after (.gsnapAbort [] []) tracking).gnss.grabs = []
      ∧ (after (.captureEnd 0 [] []) tracking).gnss.grabs = [] := by decide

/-! The radio, field time and the update controller. -/

/-- A data frame of Table RAD-2 to the address 0 stands in `TX_BUF`. -/
theorem test_txGo : let b := mk [(Reg.RAD.TX_CTL_KEYIDX, 2), (Reg.RAD.TX_CTL_LEN, 28), (Reg.RAD.TX_BUF_DATA 0, 0xFF01DC69),
      (Reg.RAD.TX_BUF_DATA 1, 0xFF)] { tracking with sec := { slots := List.replicate 16 (some []) } }
    (after (.txGo 0x20000000) b).rd Reg.RAD.TX_STAT_RES = 1 ∧ (after (.txGo 0x20000000) b).rd Reg.RADSEC.FC_FC = 1
      ∧ (after (.txGo 0x20000000) { b with sec := {} }).rd Reg.RAD.TX_STAT_RES = 6
      ∧ (after (.txGo 0x20000000) (b.wr Reg.RADSEC.FC_FC 0xFFFFFFFF)).rd Reg.RAD.TX_STAT_RES = 8
      ∧ (after (.txGo 0x20000000) (b.wr Reg.RAD.TX_CTL_LEN 27)).rd Reg.RAD.TX_STAT_RES = 0
      ∧ (after (.txGo 0x20000000) (b.wr Reg.PWR.PPV_LEVEL 2)).rd Reg.RAD.TX_STAT_RES = 7 := by decide
theorem test_txEnd : let b := { tracking with radio := { tx := some { uni := true, key := 4, kind := 5, mseq := 0, tries := 3 } } }
    (after (.radioTxEnd 0 0x20000000) { b with radio := { tx := some { uni := true, key := 4, kind := 5, mseq := 0, keyLost := true } } }).rd Reg.RAD.TX_STAT_RES = 5
      ∧ (after (.radioTxEnd 0 0x20000000) { b with sec := { slots := List.replicate 16 (some []) } }).rd Reg.RAD.TX_STAT_RES = 2
      ∧ (after (.radioAckTimeout 0x20000000) (mk [(Reg.RAD.MAC_RETRIES, 3)] { b with sec := { slots := List.replicate 16 (some []) } })).rd
          Reg.RAD.TX_STAT_RES = 3
      ∧ (after (.radioAckTimeout 0x20000000) (mk [(Reg.RAD.MAC_RETRIES, 4)] { b with sec := { slots := List.replicate 16 (some []) } })).radio.tx.map
          (·.tries) = some 4 := by decide
theorem test_radioDrops : (after (.radioFrameReceive 0 true false [0, 0, 0, 0] 0 0) tracking).rd Reg.RAD.DROP_FORMAT = 1
    ∧ (after (.radioFrameReceive 0 false false [0, 0, 0, 1] 0 0) tracking).rd Reg.RAD.COUNTS_CRC_BAD = 1
    ∧ (after (.radioFrameReceive 0 true false [0, 0, 0, 0] 0 0) (at' .field)).rd Reg.RAD.DROP_FORMAT = 0 := by decide
theorem test_rxPop : let f : RadioRx := { psdu := [], link := [5], src := 1, rssi := 9, sfd := 77 }
    let b := { tracking with radio := { queue := [f] } }
    (after .rxPop b).radio.taken = some f ∧ (after .rxPop b).rd Reg.RAD.RSSI_LAST = 9
      ∧ (after .rxPop b).rd (Reg.RAD.LAST_SFD_FT 0) = 77 := by decide
/-- A link frame has been taken. -/
def takenLink (l : List Byte) : Block := { tracking with radio := { taken := some { psdu := [], link := l, src := 8, rssi := 0, sfd := 0 } } }
theorem test_corr : (after (.corr 0x20000000) (takenLink [1, 4, 0, 0, 0, 0, 0xD3])).radio.corr = some (4, 1, [0xD3]) := by decide
theorem test_batt : (after (.batt 0x20000000) (takenLink [3, 0, 9, 0, 1, 0, 0, 0])).radio.taken = none
    ∧ (after (.battFragmentTimeout 3) { tracking with radio := { parts := [⟨3, [], 0⟩] }, now := 300000 }).radio.parts = []
    ∧ (after (.battFragmentTimeout 3) { tracking with radio := { parts := [⟨3, [], 1⟩] }, now := 300000 }).radio.parts.length = 1 := by decide
theorem test_sched :
    let b := after (.sched 0x20000000) (takenLink [4, 1, 7, 0, 5, 0, 2, 0, 0, 0, 0, 0, 60, 0, 0, 0])
    b.radio.schedVer = some 7 ∧ b.radio.sched.map (·.id) = [5] := by decide
theorem test_schedStart : let e : SchedEntry := { id := 1, kind := 2, chan := 0, start := 0, dur := 6, rate := 0 }
    (after (.schedEntryStart 0 0) { tracking with radio := { sched := [e] } }).radio.quietTo = 60000 := by decide
theorem test_msg : (after (.msg 0x20000000) (takenLink [5, 3, 65])).radio.lastMsg = [(8, 3)]
    ∧ (after .time (takenLink (2 :: 1 :: 0 :: 5 :: List.replicate 12 0))).radio.beaconAt = 200000
    ∧ (after .bcnPost tracking).radio = tracking.radio := by decide
theorem test_wantedMap : let b := after (.mbxPost .main 2 0x00500104#32) (mk [(Reg.MBX.TX_PTR_PTR 2, 0x20000000)] tracking)
    (after .wantedMapNotice b).heldNotice 2 = none := by decide
theorem test_need : (after .need { tracking with radio := { wanted := 8 } }).radio.lastNeed = some 200000
    ∧ (after .need { tracking with radio := { wanted := 0 } }).radio.lastNeed = none := by decide
/-- DARK with the RADIO core kept. -/
def dark : Block := at' .dark { agents := { radio := true }, radio := { window := some 100, listening := some 50, period := 10 } }
theorem test_darkWindows : (after (.listenWindowEnd 328) dark).radio.listening = none
      ∧ (after (.listenWindowEnd 328) dark).radio.window = some 100
    ∧ (after (.beaconWindow 327680) { dark with radio := { period := 10 } }).radio.missed = 1
    ∧ (after (.holdAreaReplay 0x20000000) tracking).radio = tracking.radio := by decide

theorem test_timeSample : let b := at' .wake { ft := 5000 * 65536 }
    (after (.timeSample true 1 0 0) b).rd Reg.TIME.TSTAT_SRC = 2
      ∧ (after (.timeSample false 1 0 0) b).rd Reg.TIME.TSTAT_SRC = 1
      ∧ (after (.timeSample true 1 0 0) b).ft = b.ft
      ∧ (after (.timeSample true 1 0 0) b).time.act.map (·.slew) = some false := by decide
theorem test_timeStep : let b := at' .wake { time := { act := some ⟨false, 7, 0, false⟩ }, tick := { pools := 1 } }
    (after .fieldTimeStep b).ft = 7 * 65536 ∧ (after .fieldTimeStep b).time.act = none := by decide
theorem test_slew : let b := after .slewStart (at' .wake { time := { act := some ⟨true, 250000, 0, false⟩ } })
    b.rd Reg.TIME.TSTAT_SLEW = 1 ∧ (after .slewEnd { b with now := 6 }).rd Reg.TIME.TSTAT_SLEW = 0
      ∧ (after .slewEnd { b with now := 5 }).rd Reg.TIME.TSTAT_SLEW = 1 := by decide
/-- With CAN off, a slew that a SYNC began ends at its time, or at a pool edge after it (R418). -/
def slewing (drip now : Nat) : Block := mk [(Reg.TICK.POS_DRIP, drip)]
  (at' .wake { time := { slew := some { need := 100000, began := 0, bySync := true } }, now })
theorem test_slewCanOff :
    (after .slewEnd (slewing 5 3)).time.slew.isSome = true ∧ (after .slewEnd (slewing 5 2)).time.slew = none
      ∧ (after .slewEnd (slewing 0 3)).time.slew = none := by decide
theorem test_timeSource : (after .timeSourceTimeout (mk [(Reg.TIME.TSTAT_SRC, 2)] (at' .wake))).rd Reg.TIME.TSTAT_SRC = 0
    ∧ (after (.seed 1) (mk [(Reg.TIME.TSTAT_AON_LOST, 1)] (at' .wake))).rd Reg.TIME.TSTAT_SEED_USED = 1 := by decide

theorem test_updOpen : (after .updOpen (mk [(Reg.UPD.USTAT_STATE, 1)] (at' .wake))).rd Reg.UPD.USTAT_OPEN_RES = 3
    ∧ (after .updOpen (mk [(Reg.UPD.USTAT_STATE, 4), (Reg.UPD.TAG_TAG, 9)] (at' .wake))).rd Reg.UPD.USTAT_STATE = 1
    ∧ (after .updOpen (mk [(Reg.UPD.USTAT_STATE, 4), (Reg.UPD.TAG_TAG, 9)] (at' .wake))).upd.toOpen = some 9 := by decide
theorem test_updAccept : (after (.updAccept false 0) (at' .wake)).rd Reg.UPD.ACC_RES_RES = 5
    ∧ (after (.updAccept false 0) (mk [(Reg.UPD.USTAT_STATE, 3)] (at' .wake))).rd Reg.UPD.ACC_RES_RES = 1
    ∧ (after (.updAccept false 0) (mk [(Reg.UPD.USTAT_STATE, 4), (Reg.UPD.BATT_ADDR_ADDR, 0x20000002)] (at' .wake))).rd Reg.UPD.ACC_RES_RES = 10
    ∧ (after .manifestCheck (mk [(Reg.UPD.USTAT_STATE, 4)] (at' .wake))).rd Reg.UPD.USTAT_STATE = 4
    ∧ (after .updClose (at' .wake)).rd Reg.UPD.USTAT_STATE = 0 := by decide
theorem test_activation : (after .updActivate (mk [(Reg.UPD.USTAT_STATE, 5), (Reg.UPD.NB_LO_DRIP, 77)] (at' .wake))).upd.notBefore = (77, 0)
    ∧ (after .updActivate (mk [(Reg.UPD.USTAT_STATE, 5)] (at' .wake))).rd Reg.UPD.USTAT_STATE = 6
    ∧ (after .activationCheckEnd (mk [(Reg.UPD.USTAT_STATE, 6)] (at' .wake))).rd Reg.UPD.ACT_RES_RES = 3
    ∧ (after (.activationStart false) (mk [(Reg.UPD.USTAT_STATE, 7)] (at' .wake))).upd.paused = true
    ∧ (after (.activationStart true) (mk [(Reg.UPD.USTAT_STATE, 7)] (at' .field))).md.leaving.isSome = true
    ∧ (after .updDisarm (mk [(Reg.UPD.USTAT_STATE, 7)] (at' .wake))).rd Reg.UPD.USTAT_STATE = 5 := by decide
theorem test_activationMark : (after (.activationStart true) (mk [(Reg.UPD.USTAT_STATE, 7)] (at' .wake))).rd Reg.UPD.USTAT_STATE = 8 := by decide

end Sys2Proof.Tests
end

section
/-! SUPPORT. Key operations that are refused: a programmed KS01 or KS05 is fixed for the life of the part (R112). -/

namespace Sys2Proof.Machine
namespace Block

/-- A programmed KS01 or KS05 is REFUSED in every lifecycle state. -/
theorem progRefusal_of_recorded {b : Block} {n : Nat} (hn : n = 1 ∨ n = 5) (hRec : b.recorded n 0 = true) :
    b.progRefusal n = some 2 := by
  obtain rfl | rfl := hn
  · simp [progRefusal, hRec]
  · simp [progRefusal, hRec]

@[simp] theorem keyOpRefusal_progOtp (b : Block) (n blob : Nat) : b.keyOpRefusal 5 n blob = b.progRefusal n := rfl

/-- An operation that is refused while none runs writes its result and does no more. -/
theorem keyOpStart_refused {b : Block} {code n r : Nat} (hIdle : b.is Reg.KEY.OP_STAT_BUSY = false)
    (hRef : b.keyOpRefusal code n (b.rd Reg.KEY.BLOB_ADDR) = some r) :
    b.keyOpStart code n = b.wr Reg.KEY.OP_STAT_RES r := by
  simp [keyOpStart, hIdle, hRef]

/-- A field written alone is the frame of the write. -/
theorem Frame.of_wr (f : Fld) (v : Nat) (b : Block) : b.Frame [f] (b.wr f v) :=
  ⟨(SameRegs.refl [f] b).wr v (.head _), (SameMem.refl b).of_eq⟩

end Block

theorem exec_progOtp (slot : Fin 32) (s : State) :
    exec (.progOtp slot) s = .next { blk := s.blk.keyOpStart 5 slot, pending := s.pending } := rfl

/-- Settles O5: the refusal is decided before anything but the result is written. -/
theorem otpKeysFixed : Obligations.OtpKeysFixed := by
  intro n hn b hRec hIdle q
  have hRefused : b.keyOpStart 5 n = b.wr Reg.KEY.OP_STAT_RES 2 :=
    Block.keyOpStart_refused hIdle (by rw [Block.keyOpRefusal_progOtp, Block.progRefusal_of_recorded hn hRec])
  refine ⟨b.wr Reg.KEY.OP_STAT_RES 2, ?_, ?_, Block.Frame.of_wr _ _ b, by rw [Block.wr_sec]⟩
  · rw [exec_progOtp, hRefused]
  · exact Block.rd_wr_same _ 2 b (by decide)

end Sys2Proof.Machine
end

section
/-! SUPPORT. The CRC-16 of R134 as a 16-bit register: the model counts in natural numbers, and each of its steps is the
register's. -/

namespace Sys2Proof.Machine

/-- One shift of the register, most significant bit first, under the polynomial of R134. -/
def crc16Shift (c : BitVec 16) : BitVec 16 := if c.msb then (c <<< 1) ^^^ 0x1021#16 else c <<< 1

/-- One byte taken into the register's high end and shifted out. -/
def crc16Take (c : BitVec 16) (d : Byte) : BitVec 16 :=
  (List.range 8).foldl (fun c _ => crc16Shift c) (c ^^^ (d.zeroExtend 16 <<< 8))

/-- The bit that `crc16Bit` compares for is the register's most significant one, and neither branch leaves 16 bits. -/
theorem crc16Bit_toNat (c : BitVec 16) : crc16Bit c.toNat = (crc16Shift c).toNat := by
  have hMsb : c.msb = decide (0x8000 ≤ c.toNat) := BitVec.msb_eq_decide c
  by_cases hTop : 0x8000 ≤ c.toNat
  · simp [crc16Bit, crc16Shift, hMsb, hTop, Nat.shiftLeft_eq]
  · have hFits : c.toNat * 2 % 0x10000 = c.toNat * 2 := by omega
    simp [crc16Bit, crc16Shift, hMsb, hTop, Nat.shiftLeft_eq, hFits]

theorem toNat_byte_high (d : Byte) : (d.zeroExtend 16 <<< 8 : BitVec 16).toNat = d.toNat * 256 := by
  have hFits : d.toNat * 256 < 0x10000 := by omega
  simp [Nat.shiftLeft_eq, hFits]

theorem crc16Byte_toNat (c : BitVec 16) (d : Byte) : crc16Byte c.toNat d = (crc16Take c d).toNat := by
  rw [crc16Byte, crc16Take, ← toNat_byte_high, ← BitVec.toNat_xor]
  exact List.foldl_hom BitVec.toNat fun c _ => crc16Bit_toNat c

/-- The CRC-16 of any bytes is the content of the register, so it never exceeds 16 bits. -/
theorem crc16_eq_toNat (bs : List Byte) : crc16 bs = (bs.foldl crc16Take 0xFFFF#16).toNat :=
  List.foldl_hom BitVec.toNat (init := 0xFFFF#16) crc16Byte_toNat

theorem crc16_append_singleton (bs : List Byte) (d : Byte) :
    crc16 (bs ++ [d]) = (crc16Take (BitVec.ofNat 16 (crc16 bs)) d).toNat := by
  rw [crc16_eq_toNat, crc16_eq_toNat, List.foldl_append, List.foldl_cons, List.foldl_nil,
    BitVec.ofNat_toNat, BitVec.setWidth_eq]

/-- The check value: the CRC-16 of the ASCII digits 1 to 9. -/
theorem crc16_checkValue : crc16 [0x31, 0x32, 0x33, 0x34, 0x35, 0x36, 0x37, 0x38, 0x39] = 0x29B1 := by
  simp [crc16, crc16Byte, crc16Bit, List.range_succ]

/-- Settles O4: a byte more is one `crc16Take` more of the 16-bit register that `crc16` counts. -/
theorem crc16Obligation : Obligations.Crc16 :=
  ⟨rfl, crc16_append_singleton, crc16_checkValue⟩

end Sys2Proof.Machine
end
